-- ==== Sys2Proof/Word.lean ====
section
/-! DEFINITION. The numbers and names every other file uses: bytes, port and destination numbers, sets of destinations. -/

namespace Sys2Proof

/-- A byte of the host line, of a card or of a drive. -/
abbrev Byte := BitVec 8

/-- A card port number, 0 to 7 (1.5). -/
abbrev Port := Fin 8

/-- A destination number, 0 to 3 (1.5). -/
abbrev Dest := Fin 4

/-- A Verify Engine number, 0 or 1 (7.4). -/
abbrev EngineIx := Fin 2

/-- A set of destinations: bit d stands for destination d, as the "Set" bytes of the message layouts (spec/01) send it. -/
abbrev DestSet := BitVec 4

/-- The four destinations in number order. -/
abbrev allDests : List Dest := [0, 1, 2, 3]

/-- The eight card ports in port order. -/
abbrev allPorts : List Port := [0, 1, 2, 3, 4, 5, 6, 7]

/-- The identity of a drive: its capacity in blocks and its serial text (R99). -/
structure DestIdentity where
  capacity : Nat
  serial : List Byte
  deriving DecidableEq, Repr

end Sys2Proof
end

