-- ==== Sys2Proof/Syntax.lean ====
section
/-! DEFINITION. The commands of the block: one constructor of `Instr` per row of spec/opcode_table.json. The table gives the rows no
fields; an operand is what the outside supplies with the event. The fields of a host request travel in its frame, which RX_BYTE
brings into the inbound buffer, so a request's constructor is the moment at which dispatch takes that frame (R6).

`data` operands: byte i of the answer is entry i of the list, and 0 beyond its end, so a short list writes down an answer whose
remaining bytes are 0 (assumption log 5). -/

namespace Sys2Proof

/-- A decision of the arbiter of card port `port` (R84). `arbiterFirst` says, at a port that has just become free, that the arbiter
decides before the reader joins the waiting set (assumption log 28). -/
structure SegmentStart where
  port : Port
  arbiterFirst : Bool
  deriving DecidableEq, Repr

inductive Instr where
  /-- HARD_RESET (R1): RESET returns high; `rateHigh` is the RATE strap (R2). -/
  | hardReset (rateHigh : Bool)
  /-- SOFT_RESET (R13). -/
  | softReset
  /-- RX_BYTE (R3): the eight data bits, the parity bit and the stop bit as received (R2). -/
  | rxByte (bits : Byte) (parityBit stopBit : Bool)
  /-- INTERBYTE_GAP_TIMEOUT (R4). -/
  | interbyteGapTimeout
  /-- UNKNOWN_REQUEST (R6). -/
  | unknownRequest
  /-- IDENTIFY (R9). -/
  | identify
  /-- STATUS_GET (R10). -/
  | statusGet
  /-- CONFIG_SET (R11). -/
  | configSet
  /-- FLAGS_CLEAR (R12). -/
  | flagsClear
  /-- DEVICE_RESET (R13). -/
  | deviceReset
  /-- FRAME_SEND_END (R8). -/
  | frameSendEnd
  /-- CARD_SURVEY (R22). -/
  | cardSurvey
  /-- JOB_OPEN (R40). -/
  | jobOpen
  /-- JOB_FINAL (R42). -/
  | jobFinal
  /-- JOB_PAUSE (R43). -/
  | jobPause
  /-- JOB_RESUME (R43). -/
  | jobResume
  /-- JOB_ABORT (R44). -/
  | jobAbort
  /-- JOB_QUERY (R48). -/
  | jobQuery
  /-- CARD_RELEASE (R146). -/
  | cardRelease
  /-- CLIP_BEGIN (R50). -/
  | clipBegin
  /-- EXTENTS_ADD (R51). -/
  | extentsAdd
  /-- CLIP_COMMIT (R53). -/
  | clipCommit
  /-- CLIP_CANCEL (R55). -/
  | clipCancel
  /-- CLIP_QUERY (R56). -/
  | clipQuery
  /-- CLIP_RECOPY (R139). -/
  | clipRecopy
  /-- CLIP_REVERIFY (R138). -/
  | clipReverify
  /-- DEST_ATTACH (R100). -/
  | destAttach
  /-- DEST_DETACH (R102). -/
  | destDetach
  /-- DEST_QUERY (R104). -/
  | destQuery
  /-- MONITOR_SET (R155). -/
  | monitorSet
  /-- HOLD_RESUME (R160). -/
  | holdResume
  /-- KNOWN_LIST_QUERY (R34). -/
  | knownListQuery
  /-- KNOWN_LIST_CLEAR (R34). -/
  | knownListClear
  /-- PRESENCE_APPEAR (R19) at card port `p`. -/
  | presenceAppear (p : Port)
  /-- PRESENCE_DROP (R19) at card port `p`. -/
  | presenceDrop (p : Port)
  /-- SETTLE_TIMER_EXPIRY (R19) at card port `p`. -/
  | settleTimerExpiry (p : Port)
  /-- CARD_REMOVAL (R20): the absence at card port `p` has reached 3 ms. -/
  | cardRemoval (p : Port)
  /-- ADAPTER_ERROR_ANSWER (R17) at card port `p`. -/
  | adapterErrorAnswer (p : Port)
  /-- CARD_REQUEST_TIMEOUT (R16) at card port `p`. -/
  | cardRequestTimeout (p : Port)
  /-- ERROR_CONFIRM (R17) at card port `p`. -/
  | errorConfirm (p : Port)
  /-- CARD_ABANDONED_ANSWER (R15) at card port `p`. -/
  | cardAbandonedAnswer (p : Port)
  /-- LAMP_BLINK_TOGGLE (R24) at card port `p`. -/
  | lampBlinkToggle (p : Port)
  /-- SURVEY_START (R26). -/
  | surveyStart
  /-- SURVEY_IDENTIFY_ANSWER (R27): the adapter's OK answer. -/
  | surveyIdentifyAnswer (capacity : Nat) (writeProtect : Bool) (adapterType : Byte) (label : List Byte)
  /-- SURVEY_READ_DONE (R28): the bytes of blocks 0 to 63. -/
  | surveyReadDone (data : List Byte)
  /-- SLOT_GRANT (R66). -/
  | slotGrant
  /-- CHUNK_REQUEST_DONE (R72) at card port `p`, `waitMs` milliseconds after the last time the model's clock moved. -/
  | chunkRequestDone (p : Port) (data : List Byte) (waitMs : Nat)
  /-- SOURCE_SEGMENT_START (R84). -/
  | sourceSegmentStart (start : SegmentStart)
  /-- SOURCE_SEGMENT_REQUEST_DONE (R85) at card port `p`. -/
  | sourceSegmentRequestDone (p : Port) (data : List Byte)
  /-- DEST_LINK_UP (R98) at destination `d`. -/
  | destLinkUp (d : Dest)
  /-- DEST_LINK_DOWN (R103) at destination `d`. -/
  | destLinkDown (d : Dest)
  /-- DEST_IDENTIFY_ANSWER (R99) at destination `d`: the drive's identity, or none for an ERROR answer. -/
  | destIdentifyAnswer (d : Dest) (answer : Option DestIdentity)
  /-- DEST_REQUEST_TIMEOUT (R97) at destination `d`. -/
  | destRequestTimeout (d : Dest)
  /-- BRIDGE_ABANDONED_ANSWER (R96) at destination `d`. -/
  | bridgeAbandonedAnswer (d : Dest)
  /-- DEST_ARBITER_DECIDE (R116) at destination `d`. -/
  | destArbiterDecide (d : Dest)
  /-- DEST_WRITE_OK (R107) at destination `d`. -/
  | destWriteOk (d : Dest)
  /-- DEST_WRITE_ERROR (R108) at destination `d`. -/
  | destWriteError (d : Dest)
  /-- DEST_FLUSH_OK (R112) at destination `d`. -/
  | destFlushOk (d : Dest)
  /-- DEST_FLUSH_ERROR (R113) at destination `d`. -/
  | destFlushError (d : Dest)
  /-- DEST_READ_OK (R114) at destination `d`. -/
  | destReadOk (d : Dest) (data : List Byte)
  /-- DEST_READ_ERROR (R115) at destination `d`. -/
  | destReadError (d : Dest)
  /-- ENGINE_TAKE_TASK (R125). -/
  | engineTakeTask
  /-- PACE_TIMER_EXPIRY (R153); `before` are the destinations whose monitors act before the Progress Reporter, the others acting after
  it (R171). -/
  | paceTimerExpiry (before : DestSet)
  /-- RESET_HELD_LOW (R1). -/
  | resetHeldLow
  deriving DecidableEq, Repr

end Sys2Proof
end

