-- ==== Sys2Proof/Config.lean ====
section
/-! DEFINITION. What the part fixes: the capacities and codes IDENTIFY reports (R9), the limits of its tables, the digest's
modulus (R88) and the configuration table (R11). The spec leaves no value open that a command would need, so there is no free
value here (assumption log 18). -/

namespace Sys2Proof.Config

/-- Vendor code (R9). -/
def vendorCode : Nat := 0x5746
/-- Part code (R9). -/
def partCode : Nat := 0x0084
/-- Revision byte (R9). -/
def revision : Nat := 1
/-- Card ports (R9). -/
def cardPorts : Nat := 8
/-- Destinations (R9). -/
def destinations : Nat := 4
/-- Staging slots (R9, R61). -/
def slots : Nat := 1024
/-- Job records (R9, R36). -/
def jobRecords : Nat := 12
/-- Clip records (R9, R49). -/
def clipRecords : Nat := 4096
/-- Extent Store entries (R9, R57). -/
def extentEntries : Nat := 32768
/-- Known-Card List entries (R9, R33). -/
def knownEntries : Nat := 64
/-- Frames the inbound buffer holds (R5). -/
def inboundFrames : Nat := 4
/-- Notices the Notice Queue holds (R165). -/
def noticeEntries : Nat := 64
/-- Extents one list of a clip holds (R51). -/
def listExtents : Nat := 64
/-- Bytes in a block (1.4). -/
def blockBytes : Nat := 512
/-- Blocks in a full chunk, a slot and a segment (R68, R126). -/
def chunkBlocks : Nat := 8192
/-- Bytes in a slot: 4 MiB (4.1). -/
def slotBytes : Nat := 4194304
/-- Blocks of one READ or WRITE request at most (1.7, R71, R106). -/
def requestBlocks : Nat := 2048
/-- Blocks the survey reads (R28). -/
def surveyBlocks : Nat := 64
/-- Retries of one adapter request (R27, R28, R73, R85). -/
def cardRetries : Nat := 3
/-- The largest slot quota (R40). -/
def maxQuota : Nat := 512
/-- The digest's modulus P = 2^32 - 5 (R88). -/
def digestModulus : Nat := 4294967291
/-- The SYNC byte (R3). -/
def sync : Byte := 0xA5#8

/-- The lowest value of the setting with key code `key` (R11). -/
def keyLow (key : Nat) : Nat :=
  match key with
  | 1 => 50 | 2 => 0 | 3 => 100 | 4 => 1000 | 5 => 1 | 6 => 0 | 7 => 1 | 8 => 1 | _ => 0

/-- The highest value of the setting with key code `key` (R11). -/
def keyHigh (key : Nat) : Nat :=
  match key with
  | 1 => 2000 | 2 => 1 | 3 => 10000 | 4 => 60000 | 5 => 255 | 6 => 255 | 7 => 16 | 8 => 32 | _ => 1

end Sys2Proof.Config
end

