-- ==== Sys2Proof/Machine/State.lean ====
section
/-! DEFINITION. Everything the spec gives the block to hold, as plain data, and its values right after a hard reset. Tables of records
(jobs, clips, slots) list the records in use by rising number; every other record is free. -/

namespace Sys2Proof.Machine

open Sys2Proof

/-- The reasons for which the block stops: none. Every rule of the spec answers a bad event with a status, a flag, a notice or a
discarded answer, and those are effects on State. -/
inductive Fault where
  deriving DecidableEq, Repr

/-- The reasons for which a command has no meaning. -/
inductive Refusal where
  /-- Raised only by an arm of `exec` whose command has no meaning yet (safe). No arm raises it. -/
  | notModelled (mnemonic : String)
  deriving DecidableEq, Repr

/-- Records in use, by rising number; a number that is not listed is a free record (R36, R49, R61). -/
abbrev Table (α : Type) := List (Nat × α)

/-! ### Message Port (spec/01) -/

/-- A well-formed frame without its SYNC, LEN and CHECK (R3). Inbound it is a request, outbound a reply or a notice. -/
structure Frame where
  kind : Byte
  tag : Byte
  payload : List Byte
  deriving DecidableEq, Repr

/-- The receiver's two conditions (R3). While assembling it holds the bytes after SYNC in the order received. -/
inductive Receiver where
  | hunting
  | assembling (bytes : List Byte)
  deriving DecidableEq, Repr

/-- The sticky link flags (R4). -/
structure LinkFlags where
  parity : Bool
  framing : Bool
  check : Bool
  gap : Bool
  overrun : Bool
  deriving DecidableEq, Repr

/-- The configuration table (R11). -/
structure Settings where
  settleMs : Nat
  autoSurvey : Nat
  cardTimeoutMs : Nat
  destTimeoutMs : Nat
  paceWindowMs : Nat
  reportInterval : Nat
  verifyShare : Nat
  flushBatch : Nat
  verifyRetry : Nat
  deriving DecidableEq, Repr

/-- The defaults of R11. -/
def defaultSettings : Settings :=
  ⟨250, 1, 2000, 10000, 20, 25, 4, 8, 1⟩

/-! ### Card ports and the Survey Unit (spec/02) -/

/-- The states of a card port. -/
inductive PortState where
  | empty | settling | present | surveying | identified | bound | released | fault
  deriving DecidableEq, Repr

/-- A slot lamp's colours (R23). -/
inductive Lamp where
  | off | green | amber | red | blinking
  deriving DecidableEq, Repr

/-- What a card adapter's OK answer to IDENTIFY carries (R15, R27). -/
structure AdapterIdentity where
  capacity : Nat
  writeProtect : Bool
  adapterType : Byte
  label : List Byte
  deriving DecidableEq, Repr

/-- A card identity record (R30); its label length is the length of `label`. -/
structure CardIdentity where
  capacity : Nat
  writeProtect : Bool
  adapterType : Byte
  label : List Byte
  fingerprint : BitVec 64
  deriving DecidableEq, Repr

/-- The two requests a card adapter answers (1.7). -/
inductive CardAsk where
  | identify
  | read (start count : Nat)
  deriving DecidableEq, Repr

/-- The block that issued an adapter request, or an abandoned one with the job it read for (R15, R46). -/
inductive CardOwner where
  | survey
  | chunk
  | segment
  | abandoned (job : Option Nat)
  deriving DecidableEq, Repr

/-- The request that occupies an adapter link: the time it is allowed (R16) and whether its ERROR is held (R17). -/
structure CardRequest where
  ask : CardAsk
  owner : CardOwner
  allowedMs : Nat
  errorHeld : Bool
  deriving DecidableEq, Repr

/-- A card port. `settle` is the settle timer with the settle_ms it was started with; `absence` says that the absence timer runs. -/
structure CardPort where
  present : Bool
  state : PortState
  settle : Option Nat
  absence : Bool
  identity : Option CardIdentity
  job : Option Nat
  readError : Bool
  request : Option CardRequest
  lamp : Lamp
  blinkLit : Bool
  deriving DecidableEq, Repr

/-- The two steps of a survey; the READ step keeps the IDENTIFY answer (R27). -/
inductive SurveyStep where
  | identify
  | read (answer : AdapterIdentity)
  deriving DecidableEq, Repr

/-- The survey in progress (R26 to R28). -/
structure Survey where
  port : Port
  step : SurveyStep
  retries : Nat
  deriving DecidableEq, Repr

/-! ### Digest accumulators (spec/05) -/

/-- The two accumulators of a digest computation (R89). -/
structure Acc where
  a : Nat
  b : Nat
  deriving DecidableEq, Repr

/-- The accumulators at the start of every computation (R89). -/
def Acc.start : Acc := ⟨1, 0⟩

/-! ### Jobs and clips (spec/03) -/

/-- The states of a live job (R37). -/
inductive JobState where
  | reading | drained | closing
  deriving DecidableEq, Repr

/-- A live job record (R36); `holdChanged` is the flag the Progress Reporter keeps for it (R163). -/
structure Job where
  state : JobState
  binding : Option Port
  identity : CardIdentity
  destSet : DestSet
  destIds : Vector (Option DestIdentity) 4
  required : Nat
  sourceVerify : Bool
  quota : Nat
  intakeFinal : Bool
  paused : Bool
  order : List Nat
  cursor : Nat
  recopy : List Nat
  softHold : DestSet
  hardHold : DestSet
  tasksIssued : Bool
  clearable : Bool
  attention : Bool
  holdChanged : Bool
  deriving DecidableEq, Repr

/-- One extent of a source or target list (R49). -/
structure Extent where
  start : Nat
  count : Nat
  deriving DecidableEq, Repr

/-- A clip's source state (R49). -/
inductive SourceState where
  | building | queued | reading | staged | sourceError
  deriving DecidableEq, Repr

/-- A copy's state (R141). -/
inductive CopyState where
  | none | pending | written | flushed | verifying | verified | mismatch | failed | suspect
  deriving DecidableEq, Repr

/-- Why a copy last ended badly (R141). -/
inductive Cause where
  | none | writeError | readError | destLost | digest | sourceChanged | aborted
  deriving DecidableEq, Repr

/-- A clip's source-verify state (R49). -/
inductive SvState where
  | off | waiting | queued | verifying | matched | mismatch
  deriving DecidableEq, Repr

/-- A copy (R141). -/
structure Copy where
  state : CopyState
  written : Nat
  retryUsed : Bool
  cause : Cause
  deriving DecidableEq, Repr

/-- A copy as CLIP_BEGIN leaves it (R49). -/
def Copy.fresh : Copy := ⟨.none, 0, false, .none⟩

/-- A live clip record (R49). `nextBlock` and `acc` are the read checkpoint; `passMembers` are the members of the recopy set that are
in the current pass (R81), and a pass is in progress exactly while it has members (R82). -/
structure Clip where
  job : Nat
  label : List Byte
  length : Nat
  source : List Extent
  targets : Vector (List Extent) 4
  sourceState : SourceState
  nextBlock : Nat
  acc : Acc
  digest : BitVec 64
  copies : Vector Copy 4
  sv : SvState
  recopySet : DestSet
  passMembers : DestSet
  deriving DecidableEq, Repr

/-! ### Staging Buffer and Source Readers (spec/04) -/

/-- A slot that is not FREE (R61). `staged` is no while FILLING; `writing` are the destinations with a write of it in flight (R63). -/
structure Slot where
  staged : Bool
  job : Nat
  clip : Nat
  first : Nat
  count : Nat
  pending : DestSet
  recopy : Bool
  writing : DestSet
  deriving DecidableEq, Repr

/-- A chunk read in flight (R71). `done` blocks of it have been read; `cancelled` says that it ends with its request in flight
(R76, R82). -/
structure ChunkRead where
  slot : Nat
  clip : Nat
  job : Nat
  first : Nat
  count : Nat
  done : Nat
  recopy : Bool
  acc : Acc
  cancelled : Bool
  deriving DecidableEq, Repr

/-- A verify segment in flight at a card port (R85) or at a destination (R114); `cancelled` says that its job was aborted. -/
structure Segment where
  engine : EngineIx
  first : Nat
  count : Nat
  done : Nat
  cancelled : Bool
  deriving DecidableEq, Repr

/-- The card-port read arbiter's turn (R84). -/
inductive Turn where
  | chunk | segment
  deriving DecidableEq, Repr

/-- The model's own record of how a card port stands (assumption log 28): `busy` while a card read is in flight on it (item 7 of R69); `freed`
when it has just become free, so that the arbiter may still decide before the reader has joined the waiting set (R84); `idle` else. -/
inductive PortUse where
  | idle | busy | freed
  deriving DecidableEq, Repr

/-- A Source Reader (4.4) with its card-port read arbiter. -/
structure Reader where
  chunk : Option ChunkRead
  retries : Nat
  waiting : Bool
  turn : Turn
  segment : Option Segment
  segWaiting : List EngineIx
  blocksRead : BitVec 64
  deriving DecidableEq, Repr

/-! ### Destination ports (spec/06) -/

/-- The states of a destination port (6.2). -/
inductive DestState where
  | absent | identifying | identified | online | failed
  deriving DecidableEq, Repr

/-- The four requests a drive bridge answers (1.7). -/
inductive BridgeAsk where
  | identify
  | write (start count : Nat)
  | flush
  | read (start count : Nat)
  deriving DecidableEq, Repr

/-- The request that occupies a bridge link (R96), the time it is allowed (R97) and whether it is its second attempt. -/
structure BridgeRequest where
  ask : BridgeAsk
  abandoned : Bool
  allowedMs : Nat
  retried : Bool
  deriving DecidableEq, Repr

/-- The operation in flight at a destination port (R106, R111, R114). A write carries how many of its chunk's blocks are written and
whether its job was aborted (R109). -/
inductive DestOp where
  | write (slot done : Nat) (cancelled : Bool)
  | flush (clips : List Nat)
  | segment (seg : Segment)
  deriving DecidableEq, Repr

/-- A destination port. `linkUp` is the level of its bridge link. -/
structure DestPort where
  linkUp : Bool
  state : DestState
  identity : Option DestIdentity
  writeQueue : List Nat
  awaiting : List Nat
  segWaiting : List EngineIx
  op : Option DestOp
  request : Option BridgeRequest
  writeCount : Nat
  blocksWritten : BitVec 64
  writeErr : Bool
  readErr : Bool
  timeout : Bool
  deriving DecidableEq, Repr

/-! ### Verification (spec/07) -/

/-- A target of a verify task: a destination, or the card itself. -/
inductive Target where
  | dest (d : Dest)
  | source
  deriving DecidableEq, Repr

/-- A verify task (R121). -/
structure Task where
  clip : Nat
  target : Target
  retry : Bool
  deriving DecidableEq, Repr

/-- An engine's segment (7.4). -/
inductive EngineSeg where
  | none | waiting | inFlight
  deriving DecidableEq, Repr

/-- A Verify Engine (7.4): its task with the task's job, its next block, its accumulators and its segment. -/
structure Engine where
  task : Option (Task × Nat)
  next : Nat
  acc : Option Acc
  seg : EngineSeg
  deriving DecidableEq, Repr

/-- A free engine (R140). -/
def Engine.idle : Engine := ⟨none, 0, none, .none⟩

/-! ### Pressure Monitors (spec/09) -/

/-- Monitor modes (R154). -/
inductive MonitorMode where
  | off | notify | soft | hard
  deriving DecidableEq, Repr

/-- Monitor edge modes (R154). -/
inductive EdgeMode where
  | none | rise | fall | both
  deriving DecidableEq, Repr

/-- A Pressure Monitor (R154). -/
structure Monitor where
  mode : MonitorMode
  level : Nat
  edge : EdgeMode
  holdoff : Nat
  above : Bool
  tripped : Bool
  deriving DecidableEq, Repr

/-! ### Notices (spec/10) -/

/-- Causes of SURVEY_FAILED (R29). -/
inductive SurveyCause where
  | adapter | read | tooSmall
  deriving DecidableEq, Repr

/-- Reasons of DEST_STATE (R98). -/
inductive DestReason where
  | linkUp | identifyOk | identifyFailed | attached | reidentify | detached | forcedDetach | linkDown | writeFailed | flushFailed
  deriving DecidableEq, Repr

/-- Causes of LINK_FAULT (R4, R5). -/
inductive LinkCause where
  | parity | framing | length | check | gap | overrun
  deriving DecidableEq, Repr

/-- A copy's or a source's new state as COPY_STATE carries it (R167). -/
inductive CopyNews where
  | copy (d : Dest) (state : CopyState)
  | source (state : SvState)
  deriving DecidableEq, Repr

/-- One card port's entry of a report (R169). -/
structure PortEntry where
  state : PortState
  job : Option Nat
  paused : Bool
  held : Bool
  holdChanged : Bool
  blocksRead : BitVec 64
  deriving DecidableEq, Repr

/-- One destination's entry of a report (R169). -/
structure DestEntry where
  state : DestState
  backlog : Nat
  blocksWritten : BitVec 64
  tasks : Nat
  deriving DecidableEq, Repr

/-- A progress report (R169). `holdChanged` lists the handles of the live jobs whose flag is set. -/
structure Report where
  windowCount : Nat
  slotsUsed : Nat
  missed : BitVec 32
  holdChanged : List Nat
  ports : List PortEntry
  dests : List DestEntry
  deriving DecidableEq, Repr

/-- A notice with the payload taken from its event when it was queued (R167). -/
inductive Notice where
  | cardInserted (p : Port)
  | cardRemoved (p : Port) (job : Option Nat)
  | cardIdentified (p : Port) (id : CardIdentity)
  | cardKnown (p : Port) (fingerprint : BitVec 64)
  | surveyFailed (p : Port) (cause : SurveyCause)
  | jobRebound (job : Nat) (p : Port)
  | jobDrained (job : Nat)
  | jobClosed (job : Nat)
  | cardClearable (job : Nat) (p : Option Port)
  | cardUnclearable (job : Nat) (p : Option Port)
  | clipReadError (job clip block cardBlock : Nat) (label : List Byte)
  | copyState (job clip : Nat) (news : CopyNews) (cause : Cause)
  | destState (d : Dest) (state : DestState) (reason : DestReason)
  | monitorCrossing (d : Dest) (downward : Bool) (backlog : Nat)
  | linkFault (cause : LinkCause)
  | progress (report : Report)
  deriving DecidableEq, Repr

/-! ### The whole block -/

/-- The state of the GP-84. `portUse` (log 28), `now` (the model's clock in ms) and `pending` (the commands that wait) are the model's own. -/
structure State where
  resetLow : Bool
  rate : Bool
  rx : Receiver
  inbound : List Frame
  dispatch : Option Frame
  waitingReply : Option Frame
  sending : Option Frame
  resetPending : Bool
  linkFlags : LinkFlags
  cfg : Settings
  ports : Vector CardPort 8
  surveyQueue : List Port
  survey : Option Survey
  known : List (BitVec 64)
  jobs : Table Job
  clips : Table Clip
  slots : Table Slot
  freeSlots : List Nat
  lastGranted : Port
  mem : List Host.Cell
  readers : Vector Reader 8
  portUse : Vector PortUse 8
  dests : Vector DestPort 4
  verifyQueue : List Task
  engines : Vector Engine 2
  windowPeriod : Nat
  windowStart : Nat
  windowCount : Nat
  monitors : Vector Monitor 4
  notices : List Notice
  missed : BitVec 32
  expiryCount : Nat
  now : Nat
  pending : List Instr
  deriving DecidableEq, Repr

/-- A card port after a hard reset with no card present (R35). -/
def CardPort.reset : CardPort :=
  { present := false, state := .empty, settle := none, absence := false, identity := none, job := none, readError := false,
    request := none, lamp := .off, blinkLit := false }

/-- A Source Reader after either reset (R86). -/
def Reader.reset : Reader :=
  { chunk := none, retries := 0, waiting := false, turn := .chunk, segment := none, segWaiting := [], blocksRead := 0 }

/-- A destination port after a hard reset with its link down (R120). -/
def DestPort.reset : DestPort :=
  { linkUp := false, state := .absent, identity := none, writeQueue := [], awaiting := [], segWaiting := [], op := none,
    request := none, writeCount := 0, blocksWritten := 0, writeErr := false, readErr := false, timeout := false }

/-- A Pressure Monitor after a hard reset (R154). -/
def Monitor.reset : Monitor :=
  { mode := .soft, level := 5, edge := .rise, holdoff := 5, above := false, tripped := false }

/-- The free-slot list after either reset (R62). -/
def allSlots : List Nat := List.range' 0 1024

/-- The block right after a hard reset with no card present, every bridge link down and the RATE strap low (R14, R35, R60, R86, R120,
R140, R164, R172; the inputs are the model's choice, assumption log 4). -/
def State.reset : State :=
  { resetLow := false, rate := false, rx := .hunting, inbound := [], dispatch := none, waitingReply := none, sending := none,
    resetPending := false, linkFlags := ⟨false, false, false, false, false⟩, cfg := defaultSettings,
    ports := Vector.replicate 8 CardPort.reset, surveyQueue := [], survey := none, known := [], jobs := [], clips := [],
    slots := [], freeSlots := allSlots, lastGranted := 7, mem := [], readers := Vector.replicate 8 Reader.reset,
    portUse := Vector.replicate 8 .idle, dests := Vector.replicate 4 DestPort.reset, verifyQueue := [], engines := Vector.replicate 2 Engine.idle,
    windowPeriod := 20, windowStart := 0, windowCount := 0, monitors := Vector.replicate 4 Monitor.reset, notices := [],
    missed := 0, expiryCount := 0, now := 0, pending := [] }

end Sys2Proof.Machine
end

