-- ==== Sys2Proof/Machine/Basic.lean ====
section
/-! DEFINITION. Helpers every operation uses: byte order, sets of destinations, tables of records, the byte codes of the code tables. -/

namespace Sys2Proof.Machine

open Sys2Proof

/-! ### Byte order: multi-byte fields are little-endian (1.5) -/

/-- The `n` bytes of a field holding `v`, the first byte least significant. -/
def leBytes : Nat → Nat → List Byte
  | 0, _ => []
  | n + 1, v => BitVec.ofNat 8 v :: leBytes n (v / 256)

/-- The number a field's bytes spell, the first byte least significant. -/
def leNat : List Byte → Nat
  | [] => 0
  | b :: bs => b.toNat + 256 * leNat bs

/-- A flag as one byte: 1 for yes, 0 for no. Where the layout table names no codes (paused, clearable, attention, source verify, retry used),
that coding is the model's reading (DEDUCED, assumption log 33). -/
def flagByte (b : Bool) : Byte := if b then 1 else 0

/-- A text field of `n` bytes, unused bytes 0. -/
def textField (n : Nat) (text : List Byte) : List Byte :=
  text.take n ++ List.replicate (n - text.length) 0

/-- A byte whose bit k is entry k of the list. -/
def bitsByte (bits : List Bool) : Byte :=
  BitVec.ofNat 8 (bits.foldr (fun b n => b.toNat + 2 * n) 0)

/-! ### Sets of destinations -/

/-- `d` is in the set. -/
def dmem (set : DestSet) (d : Dest) : Bool := set.getLsbD d.val

/-- The set of one destination. -/
def dsingle (d : Dest) : DestSet := BitVec.ofNat 4 (2 ^ d.val)

/-- The set with `d`. -/
def dinsert (set : DestSet) (d : Dest) : DestSet := set ||| dsingle d

/-- The set without `d`. -/
def derase (set : DestSet) (d : Dest) : DestSet := set &&& ~~~ dsingle d

/-- The set without the members of another. -/
def dminus (set other : DestSet) : DestSet := set &&& ~~~ other

/-- How many destinations the set holds. -/
def dcard (set : DestSet) : Nat := (allDests.filter (dmem set)).length

/-- The destinations that satisfy a test, as a set. -/
def dsetOf (test : Dest → Bool) : DestSet :=
  allDests.foldl (fun set d => if test d then dinsert set d else set) 0

/-- The low four bits of a "Set" byte; bits 4 to 7 are ignored on receipt (spec/01). -/
def setOfByte (b : Byte) : DestSet := b.setWidth 4

/-- A "Set" byte; bits 4 to 7 are sent as 0 (spec/01). -/
def byteOfSet (set : DestSet) : Byte := set.setWidth 8

/-! ### Tables of records -/

/-- The record in use under number `k`, if any. -/
def lookup {α : Type} (t : Table α) (k : Nat) : Option α :=
  match t with
  | [] => none
  | (h, a) :: rest => if h = k then some a else lookup rest k

/-- The table with `a` as the record under number `k`; numbers keep rising. -/
def store {α : Type} (t : Table α) (k : Nat) (a : α) : Table α :=
  match t with
  | [] => [(k, a)]
  | (h, b) :: rest => if k < h then (k, a) :: (h, b) :: rest else if h = k then (k, a) :: rest else (h, b) :: store rest k a

/-- The table with number `k` free. -/
def erase {α : Type} (t : Table α) (k : Nat) : Table α :=
  t.filter (fun e => decide (e.1 ≠ k))

/-- The lowest free number among the `n` from `k` up. -/
def firstFree {α : Type} (t : Table α) (n k : Nat) : Option Nat :=
  match n with
  | 0 => none
  | m + 1 => if (lookup t k).isNone then some k else firstFree t m (k + 1)

/-! ### Codes (spec/01 and spec/10, code tables) -/

/-- Card port state codes. -/
def PortState.code : PortState → Nat
  | .empty => 0 | .settling => 1 | .present => 2 | .surveying => 3 | .identified => 4 | .bound => 5 | .released => 6 | .fault => 7

/-- Destination state codes. -/
def DestState.code : DestState → Nat
  | .absent => 0 | .identifying => 1 | .identified => 2 | .online => 3 | .failed => 4

/-- Job state codes. -/
def JobState.code : JobState → Nat
  | .reading => 0 | .drained => 1 | .closing => 2

/-- Clip source state codes. -/
def SourceState.code : SourceState → Nat
  | .building => 0 | .queued => 1 | .reading => 2 | .staged => 3 | .sourceError => 4

/-- Copy state codes. -/
def CopyState.code : CopyState → Nat
  | .none => 0 | .pending => 1 | .written => 2 | .flushed => 3 | .verifying => 4 | .verified => 5 | .mismatch => 6 | .failed => 7
  | .suspect => 8

/-- Source-verify state codes. -/
def SvState.code : SvState → Nat
  | .off => 0 | .waiting => 1 | .queued => 2 | .verifying => 3 | .matched => 4 | .mismatch => 5

/-- Cause codes. -/
def Cause.code : Cause → Nat
  | .none => 0 | .writeError => 1 | .readError => 2 | .destLost => 3 | .digest => 4 | .sourceChanged => 5 | .aborted => 6

/-- Monitor mode codes, 0 to 3. -/
def modeOfCode (n : Nat) : MonitorMode :=
  match n with
  | 0 => .off | 1 => .notify | 2 => .soft | _ => .hard

/-- Edge mode codes, 0 to 3. -/
def edgeOfCode (n : Nat) : EdgeMode :=
  match n with
  | 0 => .none | 1 => .rise | 2 => .fall | _ => .both

/-- SURVEY_FAILED cause codes. -/
def SurveyCause.code : SurveyCause → Nat
  | .adapter => 1 | .read => 2 | .tooSmall => 3

/-- DEST_STATE reason codes. -/
def DestReason.code : DestReason → Nat
  | .linkUp => 1 | .identifyOk => 2 | .identifyFailed => 3 | .attached => 4 | .reidentify => 5 | .detached => 6
  | .forcedDetach => 7 | .linkDown => 8 | .writeFailed => 9 | .flushFailed => 10

/-- LINK_FAULT cause codes. -/
def LinkCause.code : LinkCause → Nat
  | .parity => 1 | .framing => 2 | .length => 3 | .check => 4 | .gap => 5 | .overrun => 6

end Sys2Proof.Machine
end

