-- ==== Sys2Proof/Machine/Digest.lean ====
section
/-! DEFINITION. The clip digest (spec/05): words, residues, the two accumulators, and the fold of one request's data. -/

namespace Sys2Proof.Machine

open Sys2Proof

/-- The residue of a word (R88). -/
def residue (w : Nat) : Nat :=
  if Config.digestModulus ≤ w then w - Config.digestModulus else w

/-- Addition with one subtraction of P where the sum is P or above (R89). -/
def addOnce (x y : Nat) : Nat :=
  if Config.digestModulus ≤ x + y then x + y - Config.digestModulus else x + y

/-- One word folded into the accumulators (R89). -/
def foldWord (acc : Acc) (w : Nat) : Acc :=
  ⟨addOnce acc.a (residue w), addOnce acc.b (addOnce acc.a (residue w))⟩

/-- The bytes of a stream folded word by word, a last word of fewer than four bytes completed with zeros (R87). -/
def foldBytes (acc : Acc) : List Byte → Acc
  | b0 :: b1 :: b2 :: b3 :: rest => foldBytes (foldWord acc (leNat [b0, b1, b2, b3])) rest
  | [] => acc
  | bs => foldWord acc (leNat bs)

/-- `n` words of value 0 folded at once: A stays and B gains n times A (R89). -/
def foldZeros (acc : Acc) (n : Nat) : Acc :=
  if n = 0 then acc else ⟨acc.a, (acc.b + n * acc.a) % Config.digestModulus⟩

/-- How many words `n` bytes of a stream make (R87). -/
def wordsOf (n : Nat) : Nat := (n + 3) / 4

/-- The first `n` bytes of an answer's data folded; bytes beyond the end of `data` are 0 (assumption log 5). -/
def foldStream (acc : Acc) (data : List Byte) (n : Nat) : Acc :=
  foldZeros (foldBytes acc (data.take n)) (wordsOf n - wordsOf (data.take n).length)

/-- How many bytes of blocks `k` to `k + count - 1` of a clip of `length` bytes are in its stream (R87): the bytes beyond L are left
out. -/
def streamBytes (length k count : Nat) : Nat :=
  min (Config.blockBytes * (k + count)) length - Config.blockBytes * k

/-- The digest: B in the upper 32 bits, A in the lower (R90). -/
def digestOf (acc : Acc) : BitVec 64 := BitVec.ofNat 64 (acc.b * 2 ^ 32 + acc.a)

/-- A card's fingerprint from the data of its blocks 0 to 63 (R93). -/
def fingerprintOf (data : List Byte) : BitVec 64 :=
  digestOf (foldStream Acc.start data (Config.surveyBlocks * Config.blockBytes))

end Sys2Proof.Machine
end

