-- ==== Sys2Proof/Machine/Layout.lean ====
section
/-! DEFINITION. What goes out on the host line: the payloads of notices (10.3), the report block, the card identity fields, the bytes of
a frame (spec/01) and the bits of a byte (R2). -/

namespace Sys2Proof.Machine

open Sys2Proof

/-- A port or job field that may name none: 0xFF for none (R167). -/
def handleByte (h : Option Nat) : List Byte := leBytes 1 (h.getD 255)

/-- The 40 bytes of a card identity (spec/01). -/
def identityBytes (id : CardIdentity) : List Byte :=
  leBytes 5 id.capacity ++ [flagByte id.writeProtect, id.adapterType] ++ leBytes 1 id.label.length ++ textField 24 id.label ++
    leBytes 8 id.fingerprint.toNat

/-- The 27 bytes of a destination identity: all 0 when none is held (R104). -/
def destIdentityBytes (id : Option DestIdentity) : List Byte :=
  match id with
  | some i => 1 :: leBytes 6 i.capacity ++ textField 20 i.serial
  | none => List.replicate 27 0

/-- The notice's KIND (10.3). -/
def Notice.kind : Notice → Nat
  | .cardInserted _ => 0x40
  | .cardRemoved _ _ => 0x41
  | .cardIdentified _ _ => 0x42
  | .cardKnown _ _ => 0x43
  | .surveyFailed _ _ => 0x44
  | .jobRebound _ _ => 0x48
  | .jobDrained _ => 0x49
  | .jobClosed _ => 0x4A
  | .cardClearable _ _ => 0x4B
  | .cardUnclearable _ _ => 0x4C
  | .clipReadError _ _ _ _ _ => 0x50
  | .copyState _ _ _ _ => 0x51
  | .destState _ _ _ => 0x58
  | .monitorCrossing _ _ _ => 0x59
  | .linkFault _ => 0x5A
  | .progress _ => 0x5F

/-- One card port's entry of the report block (10.3); with a bound job too, bits 3 to 7 of its flags byte are 0 (DESIGN CHOICE, assumption
log 31). -/
def PortEntry.bytes (e : PortEntry) : List Byte :=
  leBytes 1 e.state.code ++ handleByte e.job ++ [bitsByte [e.paused, e.held, e.holdChanged]] ++ leBytes 6 e.blocksRead.toNat

/-- One destination's entry of the report block (10.3). -/
def DestEntry.bytes (e : DestEntry) : List Byte :=
  leBytes 1 e.state.code ++ leBytes 2 e.backlog ++ leBytes 8 e.blocksWritten.toNat ++ leBytes 2 e.tasks

/-- The hold-changed set: bit j for job handle j (10.3). -/
def holdBits (handles : List Nat) : Nat := (handles.map (fun h => 2 ^ h)).sum

/-- The 134 bytes of the report block (10.3). -/
def Report.bytes (r : Report) : List Byte :=
  leBytes 2 r.windowCount ++ leBytes 2 r.slotsUsed ++ leBytes 4 r.missed.toNat ++ leBytes 2 (holdBits r.holdChanged) ++
    r.ports.flatMap PortEntry.bytes ++ r.dests.flatMap DestEntry.bytes

/-- The target, state and cause bytes of COPY_STATE (R167). -/
def copyNewsBytes (news : CopyNews) (cause : Cause) : List Byte :=
  match news with
  | .copy d st => leBytes 1 d.val ++ leBytes 1 st.code ++ leBytes 1 cause.code
  | .source sv => leBytes 1 4 ++ leBytes 1 sv.code ++ leBytes 1 cause.code

/-- The notice's payload (10.3). -/
def Notice.payload : Notice → List Byte
  | .cardInserted p => leBytes 1 p.val
  | .cardRemoved p job => leBytes 1 p.val ++ handleByte job
  | .cardIdentified p id => leBytes 1 p.val ++ identityBytes id
  | .cardKnown p f => leBytes 1 p.val ++ leBytes 8 f.toNat
  | .surveyFailed p c => leBytes 1 p.val ++ leBytes 1 c.code
  | .jobRebound j p => leBytes 1 j ++ leBytes 1 p.val
  | .jobDrained j => leBytes 1 j
  | .jobClosed j => leBytes 1 j
  | .cardClearable j p => leBytes 1 j ++ handleByte (p.map Fin.val)
  | .cardUnclearable j p => leBytes 1 j ++ handleByte (p.map Fin.val)
  | .clipReadError j c k cb label =>
    leBytes 1 j ++ leBytes 2 c ++ leBytes 4 k ++ leBytes 4 cb ++ leBytes 1 label.length ++ label
  | .copyState j c news cause => leBytes 1 j ++ leBytes 2 c ++ copyNewsBytes news cause
  | .destState d st r => leBytes 1 d.val ++ leBytes 1 st.code ++ leBytes 1 r.code
  | .monitorCrossing d down b => leBytes 1 d.val ++ [flagByte down] ++ leBytes 2 b
  | .linkFault c => leBytes 1 c.code
  | .progress r => r.bytes

/-- A notice's frame: TAG 0 (R167). -/
def Notice.frame (n : Notice) : Frame := ⟨BitVec.ofNat 8 n.kind, 0, n.payload⟩

/-- The sum modulo 65536 that CHECK holds (R3), over the bytes from the first LEN byte to the last payload byte. -/
def checkSum (bytes : List Byte) : Nat := (bytes.map BitVec.toNat).sum % 65536

/-- The bytes of a frame from its first LEN byte to its last payload byte (spec/01, Frame). -/
def frameBody (f : Frame) : List Byte := leBytes 2 (f.payload.length + 2) ++ [f.kind, f.tag] ++ f.payload

/-- All bytes of a frame on the line (spec/01, Frame). -/
def frameBytes (f : Frame) : List Byte := Config.sync :: frameBody f ++ leBytes 2 (checkSum (frameBody f))

/-- The parity bit that makes the number of ones even (R2). -/
def parityOf (b : Byte) : Bool := (List.range 8).foldl (fun acc k => xor acc (b.getLsbD k)) false

/-- The eleven bits of a byte on the line: start bit low, data bits least significant first, even parity, stop bit high (R2). -/
def lineBits (b : Byte) : List Bool := false :: (List.range 8).map b.getLsbD ++ [parityOf b, true]

/-- The line speed in bit/s (R2). -/
def lineSpeed (rate : Bool) : Nat := if rate then 3000000 else 1000000

/-- The lamp's red and green lines (R24). -/
def lampLines (lamp : Lamp) (blinkLit : Bool) : Bool × Bool :=
  match lamp with
  | .off => (false, false)
  | .red => (true, false)
  | .green => (false, true)
  | .amber => (true, true)
  | .blinking => (blinkLit, blinkLit)

end Sys2Proof.Machine
end

