-- ==== Sys2Proof/Machine/Mapping.lean ====
section
/-! DEFINITION. A clip's blocks, chunks and extents: block and chunk counts (R49), the mapping of clip-relative blocks (R58), the
division into requests (R71, R106) and the count of free Extent Store entries (R57). -/

namespace Sys2Proof.Machine

open Sys2Proof

/-- B = ceil(L / 512) (R49). -/
def blocksOf (length : Nat) : Nat := (length + (Config.blockBytes - 1)) / Config.blockBytes

/-- A clip's block count (R49). -/
def Clip.blocks (c : Clip) : Nat := blocksOf c.length

/-- A clip's chunk count, ceil(B / 8192) (R49, R68). -/
def Clip.chunks (c : Clip) : Nat := (c.blocks + (Config.chunkBlocks - 1)) / Config.chunkBlocks

/-- The block count of the chunk or segment that begins at clip-relative block `n` (R68, R126). -/
def chunkLength (blocks n : Nat) : Nat := min Config.chunkBlocks (blocks - n)

/-- The medium address of clip-relative block `k`, and how many blocks from there on lie in the same extent (R58). A block beyond the
list, which commit rules out (R53), has no address: it gives room for 0 blocks. -/
def locate (list : List Extent) (k : Nat) : Nat × Nat :=
  match list with
  | [] => (0, 0)
  | e :: rest => if k < e.count then (e.start + k, e.count - k) else locate rest (k - e.count)

/-- The start and count of the request for the blocks from clip-relative block `k` on, `left` of them remaining: 2048 blocks, the blocks
remaining, or the blocks remaining in the extent, whichever is smallest (R71, R85, R106, R114). -/
def requestRun (list : List Extent) (k left : Nat) : Nat × Nat :=
  ((locate list k).1, min (min Config.requestBlocks left) (locate list k).2)

/-- How many blocks a list covers (R53). -/
def covered (list : List Extent) : Nat := (list.map Extent.count).sum

/-- How many Extent Store entries a clip's lists take (R57). -/
def Clip.extents (c : Clip) : Nat := c.source.length + (c.targets.toList.map List.length).sum

/-- Free Extent Store entries: the entries in use are the extents of all live clips' lists (R57). -/
def extentsFree (clips : Table Clip) : Nat :=
  Config.extentEntries - (clips.map (fun e => e.2.extents)).sum

/-- Two card identities are equal: fingerprints and capacities (R30). -/
def sameCard (x y : CardIdentity) : Bool :=
  decide (x.fingerprint = y.fingerprint) && decide (x.capacity = y.capacity)

end Sys2Proof.Machine
end

