-- ==== Sys2Proof/Machine/Memory.lean ====
section
/-! DEFINITION. The staging DRAM (4.1): 4 GiB as (address, byte) cells in one canonical form, slot s at address s * 4 MiB. -/

namespace Sys2Proof.Machine

open Sys2Proof

/-- What an address that is not listed reads as (DESIGN CHOICE, assumption log 6; no rule reads a byte of a slot before its chunk
read has written it, R71). -/
def Memory.unlisted : Byte := 0

/-- The canonical form: addresses strictly rising and no cell equal to what an unlisted address reads as. -/
def Memory.wf : List Host.Cell → Bool
  | [] => true
  | [c] => decide (c.2 ≠ Memory.unlisted)
  | c :: e :: rest => decide (c.2 ≠ Memory.unlisted) && decide (c.1 < e.1) && Memory.wf (e :: rest)

/-- The byte at address `a`. -/
def Memory.read (m : List Host.Cell) (a : Nat) : Byte :=
  match m with
  | [] => Memory.unlisted
  | c :: rest => if c.1 = a then c.2 else Memory.read rest a

/-- The cells of a run of bytes from address `a` up, less those that read as an unlisted address does. -/
def Memory.cells (a : Nat) : List Byte → List Host.Cell
  | [] => []
  | b :: bs => if b = Memory.unlisted then Memory.cells (a + 1) bs else (a, b) :: Memory.cells (a + 1) bs

/-- The memory with the `len` bytes from address `a` up replaced by an answer's data (bytes beyond the end of `data` are 0,
assumption log 5). -/
def Memory.write (m : List Host.Cell) (a len : Nat) (data : List Byte) : List Host.Cell :=
  m.filter (fun c => decide (c.1 < a)) ++ Memory.cells a (data.take len) ++ m.filter (fun c => decide (a + len ≤ c.1))

/-- The `len` bytes from address `a` up. -/
def Memory.readRun (m : List Host.Cell) (a len : Nat) : List Byte :=
  (List.range' a len).map (Memory.read m)

/-- The address of byte 0 of block `k` of slot `s`: a slot holds its chunk's blocks in order from its first byte (4.1, R71). -/
def slotAddress (s k : Nat) : Nat := s * Config.slotBytes + k * Config.blockBytes

end Sys2Proof.Machine
end

