-- ==== Sys2Proof/Machine/Operands.lean ====
section
/-! DEFINITION. What a request's frame spells (spec/01, Message layouts): the KIND codes, the fields of every request's payload, each
reader answering none for a wrong length (R6), and the reply statuses. -/

namespace Sys2Proof.Machine

open Sys2Proof

/-- The reply statuses (spec/01). -/
inductive Status where
  | ok | clamped | unknownRequest | badLength | badHandle | badState | busy | noSpace | outOfRange | lengthMismatch
  | notClearable | duplicateCard | wrongMedium
  deriving DecidableEq, Repr

/-- The status codes (spec/01). -/
def Status.code : Status → Nat
  | .ok => 0 | .clamped => 1 | .unknownRequest => 2 | .badLength => 3 | .badHandle => 4 | .badState => 5 | .busy => 6
  | .noSpace => 7 | .outOfRange => 8 | .lengthMismatch => 9 | .notClearable => 10 | .duplicateCard => 11 | .wrongMedium => 12

/-- A block's answer to a request: a status, and result fields with OK or CLAMPED (R7). -/
structure Reply where
  status : Status
  fields : List Byte
  deriving DecidableEq, Repr

/-- A reply that carries its status alone (R7). -/
def statusOnly (st : Status) : Reply := ⟨st, []⟩

/-- The request kinds of the kind code table (spec/01). -/
def requestKinds : List Byte :=
  [0x01, 0x02, 0x03, 0x04, 0x05, 0x08, 0x10, 0x11, 0x12, 0x13, 0x14, 0x15, 0x16, 0x18, 0x19, 0x1A, 0x1B, 0x1C, 0x1D, 0x1E,
    0x20, 0x21, 0x22, 0x28, 0x29, 0x30, 0x31]

/-- A payload of no bytes. -/
def readNone (payload : List Byte) : Option Unit :=
  match payload with
  | [] => some ()
  | _ => none

/-- A payload of one byte: a port, job or destination number. -/
def readOne (payload : List Byte) : Option Nat :=
  match payload with
  | [b] => some b.toNat
  | _ => none

/-- A payload of two bytes: a clip handle. -/
def readHandle (payload : List Byte) : Option Nat :=
  match payload with
  | [b0, b1] => some (leNat [b0, b1])
  | _ => none

/-- A clip handle and a destination or target code: CLIP_RECOPY, CLIP_REVERIFY. -/
def readHandleAndCode (payload : List Byte) : Option (Nat × Nat) :=
  match payload with
  | [b0, b1, t] => some (leNat [b0, b1], t.toNat)
  | _ => none

/-- A destination and a force byte: DEST_DETACH. -/
def readDetach (payload : List Byte) : Option (Nat × Nat) :=
  match payload with
  | [d, f] => some (d.toNat, f.toNat)
  | _ => none

/-- Key and value pairs of three bytes each: CONFIG_SET. -/
def readPairs (bytes : List Byte) : Option (List (Nat × Nat)) :=
  match bytes with
  | [] => some []
  | k :: v0 :: v1 :: rest => (readPairs rest).map (fun ps => (k.toNat, leNat [v0, v1]) :: ps)
  | _ => none

/-- A count of 1 to 32 and that many pairs: CONFIG_SET (R6, R11). -/
def readConfig (payload : List Byte) : Option (List (Nat × Nat)) :=
  match payload with
  | n :: rest =>
    if 1 ≤ n.toNat ∧ n.toNat ≤ 32 ∧ rest.length = 3 * n.toNat then readPairs rest else none
  | [] => none

/-- The fields of JOB_OPEN. -/
structure JobOpenFields where
  port : Nat
  destSet : DestSet
  required : Nat
  sourceVerify : Nat
  quota : Nat
  deriving DecidableEq, Repr

/-- JOB_OPEN: card port, destination set, required copies, source verify, slot quota. -/
def readJobOpen (payload : List Byte) : Option JobOpenFields :=
  match payload with
  | [p, set, r, sv, q0, q1] => some ⟨p.toNat, setOfByte set, r.toNat, sv.toNat, leNat [q0, q1]⟩
  | _ => none

/-- The fields of CLIP_BEGIN. -/
structure ClipBeginFields where
  job : Nat
  length : Nat
  label : List Byte
  deriving DecidableEq, Repr

/-- CLIP_BEGIN: job handle, byte length, label of 0 to 32 bytes. -/
def readClipBegin (payload : List Byte) : Option ClipBeginFields :=
  match payload with
  | j :: l0 :: l1 :: l2 :: l3 :: l4 :: l5 :: n :: label =>
    if n.toNat ≤ 32 ∧ label.length = n.toNat then some ⟨j.toNat, leNat [l0, l1, l2, l3, l4, l5], label⟩ else none
  | _ => none

/-- Extents of ten bytes each: start block (6), block count (4). -/
def readExtents (bytes : List Byte) : Option (List Extent) :=
  match bytes with
  | [] => some []
  | s0 :: s1 :: s2 :: s3 :: s4 :: s5 :: c0 :: c1 :: c2 :: c3 :: rest =>
    (readExtents rest).map (fun es => ⟨leNat [s0, s1, s2, s3, s4, s5], leNat [c0, c1, c2, c3]⟩ :: es)
  | _ => none

/-- The fields of EXTENTS_ADD. -/
structure ExtentsAddFields where
  clip : Nat
  list : Nat
  extents : List Extent
  deriving DecidableEq, Repr

/-- EXTENTS_ADD: clip handle, list selector, a count of 1 to 64 and that many extents. -/
def readExtentsAdd (payload : List Byte) : Option ExtentsAddFields :=
  match payload with
  | h0 :: h1 :: t :: n :: rest =>
    if 1 ≤ n.toNat ∧ n.toNat ≤ 64 ∧ rest.length = 10 * n.toNat then
      (readExtents rest).map (fun es => ⟨leNat [h0, h1], t.toNat, es⟩)
    else none
  | _ => none

/-- The fields of MONITOR_SET. -/
structure MonitorSetFields where
  dest : Nat
  mode : Nat
  level : Nat
  edge : Nat
  holdoff : Nat
  deriving DecidableEq, Repr

/-- MONITOR_SET: destination, mode, level, edge mode, holdoff_ms. -/
def readMonitorSet (payload : List Byte) : Option MonitorSetFields :=
  match payload with
  | [d, m, l, e, h] => some ⟨d.toNat, m.toNat, l.toNat, e.toNat, h.toNat⟩
  | _ => none

/-- A number as a card port, if it is one. -/
def portOf (n : Nat) : Option Port := if h : n < 8 then some ⟨n, h⟩ else none

/-- A number as a destination, if it is one. -/
def destOf (n : Nat) : Option Dest := if h : n < 4 then some ⟨n, h⟩ else none

/-- A target code: 0 to 3 for a destination, 4 for SOURCE (spec/01). -/
def targetOf (n : Nat) : Option Target :=
  match destOf n with
  | some d => some (.dest d)
  | none => if n = 4 then some .source else none

end Sys2Proof.Machine
end

