-- ==== Sys2Proof/Machine/Ops.lean ====
section
/-! DEFINITION. The named operations over State: access to its records, the outbound line (R8), the Notice Queue (R165), dispatch and
replies (R6, R7), the adapter and bridge links (R15, R96), slots and recopy sets. -/

namespace Sys2Proof.Machine

open Sys2Proof

/-! ### Records -/

/-- Card port `p`. -/
def State.port (s : State) (p : Port) : CardPort := s.ports[p.val]
/-- The Source Reader of card port `p`. -/
def State.reader (s : State) (p : Port) : Reader := s.readers[p.val]
/-- How card port `p` stands (assumption log 28). -/
def State.use (s : State) (p : Port) : PortUse := s.portUse[p.val]
/-- Destination port `d`. -/
def State.dest (s : State) (d : Dest) : DestPort := s.dests[d.val]
/-- Verify Engine `e`. -/
def State.engine (s : State) (e : EngineIx) : Engine := s.engines[e.val]
/-- The Pressure Monitor of destination `d`. -/
def State.monitor (s : State) (d : Dest) : Monitor := s.monitors[d.val]
/-- Job record `h`, if it is live. -/
def State.job (s : State) (h : Nat) : Option Job := lookup s.jobs h
/-- Clip record `c`, if it is live. -/
def State.clip (s : State) (c : Nat) : Option Clip := lookup s.clips c
/-- Slot record `n`, if the slot is not FREE. -/
def State.slot (s : State) (n : Nat) : Option Slot := lookup s.slots n
/-- The copy of a clip on destination `d`. -/
def Clip.copy (c : Clip) (d : Dest) : Copy := c.copies[d.val]
/-- The target list of a clip for destination `d`. -/
def Clip.target (c : Clip) (d : Dest) : List Extent := c.targets[d.val]
/-- The identity a job recorded for destination `d`. -/
def Job.destId (j : Job) (d : Dest) : Option DestIdentity := j.destIds[d.val]

def setPort (s : State) (p : Port) (x : CardPort) : State := { s with ports := s.ports.set p.val x }
def setReader (s : State) (p : Port) (x : Reader) : State := { s with readers := s.readers.set p.val x }
def setDest (s : State) (d : Dest) (x : DestPort) : State := { s with dests := s.dests.set d.val x }
def setEngine (s : State) (e : EngineIx) (x : Engine) : State := { s with engines := s.engines.set e.val x }
def setMonitor (s : State) (d : Dest) (x : Monitor) : State := { s with monitors := s.monitors.set d.val x }
def setJob (s : State) (h : Nat) (j : Job) : State := { s with jobs := store s.jobs h j }
def setClip (s : State) (c : Nat) (k : Clip) : State := { s with clips := store s.clips c k }
def setSlot (s : State) (n : Nat) (x : Slot) : State := { s with slots := store s.slots n x }

/-- Changes job record `h` if it is live. -/
def modJob (h : Nat) (f : Job → Job) (s : State) : State :=
  match s.job h with
  | some j => setJob s h (f j)
  | none => s

/-- Changes clip record `c` if it is live. -/
def modClip (c : Nat) (f : Clip → Clip) (s : State) : State :=
  match s.clip c with
  | some k => setClip s c (f k)
  | none => s

/-- Changes slot record `n` if the slot is not FREE. -/
def modSlot (n : Nat) (f : Slot → Slot) (s : State) : State :=
  match s.slot n with
  | some x => setSlot s n (f x)
  | none => s

/-- A clip with its copy on `d` replaced. -/
def Clip.setCopy (c : Clip) (d : Dest) (x : Copy) : Clip := { c with copies := c.copies.set d.val x }

/-- The handles of the live jobs, rising. -/
def liveJobs (s : State) : List Nat := s.jobs.map Prod.fst

/-! ### The outbound line and the Notice Queue -/

/-- The outbound arbiter (R8): a free line takes the waiting reply, or else the oldest notice. -/
def pump (s : State) : State :=
  match s.sending with
  | some _ => s
  | none =>
    match s.waitingReply with
    | some r => { s with sending := some r, waitingReply := none }
    | none =>
      match s.notices with
      | n :: rest => { s with sending := some n.frame, notices := rest }
      | [] => s

/-- The missed-kind set with a notice's KIND (R166). -/
def missKind (missed : BitVec 32) (n : Notice) : BitVec 32 := missed ||| BitVec.ofNat 32 (2 ^ (n.kind - 0x40))

/-- A notice joins the queue, or is lost while 64 wait (R165). -/
def enqueue (n : Notice) (s : State) : State :=
  if s.notices.length < Config.noticeEntries then { s with notices := s.notices ++ [n] }
  else { s with missed := missKind s.missed n }

/-- A block queues a notice; on a free line with no waiting reply it starts at once (R8, R165). -/
def notify (n : Notice) (s : State) : State := pump (enqueue n s)

/-! ### Dispatch and replies -/

/-- Dispatch may take a request: it holds none, no reply waits (R6), and no DEVICE_RESET has been taken (R13). -/
def dispatchReady (s : State) : Bool :=
  !s.resetLow && s.dispatch.isNone && s.waitingReply.isNone && !s.resetPending

/-- A reply's frame: the request's KIND plus 0x80 and its TAG, the status byte and the result fields (R7). -/
def replyFrame (f : Frame) (r : Reply) : Frame :=
  ⟨f.kind + 0x80, f.tag, BitVec.ofNat 8 r.status.code :: r.fields⟩

/-- The reply is formed: it becomes the waiting reply and the request is released (R6); a free line takes it (R8). -/
def sendFrame (r : Frame) (s : State) : State := pump { s with dispatch := none, waitingReply := some r }

/-- Dispatch takes the oldest inbound frame if it has KIND `kind`, reads its fields, and has the owner answer; a wrong length is
answered BAD_LENGTH (R6). With another frame, or none, at the head, or with dispatch not ready, nothing happens (log 1). -/
def serve {α : Type} (kind : Byte) (fields : List Byte → Option α) (owner : α → State → Reply × State) (s : State) : State :=
  if dispatchReady s then
    match s.inbound with
    | f :: rest =>
      if f.kind = kind then
        match fields f.payload with
        | some a =>
          let answer := owner a { s with inbound := rest, dispatch := some f }
          sendFrame (replyFrame f answer.1) answer.2
        | none => sendFrame (replyFrame f (statusOnly .badLength)) { s with inbound := rest, dispatch := some f }
      else s
    | [] => s
  else s

/-- What a command does while RESET is not held low; while it is, the command changes nothing (R1, assumption log 7). -/
def awake (f : State → State) (s : State) : State := if s.resetLow then s else f s

/-! ### Slots -/

/-- A slot becomes FREE and joins the tail of the free-slot list (R62). -/
def freeSlot (n : Nat) (s : State) : State := { s with slots := erase s.slots n, freeSlots := s.freeSlots ++ [n] }

/-- A STAGED slot with an empty pending set and no write in flight becomes FREE (R63). -/
def freeIfDone (n : Nat) (s : State) : State :=
  match s.slot n with
  | some x => if x.staged = true ∧ x.pending = 0 ∧ x.writing = 0 then freeSlot n s else s
  | none => s

/-- How many slots a job holds, FILLING and STAGED (R36, R67). -/
def slotsHeld (s : State) (h : Nat) : Nat := (s.slots.filter (fun e => decide (e.2.job = h))).length

/-! ### Adapter links -/

/-- The READ that a chunk read sends next (R71). -/
def chunkAsk (s : State) (c : ChunkRead) : Option CardAsk :=
  (s.clip c.clip).map (fun k =>
    let run := requestRun k.source (c.first + c.done) (c.count - c.done)
    .read run.1 run.2)

/-- The clip of the task an engine holds. -/
def engineClip (s : State) (e : EngineIx) : Option Clip :=
  match (s.engine e).task with
  | some (t, _) => s.clip t.clip
  | none => none

/-- The READ that a source-verify segment sends next (R85). -/
def segmentAsk (s : State) (g : Segment) : Option CardAsk :=
  (engineClip s g.engine).map (fun k =>
    let run := requestRun k.source (g.first + g.done) (g.count - g.done)
    .read run.1 run.2)

/-- The request that a survey's step sends (R26, R28). -/
def surveyAsk (v : Survey) : CardAsk :=
  match v.step with
  | .identify => .identify
  | .read _ => .read 0 Config.surveyBlocks

/-- Port `p` sends a request, timed against the card_timeout_ms now in force (R16). -/
def cardSend (p : Port) (owner : CardOwner) (ask : Option CardAsk) (s : State) : State :=
  match ask with
  | some a => setPort s p { s.port p with request := some ⟨a, owner, s.cfg.cardTimeoutMs, false⟩ }
  | none => s

/-- A free adapter link takes the request that waits for it (R15): the survey's, the chunk read's or the segment's next one. -/
def cardKick (p : Port) (s : State) : State :=
  match (s.port p).request with
  | some _ => s
  | none =>
    match s.survey.filter (fun v => decide (v.port = p)) with
    | some v => cardSend p .survey (some (surveyAsk v)) s
    | none =>
      match (s.reader p).chunk with
      | some c => cardSend p .chunk (chunkAsk s c) s
      | none =>
        match (s.reader p).segment with
        | some g => cardSend p .segment (segmentAsk s g) s
        | none => s

/-- The request on port `p` is over and the link is free (R15). -/
def clearCard (p : Port) (s : State) : State := setPort s p { s.port p with request := none }

/-- The job whose card read occupies port `p`'s link, if any (R46). -/
def cardReadJob (s : State) (p : Port) : Option Nat :=
  match (s.port p).request with
  | some r =>
    match r.owner with
    | .chunk => (s.reader p).chunk.map ChunkRead.job
    | .segment => (s.reader p).segment.bind (fun g => ((s.engine g.engine).task).map Prod.snd)
    | .abandoned j => j
    | .survey => none
  | none => none

/-- The request on port `p` is abandoned: it occupies the link until answered or timed out (R15); one whose ERROR has already arrived
frees the link at once (assumption log 13). -/
def abandonCard (p : Port) (s : State) : State :=
  match (s.port p).request with
  | some r =>
    if r.errorHeld then clearCard p s
    else setPort s p { s.port p with request := some { r with owner := .abandoned (cardReadJob s p) } }
  | none => s

/-! ### Bridge links -/

/-- Clip, first block and block count of the chunk in a slot, mapped for destination `d`: the run that the write sends next (R106). -/
def writeRun (s : State) (d : Dest) (slot done : Nat) : Option (Nat × Nat) :=
  match s.slot slot with
  | some x => (s.clip x.clip).map (fun k => requestRun (k.target d) (x.first + done) (x.count - done))
  | none => none

/-- The request that the operation in flight at `d` sends next (R106, R111, R114). -/
def bridgeAsk (s : State) (d : Dest) (op : DestOp) : Option BridgeAsk :=
  match op with
  | .write slot done _ => (writeRun s d slot done).map (fun r => .write r.1 r.2)
  | .flush _ => some .flush
  | .segment g =>
    (engineClip s g.engine).map (fun k =>
      let run := requestRun (k.target d) (g.first + g.done) (g.count - g.done)
      .read run.1 run.2)

/-- Destination `d` sends a request, timed against the dest_timeout_ms now in force (R97). -/
def bridgeSend (d : Dest) (ask : Option BridgeAsk) (retried : Bool) (s : State) : State :=
  match ask with
  | some a => setDest s d { s.dest d with request := some ⟨a, false, s.cfg.destTimeoutMs, retried⟩ }
  | none => s

/-- A free bridge link takes the request that waits for it: IDENTIFY while IDENTIFYING, or the operation's next request (R96). -/
def bridgeKick (d : Dest) (s : State) : State :=
  match (s.dest d).request with
  | some _ => s
  | none =>
    match (s.dest d).state with
    | .identifying => bridgeSend d (some .identify) false s
    | .online =>
      match (s.dest d).op with
      | some op => bridgeSend d (bridgeAsk s d op) false s
      | none => s
    | _ => s

/-- The request on destination `d` is over and the link is free (R96). -/
def clearBridge (d : Dest) (s : State) : State := setDest s d { s.dest d with request := none }

/-- The data of the WRITE in flight at `d`: the slot's bytes at the position of its blocks (R106). -/
def writeData (s : State) (d : Dest) : List Byte :=
  match (s.dest d).op, (s.dest d).request with
  | some (.write slot done _), some ⟨.write _ count, _, _, _⟩ =>
    Memory.readRun s.mem (slotAddress slot done) (count * Config.blockBytes)
  | _, _ => []

/-- The backlog of destination `d` (R105). -/
def backlog (x : DestPort) : Nat :=
  x.writeQueue.length +
    match x.op with
    | some (.write _ _ _) => 1
    | _ => 0

/-- Verify tasks for `d` that wait in the Verify Queue (R121). -/
def tasksQueued (s : State) (d : Dest) : Nat :=
  (s.verifyQueue.filter (fun t => decide (t.target = .dest d))).length

/-- Destination `d` is ONLINE and its drive is the one the job recorded for it (R69, R101). -/
def usable (s : State) (j : Job) (d : Dest) : Bool :=
  decide ((s.dest d).state = .online) && (s.dest d).identity.isSome && decide ((s.dest d).identity = j.destId d)

/-! ### Copies and recopy sets -/

/-- The chunk read of a recopy pass of clip `c` ends with its request in flight (R82). -/
def cancelPass (c : Nat) (s : State) : State :=
  { s with readers := s.readers.map (fun r =>
      { r with chunk := r.chunk.map (fun x => if x.clip = c ∧ x.recopy = true then { x with cancelled := true } else x) }) }

/-- Clip `c` leaves its job's recopy list once its recopy set is empty (R82). -/
def leaveRecopyList (c : Nat) (s : State) : State :=
  match s.clip c with
  | some k => if k.recopySet = 0 then modJob k.job (fun j => { j with recopy := j.recopy.filter (fun x => decide (x ≠ c)) }) s else s
  | none => s

/-- Destination `d` leaves clip `c`'s recopy set, which may end its pass and take the clip from the recopy list (R82). -/
def leaveRecopy (c : Nat) (d : Dest) (s : State) : State :=
  match s.clip c with
  | some k =>
    if dmem k.recopySet d then
      let s1 := setClip s c { k with recopySet := derase k.recopySet d, passMembers := derase k.passMembers d }
      let s2 := if k.passMembers ≠ 0 ∧ derase k.passMembers d = 0 then cancelPass c s1 else s1
      leaveRecopyList c s2
    else s
  | none => s

/-- The copy of clip `c` on `d` gets a new state and cause. -/
def setCopyState (c : Nat) (d : Dest) (st : CopyState) (cause : Cause) (s : State) : State :=
  modClip c (fun k => k.setCopy d { k.copy d with state := st, cause := cause }) s

/-- A COPY_STATE notice for clip `c` (R167). -/
def tellCopy (c : Nat) (news : CopyNews) (cause : Cause) (s : State) : State :=
  match s.clip c with
  | some k => notify (.copyState k.job c news cause) s
  | none => s

/-- The copy of clip `c` on `d` becomes FAILED or MISMATCH: it leaves the recopy set (R82) and COPY_STATE is queued. -/
def failCopy (c : Nat) (d : Dest) (st : CopyState) (cause : Cause) (s : State) : State :=
  tellCopy c (.copy d st) cause (leaveRecopy c d (setCopyState c d st cause s))

/-- The copy of clip `c` on `d` has state `st`. -/
def copyIs (s : State) (c : Nat) (d : Dest) (st : CopyState) : Bool :=
  match s.clip c with
  | some k => decide ((k.copy d).state = st)
  | none => false

/-- The source-verify state of clip `c` is replaced. -/
def setSv (c : Nat) (sv : SvState) (s : State) : State := modClip c (fun k => { k with sv := sv }) s

end Sys2Proof.Machine
end

