-- ==== Sys2Proof/Machine/Account.lean ====
section
/-! DEFINITION. What every event ends with: the drained test (R38), the clearable evaluation (R145), the free test (R46), the crossings
of the Pressure Monitors (R156), the allocator's waiting set (R65) and the slot lamps (R23). -/

namespace Sys2Proof.Machine

open Sys2Proof

/-! ### Holds (R159, R163) -/

/-- A job is held while either hold set is not empty (9.4). -/
def Job.held (j : Job) : Bool := decide (j.softHold ≠ 0) || decide (j.hardHold ≠ 0)

/-- A job with new hold sets; a passage between held and not held sets its hold-changed flag (R163). -/
def Job.withHolds (j : Job) (soft hard : DestSet) : Job :=
  let j' := { j with softHold := soft, hardHold := hard }
  if j'.held = j.held then j' else { j' with holdChanged := true }

/-- `d` is added to the soft-hold or hard-hold set of every READING job that uses `d` (R159). -/
def addHolds (d : Dest) (hard : Bool) (s : State) : State :=
  { s with jobs := s.jobs.map (fun e =>
      if e.2.state = .reading ∧ dmem e.2.destSet d = true then
        (e.1, if hard then e.2.withHolds e.2.softHold (dinsert e.2.hardHold d) else e.2.withHolds (dinsert e.2.softHold d) e.2.hardHold)
      else e) }

/-- `d` is removed from the soft-hold sets, the hard-hold sets or both of every live job (R155, R159, R160, R119). -/
def dropHolds (d : Dest) (soft hard : Bool) (s : State) : State :=
  { s with jobs := s.jobs.map (fun e =>
      (e.1, e.2.withHolds (if soft then derase e.2.softHold d else e.2.softHold) (if hard then derase e.2.hardHold d else e.2.hardHold))) }

/-! ### The drained test (R38) -/

/-- The clip's source state is STAGED or SOURCE_ERROR. -/
def clipRead (s : State) (c : Nat) : Bool :=
  match s.clip c with
  | some k => decide (k.sourceState = .staged) || decide (k.sourceState = .sourceError)
  | none => false

/-- A chunk read of job `h` is in flight. -/
def chunkOfJob (s : State) (h : Nat) : Bool :=
  s.readers.toList.any (fun r => r.chunk.any (fun c => decide (c.job = h)))

/-- The four conditions of R38. -/
def drainMet (s : State) (h : Nat) (j : Job) : Bool :=
  decide (j.state = .reading) && j.intakeFinal && j.order.all (clipRead s) && j.recopy.isEmpty && !chunkOfJob s h

/-- One SOURCE task for clip `c` if it is STAGED (R123). -/
def issueTask (s : State) (c : Nat) : State :=
  match s.clip c with
  | some k =>
    if k.sourceState = .staged then
      { setClip s c { k with sv := .queued } with verifyQueue := s.verifyQueue ++ [⟨c, .source, false⟩] }
    else s
  | none => s

/-- The drained test of job `h`: DRAINED, JOB_DRAINED, and on the first drain the SOURCE tasks (R38, R123). -/
def drainJob (s : State) (h : Nat) : State :=
  match s.job h with
  | some j =>
    if drainMet s h j then
      let s1 := notify (.jobDrained h) (setJob s h { j with state := .drained, tasksIssued := true })
      if j.tasksIssued = false ∧ j.sourceVerify = true then j.order.foldl issueTask s1 else s1
    else s
  | none => s

/-! ### The clearable evaluation (R142 to R145) -/

/-- The verified count of a clip (R142). -/
def Clip.verified (c : Clip) : Nat := c.copies.toList.countP (fun x => decide (x.state = .verified))

/-- A clip meets the attention condition (R143). -/
def Clip.needsAttention (c : Clip) : Bool :=
  decide (c.sourceState = .sourceError) || decide (c.sv = .mismatch) ||
    c.copies.toList.any (fun x => decide (x.state = .mismatch) || decide (x.state = .failed) || decide (x.state = .suspect))

/-- A clip meets items 2 to 4 of the clearable condition (R144). -/
def Clip.proven (c : Clip) (j : Job) : Bool :=
  decide (c.sourceState ≠ .sourceError) && decide (j.required ≤ c.verified) && (!j.sourceVerify || decide (c.sv = .matched))

/-- The attention condition of a job (R143). -/
def attentionMet (s : State) (j : Job) : Bool := j.order.any (fun c => (s.clip c).any Clip.needsAttention)

/-- The clearable condition of a job (R144). -/
def clearableMet (s : State) (j : Job) : Bool :=
  decide (j.state = .drained) && j.order.all (fun c => (s.clip c).any (fun k => k.proven j))

/-- The evaluation of job `h`, for a job in READING or DRAINED (R145, R47). -/
def evalJob (s : State) (h : Nat) : State :=
  match s.job h with
  | some j =>
    if j.state = .closing then s
    else
      let met := clearableMet s j
      let s1 := setJob s h { j with attention := attentionMet s j, clearable := met }
      if j.clearable = met then s1
      else if met then notify (.cardClearable h j.binding) s1 else notify (.cardUnclearable h j.binding) s1
  | none => s

/-! ### The free test (R46) -/

/-- Clip `c` belongs to job `h`. -/
def clipOfJob (s : State) (h c : Nat) : Bool := (s.clip c).any (fun k => decide (k.job = h))

/-- The verify task is of job `h`. -/
def taskOfJob (s : State) (h : Nat) (t : Task) : Bool := clipOfJob s h t.clip

/-- The engine holds a task of job `h`. -/
def engineOfJob (h : Nat) (e : Engine) : Bool := e.task.any (fun t => decide (t.2 = h))

/-- The operation in flight at a destination is work of job `h` (R46). -/
def opOfJob (s : State) (h : Nat) (op : DestOp) : Bool :=
  match op with
  | .write slot _ _ => (s.slot slot).any (fun x => decide (x.job = h))
  | .flush clips => clips.any (clipOfJob s h)
  | .segment g => engineOfJob h (s.engine g.engine)

/-- A card read of job `h` is in flight on port `p` (R46, R15). -/
def cardReadOfJob (s : State) (h : Nat) (p : Port) : Bool :=
  decide (cardReadJob s p = some h) || (s.reader p).chunk.any (fun c => decide (c.job = h)) ||
    (s.reader p).segment.any (fun g => engineOfJob h (s.engine g.engine))

/-- Something of job `h` is left in the part: the six items of R46. -/
def jobBusy (s : State) (h : Nat) : Bool :=
  s.slots.any (fun e => decide (e.2.job = h)) || allPorts.any (cardReadOfJob s h) ||
    s.dests.toList.any (fun x => x.op.any (opOfJob s h) || x.awaiting.any (clipOfJob s h)) ||
    s.verifyQueue.any (taskOfJob s h) || s.engines.toList.any (engineOfJob h)

/-- The free test of job `h`: its clips and its record become free and JOB_CLOSED is queued (R46). -/
def freeJob (s : State) (h : Nat) : State :=
  match s.job h with
  | some j =>
    if j.state = .closing ∧ jobBusy s h = false then
      notify (.jobClosed h) { s with jobs := erase s.jobs h, clips := s.clips.filter (fun e => decide (e.2.job ≠ h)) }
    else s
  | none => s

/-! ### Crossings (R156 to R159) -/

/-- A monitor's threshold (R154). -/
def threshold (level : Nat) : Nat := 128 + 96 * level

/-- The edge mode includes the direction (R158). -/
def edgeIncludes (e : EdgeMode) (downward : Bool) : Bool :=
  match e with
  | .none => false
  | .rise => !downward
  | .fall => downward
  | .both => true

/-- The MONITOR_CROSSING notice of a crossing that is not ignored, if the modes give one (R158). -/
def crossingNotice (d : Dest) (m : Monitor) (downward : Bool) (n : Nat) : List Notice :=
  if m.mode ≠ .off ∧ edgeIncludes m.edge downward = true then [.monitorCrossing d downward n] else []

/-- The holds that an upward crossing places (R159). -/
def crossingHolds (d : Dest) (m : Monitor) (s : State) : State :=
  match m.mode with
  | .soft => addHolds d false s
  | .hard => addHolds d true s
  | _ => s

/-- The upward crossing comes less than holdoff_ms after the start of the window (R157). -/
def insideHoldoff (s : State) (m : Monitor) : Bool := decide (s.now - s.windowStart < m.holdoff)

/-- Destination `d`'s monitor sees the backlog (R156): a crossing moves the above state; one that is not ignored (R157) sets the tripped
flag (R158) and places holds (R159). Its notice is `crossingNews`. -/
def seeBacklog (s : State) (d : Dest) : State :=
  let m := s.monitor d
  let above := decide (threshold m.level < backlog (s.dest d))
  if above = m.above then s
  else if above then
    if insideHoldoff s m then setMonitor s d { m with above := true }
    else crossingHolds d m (setMonitor s d { m with above := true, tripped := m.tripped || decide (m.mode ≠ .off) })
  else setMonitor s d { m with above := false }

/-- The notice with which destination `d`'s monitor tells what it then sees (R157, R158). -/
def crossingNews (s : State) (d : Dest) : List Notice :=
  let m := s.monitor d
  let n := backlog (s.dest d)
  let above := decide (threshold m.level < n)
  if above = m.above then []
  else if above then (if insideHoldoff s m then [] else crossingNotice d m false n)
  else crossingNotice d m true n

/-- Notices are queued one after the other. -/
def tellAll (ns : List Notice) (s : State) : State := ns.foldl (fun t n => notify n t) s

/-! ### Choosing the next chunk (R68 to R70) -/

/-- A job's next chunk: its clip, whether it belongs to a recopy pass, and whether it starts the clip at the read cursor (R70). -/
structure NextChunk where
  clip : Nat
  recopy : Bool
  starts : Bool
  deriving DecidableEq, Repr

/-- The clip in first reading: before the read cursor and neither STAGED nor SOURCE_ERROR (R70). -/
def firstReading (s : State) (j : Job) : Option Nat := (j.order.take j.cursor).find? (fun c => !clipRead s c)

/-- The job's next chunk (R70). -/
def nextChunk (s : State) (j : Job) : Option NextChunk :=
  match j.recopy with
  | c :: _ => some ⟨c, true, false⟩
  | [] =>
    match firstReading s j with
    | some c => some ⟨c, false, false⟩
    | none => (j.order[j.cursor]?).map (fun c => ⟨c, false, true⟩)

/-- The target set of a chunk: the job's destination set, or the clip's recopy set (R69). -/
def targetSet (s : State) (j : Job) (n : NextChunk) : DestSet :=
  if n.recopy then
    match s.clip n.clip with
    | some k => k.recopySet
    | none => 0
  else j.destSet

/-- No card read is in flight on `p` (item 7 of R69). -/
def portFree (s : State) (p : Port) : Bool :=
  (s.port p).request.isNone && (s.reader p).chunk.isNone && (s.reader p).segment.isNone

/-- The start condition of port `p`'s reader (R69). -/
def startCondition (s : State) (p : Port) : Bool :=
  match (s.port p).job with
  | some h =>
    match s.job h with
    | some j =>
      decide ((s.port p).state = .bound) && decide (j.state = .reading) && !j.paused && !j.held &&
        (nextChunk s j).any (fun n => allDests.any (fun d => dmem (targetSet s j n) d && usable s j d)) &&
        decide (slotsHeld s h < j.quota) && portFree s p
    | none => false
  | none => false

/-! ### Lamps (R23, R24) -/

/-- The colour of port `p`'s lamp (R23). -/
def lampOf (s : State) (p : Port) : Lamp :=
  let x := s.port p
  let job := x.job.bind s.job
  if x.state = .fault ∨ job.any (fun j => !j.clearable && j.attention) = true then .red
  else if x.state = .released ∨ job.any Job.clearable = true then .green
  else if job.any (fun j => j.paused || j.held) = true then .blinking
  else if x.state = .empty ∨ x.state = .settling then .off
  else .amber

/-- A port with its lamp at a colour; entering AMBER blinking begins with the lit half (R24). -/
def CardPort.withLamp (x : CardPort) (lamp : Lamp) : CardPort :=
  { x with lamp := lamp, blinkLit := if lamp = .blinking then (if x.lamp = .blinking then x.blinkLit else true) else false }

/-- How a port stands after an event: a port that was busy and is so no more has just become free (R84, assumption log 28). -/
def nextUse (s : State) (p : Port) : PortUse :=
  if portFree s p then (if s.use p = .busy then .freed else .idle) else .busy

/-- The readers' places in the waiting set (R65), the lamps (R23) and how the ports stand follow their inputs. -/
def refresh (s : State) : State :=
  { s with
    ports := Vector.ofFn (fun p => (s.port p).withLamp (lampOf s p))
    readers := Vector.ofFn (fun p => { s.reader p with waiting := startCondition s p })
    portUse := Vector.ofFn (nextUse s) }

/-! ### The end of an event -/

/-- The drained tests, then the evaluations, then the free tests, of the jobs an event reaches. R145 gives the clearable notices the order of
increasing handle; that the JOB_DRAINED notices with their SOURCE tasks (R38), and the JOB_CLOSED notices (R46), of several jobs come in
that order too is the model's choice (DESIGN CHOICE, assumption log 29). -/
def closeJobs (hs : List Nat) (s : State) : State :=
  hs.foldl freeJob (hs.foldl evalJob (hs.foldl drainJob s))

/-- The end of an event that changes backlogs. The monitors see the change as it is made (R77, step 3, R156), so that their holds reach jobs
which the event then drains; the tests follow; and the crossings' notices are queued last, in increasing destination number (R158). -/
def closeSeen (hs : List Nat) (s : State) : State :=
  tellAll (allDests.flatMap (crossingNews s)) (closeJobs hs (allDests.foldl seeBacklog s))

end Sys2Proof.Machine
end

