-- ==== Sys2Proof/Machine/Engines.lean ====
section
/-! DEFINITION. The Verify Engines (spec/07): eligibility and taking (R124, R125), asking for segments (R126 to R128), folding (R91), the
comparison and its outcomes (R129 to R133), giving up and letting go of a task (R134 to R136). -/

namespace Sys2Proof.Machine

open Sys2Proof

/-- Engine `e` becomes free (R140). -/
def freeEngine (e : EngineIx) (s : State) : State := setEngine s e Engine.idle

/-- Engine `e`'s waiting segment is withdrawn from every arbiter. -/
def withdraw (e : EngineIx) (s : State) : State :=
  { s with
    readers := s.readers.map (fun r => { r with segWaiting := r.segWaiting.filter (fun x => decide (x ≠ e)) })
    dests := s.dests.map (fun x => { x with segWaiting := x.segWaiting.filter (fun y => decide (y ≠ e)) }) }

/-- The card port bound to job `h`. -/
def boundPort (s : State) (h : Nat) : Option Port := (s.job h).bind Job.binding

/-- Job `h` is paused. -/
def jobPaused (s : State) (h : Nat) : Bool := (s.job h).any Job.paused

/-- Engine `e` asks for its next segment: at the destination's port (R127), or at the card port bound to the task's job (R128). -/
def askSegment (e : EngineIx) (s : State) : State :=
  match (s.engine e).task with
  | some (t, h) =>
    let s1 := setEngine s e { s.engine e with seg := .waiting }
    match t.target with
    | .dest d => setDest s1 d { s1.dest d with segWaiting := (s1.dest d).segWaiting ++ [e] }
    | .source =>
      match boundPort s1 h with
      | some p => setReader s1 p { s1.reader p with segWaiting := (s1.reader p).segWaiting ++ [e] }
      | none => s1
  | none => s

/-- Engine `e` gives up its SOURCE task to the head of the queue, retry marker as it was; the state returns to QUEUED (R134, R135). -/
def giveUp (e : EngineIx) (s : State) : State :=
  match (s.engine e).task with
  | some (t, _) =>
    let s1 := setSv t.clip .queued (freeEngine e (withdraw e s))
    { s1 with verifyQueue := t :: s1.verifyQueue }
  | none => s

/-- The source-verify state of an aborted job's SOURCE task goes from VERIFYING to OFF as its engine lets go (R136). -/
def svLetGo (t : Task) (s : State) : State :=
  match t.target with
  | .source => modClip t.clip (fun k => if k.sv = .verifying then { k with sv := .off } else k) s
  | .dest _ => s

/-- Engine `e` lets go of an aborted job's task (R136). -/
def letGo (e : EngineIx) (s : State) : State :=
  match (s.engine e).task with
  | some (t, _) => svLetGo t (freeEngine e (withdraw e s))
  | none => s

/-- The target of a task reaches a state, with its COPY_STATE notice. -/
def settleTarget (t : Task) (copy : CopyState) (sv : SvState) (cause : Cause) (s : State) : State :=
  match t.target with
  | .dest d =>
    if copy = .verified then tellCopy t.clip (.copy d copy) cause (setCopyState t.clip d copy cause s)
    else failCopy t.clip d copy cause s
  | .source => tellCopy t.clip (.source sv) cause (setSv t.clip sv s)

/-- The target of a task returns to FLUSHED or QUEUED for the automatic retry (R131). -/
def retryTarget (t : Task) (s : State) : State :=
  match t.target with
  | .dest d => modClip t.clip (fun k => k.setCopy d { k.copy d with state := .flushed, retryUsed := true }) s
  | .source => setSv t.clip .queued s

/-- The comparison of a task's digest with the clip's source digest and its outcome (R129 to R131); the engine is then free. -/
def compareTask (e : EngineIx) (t : Task) (h : Nat) (s : State) : State :=
  let same := (s.clip t.clip).any (fun k => decide ((s.engine e).acc.map digestOf = some k.digest))
  let s1 := freeEngine e s
  if same then closeJobs [h] (settleTarget t .verified .matched .none s1)
  else if t.retry = false ∧ s.cfg.verifyRetry = 1 then
    let s2 := retryTarget t s1
    closeJobs [h] { s2 with verifyQueue := s2.verifyQueue ++ [{ t with retry := true }] }
  else closeJobs [h] (settleTarget t .mismatch .mismatch .digest s1)

/-- A segment of engine `e` has completed: the next one is asked for, or the task is compared; a SOURCE task of a paused job is given
up instead (R126 to R129, R135), and an aborted job's task is let go (R136). -/
def segmentComplete (g : Segment) (s : State) : State :=
  match (s.engine g.engine).task with
  | some (t, h) =>
    if g.cancelled then closeJobs [h] (letGo g.engine s)
    else if t.target = .source ∧ jobPaused s h = true then closeJobs [h] (giveUp g.engine s)
    else
      let s1 := setEngine s g.engine { s.engine g.engine with next := (s.engine g.engine).next + g.count, seg := .none }
      if (s1.engine g.engine).next < ((s.clip t.clip).map Clip.blocks).getD 0 then askSegment g.engine s1
      else compareTask g.engine t h s1
  | none => s

/-- A segment of engine `e` has ended in failure (R132, R133); the same exceptions hold as at its completion (R135, R136). -/
def segmentFailed (g : Segment) (s : State) : State :=
  match (s.engine g.engine).task with
  | some (t, h) =>
    if g.cancelled then closeJobs [h] (letGo g.engine s)
    else if t.target = .source ∧ jobPaused s h = true then closeJobs [h] (giveUp g.engine s)
    else closeJobs [h] (settleTarget t .failed .mismatch .readError (freeEngine g.engine s))
  | none => s

/-- The data of one completed request of a segment become part of the engine's accumulators (R91). -/
def foldSegment (g : Segment) (count : Nat) (data : List Byte) (s : State) : State :=
  let x := s.engine g.engine
  match engineClip s g.engine, x.acc with
  | some k, some acc =>
    setEngine s g.engine { x with acc := some (foldStream acc data (streamBytes k.length (g.first + g.done) count)) }
  | _, _ => s

/-- A task in the queue may be taken (R124). -/
def eligible (s : State) (t : Task) : Bool :=
  match s.clip t.clip with
  | some k =>
    match s.job k.job with
    | some j =>
      match t.target with
      | .dest d => usable s j d
      | .source => j.binding.isSome && !j.paused
    | none => false
  | none => false

/-- The engine that takes next: engine 0 before engine 1 (R125). -/
def takingEngine (s : State) : Option EngineIx :=
  if (s.engine 0).task = none then some 0 else if (s.engine 1).task = none then some 1 else none

/-- A task's target becomes VERIFYING (R125). -/
def startTarget (t : Task) (s : State) : State :=
  match t.target with
  | .dest d => modClip t.clip (fun k => k.setCopy d { k.copy d with state := .verifying }) s
  | .source => setSv t.clip .verifying s

/-- Engine `e` takes task `t` of job `h`: fresh accumulators, block 0, and its first segment asked for (R125, R126). -/
def takeTask (e : EngineIx) (t : Task) (h : Nat) (s : State) : State :=
  let s1 := startTarget t { s with verifyQueue := s.verifyQueue.erase t }
  askSegment e (setEngine s1 e ⟨some (t, h), 0, some Acc.start, .none⟩)

end Sys2Proof.Machine
end

