-- ==== Sys2Proof/Machine/Loss.lean ====
section
/-! DEFINITION. The loss procedure of a destination (R117 to R119). -/

namespace Sys2Proof.Machine

open Sys2Proof

/-- A STAGED slot without destination `d` in its pending set and its writes in flight (R63, R117). -/
def Slot.without (x : Slot) (d : Dest) : Slot :=
  if x.staged then { x with pending := derase x.pending d, writing := derase x.writing d } else x

/-- `d` is dropped from every STAGED slot; those left with no destination become FREE in increasing slot number (R117). -/
def dropFromSlots (d : Dest) (s : State) : State :=
  (s.slots.map Prod.fst).foldl (fun s n => freeIfDone n s) { s with slots := s.slots.map (fun e => (e.1, e.2.without d)) }

/-- The port's own work ends: operation, queues and write count (R117). Its request is abandoned while the link is up (R96). -/
def DestPort.dropWork (x : DestPort) : DestPort :=
  { x with
    op := none
    request := if x.linkUp then x.request.map (fun r => { r with abandoned := true }) else none
    writeQueue := [], awaiting := [], segWaiting := [], writeCount := 0 }

/-- The state a copy on the lost drive takes (R118): FAILED with cause DEST_LOST, SUSPECT, or unchanged. -/
def lossOf (st : CopyState) : Option CopyState :=
  match st with
  | .pending | .written | .flushed | .verifying => some .failed
  | .verified => some .suspect
  | _ => none

/-- The copy of clip `c` on `d` is lost if its job recorded the lost drive (R118). -/
def loseCopy (d : Dest) (lost : Option DestIdentity) (s : State) (c : Nat) : State :=
  match s.clip c with
  | some k =>
    match s.job k.job with
    | some j =>
      if dmem j.destSet d = true ∧ j.destId d = lost ∧ lost ≠ none then
        match lossOf (k.copy d).state with
        | some .failed => failCopy c d .failed .destLost s
        | some st => tellCopy c (.copy d st) (k.copy d).cause (setCopyState c d st (k.copy d).cause s)
        | none => s
      else s
    | none => s
  | none => s

/-- The engine holds a task for `d`. -/
def Engine.isFor (e : Engine) (d : Dest) : Bool := e.task.any (fun t => decide (t.1.target = .dest d))

/-- Verify tasks for `d` are removed and the engines that hold one are freed (R119). -/
def dropTasks (d : Dest) (s : State) : State :=
  { s with
    verifyQueue := s.verifyQueue.filter (fun t => decide (t.target ≠ .dest d))
    engines := s.engines.map (fun e => if e.isFor d then Engine.idle else e) }

/-- The loss procedure of `d`, and the port's new state with its reason (R98, R117 to R119). -/
def loseDest (d : Dest) (st : DestState) (reason : DestReason) (s : State) : State :=
  let lost := (s.dest d).identity
  let s1 := dropFromSlots d (setDest s d { (s.dest d).dropWork with state := st })
  let s2 := notify (.destState d st reason) s1
  let s3 := (s2.clips.map Prod.fst).foldl (loseCopy d lost) s2
  let s4 := dropHolds d true true (dropTasks d s3)
  let s5 := setMonitor s4 d { s4.monitor d with above := false }
  refresh (closeJobs (liveJobs s5) s5)

end Sys2Proof.Machine
end

