-- ==== Sys2Proof/Machine/Flags.lean ====
section
/-! DEFINITION. The sticky flags and the status block: link flags (R4), read-error flags (R18), drive error flags (R97), tripped flags
(R158), the status block of STATUS_GET and FLAGS_CLEAR (R10, R12). -/

namespace Sys2Proof.Machine

open Sys2Proof

/-- No link flag set. -/
def clearLinkFlags : LinkFlags := ⟨false, false, false, false, false⟩

/-- The link flags as one byte (spec/01, Status block); its other bits are 0 (DESIGN CHOICE, assumption log 31). -/
def LinkFlags.byte (f : LinkFlags) : Byte := bitsByte [f.parity, f.framing, f.check, f.gap, f.overrun]

/-- A destination's error flags as one byte (spec/01, Status block); its other bits are 0 (DESIGN CHOICE, assumption log 31). -/
def errorByte (x : DestPort) : Byte := bitsByte [x.writeErr, x.readErr, x.timeout]

/-- The link flags with the flag of a discard's cause set (R4, R5). -/
def LinkFlags.mark (f : LinkFlags) (cause : LinkCause) : LinkFlags :=
  match cause with
  | .parity => { f with parity := true }
  | .framing => { f with framing := true }
  | .length => { f with framing := true }
  | .check => { f with check := true }
  | .gap => { f with gap := true }
  | .overrun => { f with overrun := true }

/-- The error flags that an ERROR answer (R97), or a timeout counted as one, sets for a request. -/
def DestPort.markError (x : DestPort) (ask : BridgeAsk) (timedOut : Bool) : DestPort :=
  match ask with
  | .identify => { x with timeout := x.timeout || timedOut }
  | .write _ _ => { x with writeErr := true, timeout := x.timeout || timedOut }
  | .flush => { x with writeErr := true, timeout := x.timeout || timedOut }
  | .read _ _ => { x with readErr := true, timeout := x.timeout || timedOut }

/-- The first 7 bytes of the status block: every sticky flag of the part (R10, R12). The spec gives no value to the bits of these bytes that
stand for no flag (5 to 7 of the link flags, 3 to 7 of a destination's errors, 4 to 7 of the tripped flags); that they are sent as 0 is the
model's choice (DESIGN CHOICE, assumption log 31). -/
def flagBytes (s : State) : List Byte :=
  [s.linkFlags.byte, bitsByte (s.ports.toList.map CardPort.readError)] ++ s.dests.toList.map errorByte ++
    [bitsByte (s.monitors.toList.map Monitor.tripped)]

/-- The 34 bytes of the status block (spec/01). -/
def statusBlock (s : State) : List Byte :=
  flagBytes s ++ s.ports.toList.flatMap (fun x => leBytes 1 x.state.code) ++ s.ports.toList.flatMap (fun x => handleByte x.job) ++
    s.dests.toList.flatMap (fun x => leBytes 1 x.state.code) ++ leBytes 2 s.slots.length ++ leBytes 1 s.notices.length ++
    leBytes 4 s.missed.toNat

/-- Every sticky flag clear (R12). -/
def clearFlags (s : State) : State :=
  { s with
    linkFlags := clearLinkFlags
    ports := s.ports.map (fun x => { x with readError := false })
    dests := s.dests.map (fun x => { x with writeErr := false, readErr := false, timeout := false })
    monitors := s.monitors.map (fun x => { x with tripped := false }) }

end Sys2Proof.Machine
end

