-- ==== Sys2Proof/Machine/Reset.lean ====
section
/-! DEFINITION. The resets: HARD_RESET and RESET_HELD_LOW (R1), and the soft reset (R13, and the "Values after reset" of every chapter). -/

namespace Sys2Proof.Machine

open Sys2Proof

/-- The outcome type of every meaning. -/
abbrev Result := Host.Outcome State Fault Refusal

/-- A card port when RESET returns high: presence that reads present counts as appearing (R35). -/
def hardPort (x : CardPort) : CardPort :=
  if x.present then { CardPort.reset with present := true, state := .settling, settle := some defaultSettings.settleMs }
  else CardPort.reset

/-- A destination port when RESET returns high: a link that is up counts as coming up, with no notice, and IDENTIFY is sent (R120, R99). -/
def hardDest (x : DestPort) : DestPort :=
  if x.linkUp then
    { DestPort.reset with
      linkUp := true, state := .identifying, request := some ⟨.identify, false, defaultSettings.destTimeoutMs, false⟩ }
  else DestPort.reset

/-- Every block takes its hard-reset values (R1); the input pins and the model's own fields are kept. -/
def hardResetState (rateHigh : Bool) (s : State) : State :=
  { State.reset with
    rate := rateHigh
    ports := s.ports.map hardPort
    dests := s.dests.map hardDest
    windowStart := s.now
    now := s.now
    pending := s.pending }

/-- A monitor at the start of a window of `period` ms: a holdoff at or above it is lowered (R154). -/
def Monitor.lowered (m : Monitor) (period : Nat) : Monitor :=
  if period ≤ m.holdoff then { m with holdoff := period - 1 } else m

/-- An abandoned adapter request after a soft reset; one whose ERROR has arrived is over (R35, R15, assumption log 13). -/
def CardRequest.abandonAll (r : CardRequest) : Option CardRequest :=
  if r.errorHeld then none else some { r with owner := .abandoned none }

/-- A card port after a soft reset (R35), before its lamp follows. -/
def softPort (cfg : Settings) (x : CardPort) : CardPort :=
  { x with
    state := match x.state with
      | .empty => .empty
      | .settling => .settling
      | _ => .present
    settle := if x.state = .settling ∧ x.present = true then some cfg.settleMs else none
    identity := none, job := none, readError := false
    request := x.request.bind CardRequest.abandonAll }

/-- A destination port after a soft reset (R120), before its IDENTIFY is sent. -/
def softDest (x : DestPort) : DestPort :=
  { DestPort.reset with
    linkUp := x.linkUp
    state := if x.linkUp then .identifying else .absent
    request := if x.linkUp then x.request.map (fun r => { r with abandoned := true }) else none }

/-- A monitor after a soft reset (R154, R164). -/
def softMonitor (cfg : Settings) (m : Monitor) : Monitor :=
  { m with above := false, tripped := false }.lowered cfg.paceWindowMs

/-- Every block takes its soft-reset values (R13, R14, R35, R60, R86, R120, R140, R164, R172). -/
def softResetState (s : State) : State :=
  let ports := s.ports.map (softPort s.cfg)
  let s1 : State :=
    { State.reset with
      rate := s.rate
      cfg := s.cfg
      ports := ports
      surveyQueue := allPorts.filter (fun p => decide (ports[p.val].state = .present))
      known := s.known
      dests := s.dests.map softDest
      windowPeriod := s.cfg.paceWindowMs
      windowStart := s.now
      monitors := s.monitors.map (softMonitor s.cfg)
      now := s.now
      pending := s.pending }
  refresh (allDests.foldl (fun t d => bridgeKick d t) s1)

/-- The frame being sent is the reply of the DEVICE_RESET that was taken (R13): it has left the waiting place, and no other request can
have been taken after it. -/
def resetReplyOnLine (s : State) : Bool :=
  s.resetPending && s.waitingReply.isNone && s.sending.any (fun f => decide (f.kind = 0x85))

/-- HARD_RESET (R1). -/
def execHardReset (rateHigh : Bool) (s : State) : Result := .next (hardResetState rateHigh s)

/-- SOFT_RESET (R13): the last byte of the DEVICE_RESET reply has been sent. -/
def execSoftReset (s : State) : Result := .next (if resetReplyOnLine s then softResetState s else s)

/-- RESET_HELD_LOW (R1): TXD idle, RXD ignored, frames in progress cut off; no request until RESET returns high (`awake`). -/
def execResetHeldLow (s : State) : Result :=
  .next { s with resetLow := true, rx := .hunting, sending := none }

end Sys2Proof.Machine
end

