-- ==== Sys2Proof/Machine/Cards.lean ====
section
/-! DEFINITION. The card ports, the Survey Unit and the Known-Card List (spec/02), but for what a confirmed ERROR does to a chunk read
or a segment (Reading.lean). -/

namespace Sys2Proof.Machine

open Sys2Proof

/-! ### Presence (R19) -/

/-- A port whose presence input has come to read present (R19, R35). -/
def CardPort.appear (x : CardPort) (settleMs : Nat) : CardPort :=
  match x.state with
  | .empty => { x with present := true, state := .settling, settle := some settleMs, absence := false }
  | .settling => { x with present := true, settle := some settleMs, absence := false }
  | _ => { x with present := true, absence := false }

/-- A port whose presence input has come to read absent (R19). -/
def CardPort.drop (x : CardPort) : CardPort :=
  match x.state with
  | .empty => { x with present := false }
  | .settling => { x with present := false, settle := none, absence := true }
  | _ => { x with present := false, absence := true }

/-- PRESENCE_APPEAR (R19); while RESET is held low only the level of the input follows (R1, R35). -/
def execPresenceAppear (p : Port) (s : State) : Result :=
  .next (
    if s.resetLow then setPort s p { s.port p with present := true }
    else if (s.port p).present then s
    else setPort s p ((s.port p).appear s.cfg.settleMs))

/-- PRESENCE_DROP (R19); while RESET is held low only the level of the input follows (R1, R35). -/
def execPresenceDrop (p : Port) (s : State) : Result :=
  .next (
    if s.resetLow then setPort s p { s.port p with present := false }
    else if (s.port p).present then setPort s p (s.port p).drop
    else s)

/-- A port joins the survey queue at the newest end unless it is there or is being surveyed (R25). -/
def joinSurvey (p : Port) (s : State) : State :=
  if p ∈ s.surveyQueue ∨ s.survey.any (fun v => decide (v.port = p)) = true then s
  else { s with surveyQueue := s.surveyQueue ++ [p] }

/-- A port leaves the survey queue (R25). -/
def leaveSurveyQueue (p : Port) (s : State) : State :=
  { s with surveyQueue := s.surveyQueue.filter (fun q => decide (q ≠ p)) }

/-- The settle timer runs out: PRESENT, CARD_INSERTED, and the survey queue if auto_survey is 1 (R19). -/
def settled (p : Port) (s : State) : State :=
  if (s.port p).state = .settling ∧ (s.port p).settle.isSome = true then
    let s1 := notify (.cardInserted p) (setPort s p { s.port p with state := .present, settle := none })
    refresh (if s.cfg.autoSurvey = 1 then joinSurvey p s1 else s1)
  else s

/-- SETTLE_TIMER_EXPIRY (R19). -/
def execSettleTimerExpiry (p : Port) (s : State) : Result := .next (awake (settled p) s)

/-! ### Removal (R20, R79, R134) -/

/-- A chunk read in flight is rolled back: its slot becomes FREE, the checkpoint stays; a recopy pass whose first chunk it is has not
begun (R79, R81). -/
def rollBack (p : Port) (s : State) : State :=
  match (s.reader p).chunk with
  | some c =>
    let s1 := freeSlot c.slot (setReader s p { s.reader p with chunk := none, retries := 0 })
    if c.recopy = true ∧ c.first = 0 then modClip c.clip (fun k => { k with passMembers := 0 }) s1 else s1
  | none => s

/-- Engine `e`'s segment waits at, or is in flight on, port `p`. -/
def engineAtPort (s : State) (p : Port) (e : EngineIx) : Bool :=
  decide (e ∈ (s.reader p).segWaiting) || (s.reader p).segment.any (fun g => decide (g.engine = e))

/-- An engine at the port gives up its task, or lets go of an aborted job's (R134, R136). -/
def removeEngine (p : Port) (s : State) (e : EngineIx) : State :=
  if engineAtPort s p e then
    if (s.reader p).segment.any (fun g => decide (g.engine = e) && g.cancelled) then letGo e s else giveUp e s
  else s

/-- The source-verify segments at a port end with the card, engine 1's task joining the head before engine 0's (R134). -/
def removeSegments (p : Port) (s : State) : State :=
  let s1 := [1, 0].foldl (removeEngine p) s
  match (s1.reader p).segment with
  | some _ => setReader s1 p { s1.reader p with segment := none, retries := 0 }
  | none => s1

/-- A survey in progress on the port ends without a result (R32). -/
def endSurvey (p : Port) (s : State) : State :=
  { s with survey := s.survey.filter (fun v => decide (v.port ≠ p)) }

/-- A port with no card. -/
def CardPort.emptied (x : CardPort) : CardPort :=
  { x with state := .empty, settle := none, absence := false, identity := none, job := none }

/-- The job's card binding becomes ABSENT (R39). -/
def unbind (job : Option Nat) (s : State) : State :=
  match job with
  | some h => modJob h (fun j => { j with binding := none }) s
  | none => s

/-- Removal is detected outside EMPTY and SETTLING (R20). -/
def removeCard (p : Port) (s : State) : State :=
  let job := (s.port p).job
  let s1 := leaveSurveyQueue p (endSurvey p (removeSegments p (rollBack p (abandonCard p s))))
  let s2 := unbind job s1
  let s3 := notify (.cardRemoved p job) (setPort s2 p (s2.port p).emptied)
  refresh (closeJobs (liveJobs s3) s3)

/-- The absence at a port has reached 3 ms (R19, R20). -/
def absenceExpired (p : Port) (s : State) : State :=
  if (s.port p).absence then
    match (s.port p).state with
    | .empty => s
    | .settling => refresh (setPort s p (s.port p).emptied)
    | _ => removeCard p s
  else s

/-- CARD_REMOVAL (R20). -/
def execCardRemoval (p : Port) (s : State) : Result := .next (awake (absenceExpired p) s)

/-! ### Answers (R15 to R17) -/

/-- An ERROR answer, or a timeout that counts as one, is held (R16, R17). -/
def holdError (p : Port) (s : State) : State :=
  match (s.port p).request with
  | some r =>
    match r.owner with
    | .abandoned _ => s
    | _ => setPort s p { s.port p with request := some { r with errorHeld := true } }
  | none => s

/-- ADAPTER_ERROR_ANSWER (R17). -/
def execAdapterErrorAnswer (p : Port) (s : State) : Result := .next (awake (holdError p) s)

/-- An abandoned request's occupation of the link ends: a waiting request is sent, and the job it read for is tested (R15, R46). -/
def endAbandoned (p : Port) (s : State) : State :=
  match (s.port p).request with
  | some r =>
    match r.owner with
    | .abandoned job => refresh (closeJobs job.toList (cardKick p (clearCard p s)))
    | _ => s
  | none => s

/-- card_timeout_ms runs out on the request that occupies the link (R15, R16). -/
def cardTimedOut (p : Port) (s : State) : State :=
  match (s.port p).request with
  | some r =>
    match r.owner with
    | .abandoned _ => endAbandoned p s
    | _ => holdError p s
  | none => s

/-- CARD_REQUEST_TIMEOUT (R16). -/
def execCardRequestTimeout (p : Port) (s : State) : Result := .next (awake (cardTimedOut p) s)

/-- CARD_ABANDONED_ANSWER (R15). -/
def execCardAbandonedAnswer (p : Port) (s : State) : Result := .next (awake (endAbandoned p) s)

/-! ### The lamp (R24) -/

/-- The blink's half-period ends (R24). -/
def blinkToggle (p : Port) (s : State) : State :=
  if (s.port p).lamp = .blinking then setPort s p { s.port p with blinkLit := !(s.port p).blinkLit } else s

/-- LAMP_BLINK_TOGGLE (R24). -/
def execLampBlinkToggle (p : Port) (s : State) : Result := .next (awake (blinkToggle p) s)

/-! ### The survey (R22, R26 to R31) -/

/-- CARD_SURVEY's answer (R22). -/
def cardSurvey (n : Nat) (s : State) : Reply × State :=
  match portOf n with
  | none => (statusOnly .badHandle, s)
  | some p =>
    match (s.port p).state with
    | .empty | .settling => (statusOnly .badState, s)
    | .bound | .released => (statusOnly .busy, s)
    | .surveying => (statusOnly .ok, s)
    | .present | .identified | .fault => (statusOnly .ok, joinSurvey p s)

/-- CARD_SURVEY (R22). -/
def execCardSurvey (s : State) : Result := .next (serve 0x08 readOne cardSurvey s)

/-- The Survey Unit is free and starts the survey of the oldest queued port (R26). -/
def startSurvey (s : State) : State :=
  match s.survey, s.surveyQueue with
  | none, p :: rest =>
    refresh (cardKick p
      (setPort { s with surveyQueue := rest, survey := some ⟨p, .identify, 0⟩ } p
        { s.port p with state := .surveying, identity := none }))
  | _, _ => s

/-- SURVEY_START (R26). -/
def execSurveyStart (s : State) : Result := .next (awake startSurvey s)

/-- The survey in progress ends in failure (R29). -/
def failSurvey (p : Port) (cause : SurveyCause) (s : State) : State :=
  refresh (notify (.surveyFailed p cause)
    (setPort { s with survey := none } p { s.port p with state := .fault, identity := none }))

/-- The survey's own request is in flight on its port and no ERROR of it is held. -/
def surveyAwaits (s : State) (v : Survey) : Bool :=
  decide ((s.port v.port).request.map (fun r => (r.owner, r.ask, r.errorHeld)) = some (.survey, surveyAsk v, false))

/-- The OK answer to the survey's IDENTIFY (R27). -/
def surveyIdentified (answer : AdapterIdentity) (s : State) : State :=
  match s.survey with
  | some v =>
    if v.step = .identify ∧ surveyAwaits s v = true then
      let s1 := clearCard v.port s
      if 2 ^ 32 < answer.capacity ∨ 24 < answer.label.length then failSurvey v.port .adapter s1
      else if answer.capacity < Config.surveyBlocks then failSurvey v.port .tooSmall s1
      else cardKick v.port { s1 with survey := some ⟨v.port, .read answer, 0⟩ }
    else s
  | none => s

/-- SURVEY_IDENTIFY_ANSWER (R27). -/
def execSurveyIdentifyAnswer (capacity : Nat) (writeProtect : Bool) (adapterType : Byte) (label : List Byte) (s : State) : Result :=
  .next (awake (surveyIdentified ⟨capacity, writeProtect, adapterType, label⟩) s)

/-- The card-ABSENT job that the card belongs to (R31). -/
def absentJob (s : State) (id : CardIdentity) : Option Nat :=
  (s.jobs.find? (fun e => decide (e.2.state ≠ .closing) && e.2.binding.isNone && sameCard e.2.identity id)).map Prod.fst

/-- A job is bound to a port: the job's binding, the port, and the port's count of blocks read (R21, R39, R72). -/
def bindJob (h : Nat) (p : Port) (s : State) : State :=
  let s1 := modJob h (fun j => { j with binding := some p }) s
  let s2 := setPort s1 p { s1.port p with state := .bound, job := some h }
  setReader s2 p { s2.reader p with blocksRead := 0 }

/-- Survey completion (R31). -/
def completeSurvey (p : Port) (id : CardIdentity) (s : State) : State :=
  let s1 := notify (.cardIdentified p id)
    (setPort { s with survey := none } p { s.port p with state := .identified, identity := some id })
  refresh (
    match absentJob s1 id with
    | some h => notify (.jobRebound h p) (bindJob h p s1)
    | none => if id.fingerprint ∈ s1.known then notify (.cardKnown p id.fingerprint) s1 else s1)

/-- The survey's READ completes OK: the fingerprint, and survey completion (R28, R31). -/
def surveyRead (data : List Byte) (s : State) : State :=
  match s.survey with
  | some v =>
    match v.step with
    | .read a =>
      if surveyAwaits s v then
        completeSurvey v.port ⟨a.capacity, a.writeProtect, a.adapterType, a.label, fingerprintOf data⟩ (clearCard v.port s)
      else s
    | .identify => s
  | none => s

/-- SURVEY_READ_DONE (R28). -/
def execSurveyReadDone (data : List Byte) (s : State) : Result := .next (awake (surveyRead data) s)

/-- A confirmed ERROR at the survey's step: a retry, or failure on the fourth attempt (R27, R28). -/
def surveyError (p : Port) (s : State) : State :=
  match s.survey with
  | some v =>
    if v.retries < Config.cardRetries then cardKick p { s with survey := some { v with retries := v.retries + 1 } }
    else failSurvey p (match v.step with | .identify => .adapter | .read _ => .read) s
  | none => s

/-! ### The Known-Card List (R33, R34) -/

/-- The list with a released fingerprint at its newest end (R33). -/
def addKnown (known : List (BitVec 64)) (f : BitVec 64) : List (BitVec 64) :=
  if f ∈ known then known.filter (fun g => decide (g ≠ f)) ++ [f]
  else if known.length < Config.knownEntries then known ++ [f]
  else known.drop 1 ++ [f]

/-- KNOWN_LIST_QUERY's answer (R34). -/
def knownListQuery (_ : Unit) (s : State) : Reply × State :=
  (⟨.ok, leBytes 1 s.known.length ++ s.known.flatMap (fun f => leBytes 8 f.toNat)⟩, s)

/-- KNOWN_LIST_QUERY (R34). -/
def execKnownListQuery (s : State) : Result := .next (serve 0x30 readNone knownListQuery s)

/-- KNOWN_LIST_CLEAR's answer (R34). -/
def knownListClear (_ : Unit) (s : State) : Reply × State :=
  (⟨.ok, leBytes 1 s.known.length⟩, { s with known := [] })

/-- KNOWN_LIST_CLEAR (R34). -/
def execKnownListClear (s : State) : Result := .next (serve 0x31 readNone knownListClear s)

end Sys2Proof.Machine
end

