-- ==== Sys2Proof/Machine/Jobs.lean ====
section
/-! DEFINITION. Jobs (spec/03, 3.1 to 3.5) and the release of a card (spec/08, 8.5). -/

namespace Sys2Proof.Machine

open Sys2Proof

/-- The handle check that comes first in every request that names a job (R36): BAD_HANDLE, or the owner's answer for the live job. -/
def withJob (h : Nat) (s : State) (owner : Job → Reply × State) : Reply × State :=
  match s.job h with
  | some j => owner j
  | none => (statusOnly .badHandle, s)

/-! ### JOB_OPEN (R40, R41) -/

/-- Some live job has an equal card identity (R40, check 5). -/
def cardInUse (s : State) (id : CardIdentity) : Bool := s.jobs.any (fun e => sameCard e.2.identity id)

/-- Every destination of the set is ONLINE (R40, check 4). -/
def allOnline (s : State) (set : DestSet) : Bool :=
  allDests.all (fun d => !dmem set d || decide ((s.dest d).state = .online))

/-- The required copies as stored (R40). -/
def fitRequired (n : Nat) (set : DestSet) : Nat := min (max n 1) (dcard set)

/-- The slot quota as stored (R40). -/
def fitQuota (n : Nat) : Nat := min (max n 1) Config.maxQuota

/-- The new live record (R36, R41). -/
def openedJob (s : State) (p : Port) (a : JobOpenFields) (id : CardIdentity) : Job :=
  { state := .reading, binding := some p, identity := id, destSet := a.destSet,
    destIds := Vector.ofFn (fun d => if dmem a.destSet d then (s.dest d).identity else none),
    required := fitRequired a.required a.destSet, sourceVerify := decide (a.sourceVerify = 1), quota := fitQuota a.quota,
    intakeFinal := false, paused := false, order := [], cursor := 0, recopy := [], softHold := 0, hardHold := 0,
    tasksIssued := false, clearable := false, attention := false, holdChanged := false }

/-- JOB_OPEN's answer (R40, R41). -/
def jobOpen (a : JobOpenFields) (s : State) : Reply × State :=
  match portOf a.port with
  | none => (statusOnly .badHandle, s)
  | some p =>
    if a.destSet = 0 ∨ 1 < a.sourceVerify then (statusOnly .outOfRange, s)
    else if (s.port p).state ≠ .identified then (statusOnly .badState, s)
    else if allOnline s a.destSet = false then (statusOnly .badState, s)
    else
      match (s.port p).identity with
      | none => (statusOnly .badState, s)
      | some id =>
        if cardInUse s id then (statusOnly .duplicateCard, s)
        else
          match firstFree s.jobs Config.jobRecords 0 with
          | none => (statusOnly .noSpace, s)
          | some h =>
            let j := openedJob s p a id
            let st := if j.required = a.required ∧ j.quota = a.quota then Status.ok else Status.clamped
            (⟨st, leBytes 1 h ++ leBytes 1 j.required ++ leBytes 2 j.quota⟩,
              refresh (leaveSurveyQueue p (bindJob h p (setJob s h j))))

/-- JOB_OPEN (R40). -/
def execJobOpen (s : State) : Result := .next (serve 0x10 readJobOpen jobOpen s)

/-! ### JOB_FINAL, JOB_PAUSE, JOB_RESUME (R42, R43) -/

/-- Some clip of the job is BUILDING (R42). -/
def hasBuilding (s : State) (h : Nat) : Bool :=
  s.clips.any (fun e => decide (e.2.job = h) && decide (e.2.sourceState = .building))

/-- JOB_FINAL's answer (R42). -/
def jobFinal (h : Nat) (s : State) : Reply × State :=
  withJob h s (fun j =>
    if j.state = .closing then (statusOnly .badState, s)
    else if hasBuilding s h then (statusOnly .busy, s)
    else if j.intakeFinal then (statusOnly .ok, s)
    else (statusOnly .ok, refresh (closeJobs [h] (setJob s h { j with intakeFinal := true }))))

/-- JOB_FINAL (R42). -/
def execJobFinal (s : State) : Result := .next (serve 0x11 readOne jobFinal s)

/-- An engine whose SOURCE task of the paused job has only a waiting segment gives the task up at once (R135). -/
def pauseEngine (h : Nat) (s : State) (e : EngineIx) : State :=
  match (s.engine e).task with
  | some (t, h') => if h' = h ∧ t.target = .source ∧ (s.engine e).seg ≠ .inFlight then giveUp e s else s
  | none => s

/-- JOB_PAUSE's answer (R43, R135): engine 1's task joins the head before engine 0's. -/
def jobPause (h : Nat) (s : State) : Reply × State :=
  withJob h s (fun j =>
    if j.state = .closing then (statusOnly .badState, s)
    else if j.paused then (statusOnly .ok, s)
    else (statusOnly .ok, refresh (closeJobs [h] ([1, 0].foldl (pauseEngine h) (setJob s h { j with paused := true })))))

/-- JOB_PAUSE (R43). -/
def execJobPause (s : State) : Result := .next (serve 0x12 readOne jobPause s)

/-- JOB_RESUME's answer (R43). -/
def jobResume (h : Nat) (s : State) : Reply × State :=
  withJob h s (fun j =>
    if j.state = .closing then (statusOnly .badState, s)
    else (statusOnly .ok, refresh (setJob s h { j with paused := false })))

/-- JOB_RESUME (R43). -/
def execJobResume (s : State) : Result := .next (serve 0x13 readOne jobResume s)

/-! ### JOB_ABORT (R44, R45) -/

/-- A non-final copy of an aborted job becomes FAILED with cause ABORTED (R44). -/
def Copy.aborted (x : Copy) : Copy :=
  match x.state with
  | .pending | .written | .flushed | .verifying => { x with state := .failed, cause := .aborted }
  | _ => x

/-- A committed clip of an aborted job (R44); its failed copies leave the recopy set (R82). -/
def Clip.aborted (c : Clip) : Clip :=
  { c with
    copies := c.copies.map Copy.aborted
    sv := match c.sv with
      | .waiting | .queued => .off
      | sv => sv
    recopySet := 0, passMembers := 0 }

/-- The clips of an aborted job: BUILDING ones are freed, the others are failed (R44, steps 4 and 5). -/
def abortClips (h : Nat) (s : State) : State :=
  { s with
    clips := (s.clips.filter (fun e => !(decide (e.2.job = h) && decide (e.2.sourceState = .building)))).map
      (fun e => if e.2.job = h then (e.1, e.2.aborted) else e) }

/-- The card port of an aborted or released job changes state and loses its bound job (R21). -/
def unbindPort (binding : Option Port) (st : PortState) (s : State) : State :=
  match binding with
  | some p => setPort s p { s.port p with state := st, job := none }
  | none => s

/-- The slot is held by job `h`. -/
def slotOfJob (s : State) (h n : Nat) : Bool := (s.slot n).any (fun x => decide (x.job = h))

/-- The request that occupies the bridge link is one of the operation in flight. -/
def bridgeLive (x : DestPort) : Bool := x.request.any (fun r => !r.abandoned)

/-- Destination `d` at an abort of job `h` (R45, R64, R109, R110, R115): the job leaves its queues, and the operation in flight ends
with its request in flight, or at once if it has sent none (assumption log 14). -/
def abortDest (h : Nat) (s : State) (d : Dest) : State :=
  let x := s.dest d
  let x1 := { x with
    writeQueue := x.writeQueue.filter (fun n => !slotOfJob s h n)
    awaiting := x.awaiting.filter (fun c => !clipOfJob s h c)
    segWaiting := x.segWaiting.filter (fun e => !engineOfJob h (s.engine e)) }
  match x.op with
  | some (.write n k _) =>
    if slotOfJob s h n then
      if bridgeLive x then setDest s d { x1 with op := some (.write n k true) }
      else modSlot n (fun y => { y with writing := derase y.writing d }) (setDest s d { x1 with op := none })
    else setDest s d x1
  | some (.segment g) =>
    if engineOfJob h (s.engine g.engine) then
      if bridgeLive x then setDest s d { x1 with op := some (.segment { g with cancelled := true }) }
      else letGo g.engine (setDest s d { x1 with op := none })
    else setDest s d x1
  | _ => setDest s d x1

/-- The request that occupies the adapter link is the chunk read's or the segment's. -/
def cardLive (x : CardPort) (owner : CardOwner) : Bool := x.request.any (fun r => decide (r.owner = owner))

/-- Card port `p` at an abort of job `h` (R76, R85): a chunk read or a segment in flight ends with its request in flight, or at once if it
has sent none. -/
def abortReader (h : Nat) (s : State) (p : Port) : State :=
  let s1 :=
    match (s.reader p).chunk with
    | some c =>
      if c.job = h then
        if cardLive (s.port p) .chunk then setReader s p { s.reader p with chunk := some { c with cancelled := true } }
        else freeSlot c.slot (setReader s p { s.reader p with chunk := none, retries := 0 })
      else s
    | none => s
  match (s1.reader p).segment with
  | some g =>
    if engineOfJob h (s1.engine g.engine) then
      if cardLive (s1.port p) .segment then setReader s1 p { s1.reader p with segment := some { g with cancelled := true } }
      else letGo g.engine (setReader s1 p { s1.reader p with segment := none, retries := 0 })
    else s1
  | none => s1

/-- An engine whose segment for the aborted job waits lets go at once (R136). -/
def abortEngine (h : Nat) (s : State) (e : EngineIx) : State :=
  if engineOfJob h (s.engine e) = true ∧ (s.engine e).seg ≠ .inFlight then letGo e s else s

/-- The STAGED slots of an aborted job lose their pending sets; those with no write in flight become FREE in increasing number (R64). -/
def abortSlots (h : Nat) (s : State) : State :=
  (s.slots.map Prod.fst).foldl (fun t n => freeIfDone n t)
    { s with slots := s.slots.map (fun e => if e.2.job = h ∧ e.2.staged = true then (e.1, { e.2 with pending := 0 }) else e) }

/-- JOB_ABORT takes job `h`, with record `j` (R44, R45). -/
def abortJob (h : Nat) (j : Job) (s : State) : State :=
  let s1 := setJob s h { j with state := .closing, binding := none, recopy := [], clearable := false }
  let s2 := abortClips h (unbindPort j.binding .identified s1)
  let s3 := allPorts.foldl (abortReader h) (allDests.foldl (abortDest h) s2)
  let s4 := { s3 with verifyQueue := s3.verifyQueue.filter (fun t => !taskOfJob s3 h t) }
  let s5 := abortSlots h ([0, 1].foldl (abortEngine h) s4)
  refresh (closeSeen [h] s5)

/-- JOB_ABORT's answer (R44). -/
def jobAbort (h : Nat) (s : State) : Reply × State :=
  withJob h s (fun j =>
    if j.state = .closing then (statusOnly .badState, s) else (statusOnly .ok, abortJob h j s))

/-- JOB_ABORT (R44). -/
def execJobAbort (s : State) : Result := .next (serve 0x14 readOne jobAbort s)

/-! ### JOB_QUERY (R48) -/

/-- The fields of the JOB_QUERY reply (R48). -/
def jobFields (s : State) (h : Nat) (j : Job) : List Byte :=
  leBytes 1 j.state.code ++ handleByte (j.binding.map Fin.val) ++
    [flagByte j.intakeFinal, flagByte j.paused, flagByte j.clearable, flagByte j.attention, byteOfSet j.destSet] ++
    leBytes 1 j.required ++ [flagByte j.sourceVerify] ++ leBytes 2 j.quota ++ leBytes 2 (slotsHeld s h) ++
    leBytes 2 j.order.length ++ leBytes 2 j.cursor ++ leBytes 2 j.recopy.length ++
    [byteOfSet j.softHold, byteOfSet j.hardHold] ++ identityBytes j.identity

/-- JOB_QUERY's answer (R48). -/
def jobQuery (h : Nat) (s : State) : Reply × State :=
  withJob h s (fun j => (⟨.ok, jobFields s h j⟩, s))

/-- JOB_QUERY (R48). -/
def execJobQuery (s : State) : Result := .next (serve 0x15 readOne jobQuery s)

/-! ### CARD_RELEASE (R146) -/

/-- CARD_RELEASE takes job `h`, with record `j` (R146). -/
def releaseJob (h : Nat) (j : Job) (s : State) : State :=
  let s1 := unbindPort j.binding .released { s with known := addKnown s.known j.identity.fingerprint }
  refresh (closeJobs [h] (setJob s1 h { j with state := .closing, binding := none }))

/-- CARD_RELEASE's answer (R146). -/
def cardRelease (h : Nat) (s : State) : Reply × State :=
  withJob h s (fun j =>
    if j.state = .closing then (statusOnly .badState, s)
    else if j.clearable = false then (statusOnly .notClearable, s)
    else (statusOnly .ok, releaseJob h j s))

/-- CARD_RELEASE (R146). -/
def execCardRelease (s : State) : Result := .next (serve 0x16 readOne cardRelease s)

end Sys2Proof.Machine
end

