-- ==== Sys2Proof/Machine/Clips.lean ====
section
/-! DEFINITION. Building, committing, cancelling and querying clips (spec/03, 3.6 to 3.9), and CLIP_REVERIFY and CLIP_RECOPY (spec/07,
7.8). -/

namespace Sys2Proof.Machine

open Sys2Proof

/-- The handle check that comes first in every request that names a clip (R49): BAD_HANDLE, or the owner's answer for the live clip
and its job. -/
def withClip (c : Nat) (s : State) (owner : Clip → Job → Reply × State) : Reply × State :=
  match s.clip c with
  | some k =>
    match s.job k.job with
    | some j => owner k j
    | none => (statusOnly .badHandle, s)
  | none => (statusOnly .badHandle, s)

/-! ### CLIP_BEGIN (R50) -/

/-- A clip record as CLIP_BEGIN leaves it (R49). -/
def beginClip (a : ClipBeginFields) : Clip :=
  { job := a.job, label := a.label, length := a.length, source := [], targets := Vector.replicate 4 [], sourceState := .building,
    nextBlock := 0, acc := Acc.start, digest := 0, copies := Vector.replicate 4 Copy.fresh, sv := .off, recopySet := 0,
    passMembers := 0 }

/-- CLIP_BEGIN's answer (R50). -/
def clipBegin (a : ClipBeginFields) (s : State) : Reply × State :=
  withJob a.job s (fun j =>
    if j.state = .closing ∨ j.intakeFinal = true then (statusOnly .badState, s)
    else if a.length = 0 ∨ 2 ^ 40 < a.length then (statusOnly .outOfRange, s)
    else
      match firstFree s.clips Config.clipRecords 0 with
      | none => (statusOnly .noSpace, s)
      | some c => (⟨.ok, leBytes 2 c⟩, setClip s c (beginClip a)))

/-- CLIP_BEGIN (R50). -/
def execClipBegin (s : State) : Result := .next (serve 0x18 readClipBegin clipBegin s)

/-! ### EXTENTS_ADD (R51, R52) -/

/-- The list that a selector names: none for a selector above 4 or a destination outside the job's set (R51, check 3). -/
def listOf (j : Job) (n : Nat) : Option Target :=
  match targetOf n with
  | some (.dest d) => if dmem j.destSet d then some (.dest d) else none
  | x => x

/-- The extents of one list of a clip. -/
def Clip.list (c : Clip) (t : Target) : List Extent :=
  match t with
  | .dest d => c.target d
  | .source => c.source

/-- A clip with extents appended to one list (R52). -/
def Clip.addExtents (c : Clip) (t : Target) (es : List Extent) : Clip :=
  match t with
  | .dest d => { c with targets := c.targets.set d.val (c.target d ++ es) }
  | .source => { c with source := c.source ++ es }

/-- The capacity of a list's medium as the job recorded it (R51). -/
def mediumCapacity (j : Job) (t : Target) : Nat :=
  match t with
  | .dest d => ((j.destId d).map DestIdentity.capacity).getD 0
  | .source => j.identity.capacity

/-- EXTENTS_ADD's answer (R51, R52). -/
def extentsAdd (a : ExtentsAddFields) (s : State) : Reply × State :=
  withClip a.clip s (fun k j =>
    if k.sourceState ≠ .building then (statusOnly .badState, s)
    else
      match listOf j a.list with
      | none => (statusOnly .badHandle, s)
      | some t =>
        if a.extents.any (fun e => decide (e.count = 0)) then (statusOnly .outOfRange, s)
        else if a.extents.any (fun e => decide (mediumCapacity j t < e.start + e.count)) then (statusOnly .outOfRange, s)
        else if Config.listExtents < (k.list t).length + a.extents.length then (statusOnly .noSpace, s)
        else if extentsFree s.clips < a.extents.length then (statusOnly .noSpace, s)
        else
          let s1 := setClip s a.clip (k.addExtents t a.extents)
          (⟨.ok, leBytes 1 ((k.list t).length + a.extents.length) ++ leBytes 2 (extentsFree s1.clips)⟩, s1))

/-- EXTENTS_ADD (R51). -/
def execExtentsAdd (s : State) : Result := .next (serve 0x19 readExtentsAdd extentsAdd s)

/-! ### CLIP_COMMIT (R53, R54) -/

/-- Every list covers exactly B blocks (R53). -/
def listsCover (k : Clip) (j : Job) : Bool :=
  decide (covered k.source = k.blocks) &&
    allDests.all (fun d => !dmem j.destSet d || decide (covered (k.target d) = k.blocks))

/-- A committed clip (R54): QUEUED, its copies PENDING, its source-verify state WAITING or OFF. -/
def Clip.committed (c : Clip) (j : Job) : Clip :=
  { c with
    sourceState := .queued
    copies := Vector.ofFn (fun d => if dmem j.destSet d then ⟨.pending, 0, false, .none⟩ else c.copy d)
    sv := if j.sourceVerify then .waiting else .off }

/-- CLIP_COMMIT's answer (R53, R54). -/
def clipCommit (c : Nat) (s : State) : Reply × State :=
  withClip c s (fun k j =>
    if k.sourceState ≠ .building then (statusOnly .badState, s)
    else if listsCover k j = false then (statusOnly .lengthMismatch, s)
    else
      (statusOnly .ok,
        refresh (evalJob (setJob (setClip s c (k.committed j)) k.job { j with order := j.order ++ [c] }) k.job)))

/-- CLIP_COMMIT (R53). -/
def execClipCommit (s : State) : Result := .next (serve 0x1A readHandle clipCommit s)

/-! ### CLIP_CANCEL and CLIP_QUERY (R55, R56) -/

/-- CLIP_CANCEL's answer (R55). -/
def clipCancel (c : Nat) (s : State) : Reply × State :=
  withClip c s (fun k _ =>
    if k.sourceState ≠ .building then (statusOnly .badState, s)
    else (statusOnly .ok, { s with clips := erase s.clips c }))

/-- CLIP_CANCEL (R55). -/
def execClipCancel (s : State) : Result := .next (serve 0x1B readHandle clipCancel s)

/-- One copy's fields of the CLIP_QUERY reply (R56). -/
def Copy.fields (x : Copy) : List Byte :=
  leBytes 1 x.state.code ++ leBytes 4 x.written ++ [flagByte x.retryUsed] ++ leBytes 1 x.cause.code

/-- The fields of the CLIP_QUERY reply (R56). -/
def clipFields (k : Clip) : List Byte :=
  leBytes 1 k.job ++ leBytes 1 k.sourceState.code ++ leBytes 1 k.sv.code ++ leBytes 6 k.length ++ leBytes 4 k.nextBlock ++
    leBytes 8 k.digest.toNat ++ [byteOfSet k.recopySet] ++ k.copies.toList.flatMap Copy.fields

/-- CLIP_QUERY's answer (R56). -/
def clipQuery (c : Nat) (s : State) : Reply × State :=
  withClip c s (fun k _ => (⟨.ok, clipFields k⟩, s))

/-- CLIP_QUERY (R56). -/
def execClipQuery (s : State) : Result := .next (serve 0x1C readHandle clipQuery s)

/-! ### CLIP_REVERIFY (R138) -/

/-- The copy may be read back again (R138, check 4). -/
def Copy.reverifiable (x : Copy) : Bool :=
  decide (x.state = .suspect) || (decide (x.state = .mismatch) && decide (x.cause ≠ .sourceChanged))

/-- A clip with one target sent back to be verified again (R138). -/
def Clip.reverified (c : Clip) (t : Target) : Clip :=
  match t with
  | .dest d => c.setCopy d { c.copy d with state := .flushed, cause := .none, retryUsed := false }
  | .source => { c with sv := .queued }

/-- CLIP_REVERIFY is taken (R138). -/
def reverify (c : Nat) (k : Clip) (t : Target) (s : State) : State :=
  refresh (evalJob { setClip s c (k.reverified t) with verifyQueue := s.verifyQueue ++ [⟨c, t, false⟩] } k.job)

/-- CLIP_REVERIFY's answer (R138). -/
def clipReverify (a : Nat × Nat) (s : State) : Reply × State :=
  withClip a.1 s (fun k j =>
    match listOf j a.2 with
    | none => (statusOnly .badHandle, s)
    | some t =>
      if j.state = .closing then (statusOnly .badState, s)
      else
        match t with
        | .dest d =>
          if (k.copy d).reverifiable = false then (statusOnly .badState, s)
          else if (s.dest d).state ≠ .online then (statusOnly .badState, s)
          else if (s.dest d).identity ≠ j.destId d then (statusOnly .wrongMedium, s)
          else (statusOnly .ok, reverify a.1 k t s)
        | .source =>
          if k.sv ≠ .mismatch then (statusOnly .badState, s)
          else if j.binding = none then (statusOnly .badState, s)
          else (statusOnly .ok, reverify a.1 k t s))

/-- CLIP_REVERIFY (R138). -/
def execClipReverify (s : State) : Result := .next (serve 0x1E readHandleAndCode clipReverify s)

/-! ### CLIP_RECOPY (R139) -/

/-- The copy may be written again (R139, check 5). -/
def Copy.recopyable (x : Copy) : Bool :=
  decide (x.state = .mismatch) || decide (x.state = .failed) || decide (x.state = .suspect)

/-- The slot holds a chunk of clip `c`. -/
def slotOfClip (s : State) (c n : Nat) : Bool := (s.slot n).any (fun x => decide (x.clip = c))

/-- Chunks of clip `c` are still to be written at `d` (R139, check 9). -/
def clipAtDest (s : State) (c : Nat) (d : Dest) : Bool :=
  (s.dest d).writeQueue.any (slotOfClip s c) ||
    match (s.dest d).op with
    | some (.write n _ _) => slotOfClip s c n
    | _ => false

/-- CLIP_RECOPY is taken (R139). -/
def recopy (c : Nat) (k : Clip) (j : Job) (d : Dest) (s : State) : State :=
  let k1 := { k.setCopy d ⟨.pending, 0, false, .none⟩ with recopySet := dinsert k.recopySet d }
  let j1 := { j with
    recopy := if c ∈ j.recopy then j.recopy else j.recopy ++ [c]
    state := if j.state = .drained then .reading else j.state }
  refresh (evalJob (setJob (setClip s c k1) k.job j1) k.job)

/-- The destination that CLIP_RECOPY names: one of the job's set (R139, check 2). -/
def recopyDest (j : Job) (n : Nat) : Option Dest :=
  match destOf n with
  | some d => if dmem j.destSet d then some d else none
  | none => none

/-- CLIP_RECOPY's answer (R139). -/
def clipRecopy (a : Nat × Nat) (s : State) : Reply × State :=
  withClip a.1 s (fun k j =>
    match recopyDest j a.2 with
    | none => (statusOnly .badHandle, s)
    | some d =>
      if j.state = .closing then (statusOnly .badState, s)
      else if k.sourceState ≠ .staged then (statusOnly .badState, s)
      else if (k.copy d).recopyable = false then (statusOnly .badState, s)
      else if j.binding = none then (statusOnly .badState, s)
      else if (s.dest d).state ≠ .online then (statusOnly .badState, s)
      else if (s.dest d).identity ≠ j.destId d then (statusOnly .wrongMedium, s)
      else if clipAtDest s a.1 d then (statusOnly .busy, s)
      else (statusOnly .ok, recopy a.1 k j d s))

/-- CLIP_RECOPY (R139). -/
def execClipRecopy (s : State) : Result := .next (serve 0x1D readHandleAndCode clipRecopy s)

end Sys2Proof.Machine
end

