-- ==== Sys2Proof/Machine/Dests.lean ====
section
/-! DEFINITION. The destination ports (spec/06): link, identification, attach and detach, writes, flushes, verify segments and the
operation arbiter. -/

namespace Sys2Proof.Machine

open Sys2Proof

/-! ### Link and identification (R98, R99, R103) -/

/-- The port changes state, with its DEST_STATE notice (R98). -/
def destState (d : Dest) (st : DestState) (reason : DestReason) (s : State) : State :=
  notify (.destState d st reason) (setDest s d { s.dest d with state := st })

/-- The port enters IDENTIFYING: its identity record is cleared and IDENTIFY is sent once the link is free (R99). -/
def startIdentify (d : Dest) (reason : DestReason) (s : State) : State :=
  bridgeKick d (destState d .identifying reason (setDest s d { s.dest d with identity := none }))

/-- The bridge link comes up (R98). -/
def linkComesUp (d : Dest) (s : State) : State :=
  if (s.dest d).linkUp then s else startIdentify d .linkUp (setDest s d { s.dest d with linkUp := true })

/-- DEST_LINK_UP (R98); while RESET is held low only the level of the link follows (R1, R120). -/
def execDestLinkUp (d : Dest) (s : State) : Result :=
  .next (if s.resetLow then setDest s d { s.dest d with linkUp := true } else linkComesUp d s)

/-- The bridge link goes down (R103): the loss procedure if the port was ONLINE, ABSENT, no identity, nothing on the link. -/
def linkGoesDown (d : Dest) (s : State) : State :=
  if (s.dest d).linkUp then
    let s1 := setDest s d { s.dest d with linkUp := false, request := none }
    if (s.dest d).state = .online then
      let s2 := loseDest d .absent .linkDown s1
      setDest s2 d { s2.dest d with identity := none }
    else destState d .absent .linkDown (setDest s1 d { s1.dest d with identity := none })
  else s

/-- DEST_LINK_DOWN (R103); while RESET is held low only the level of the link follows (R1, R120). -/
def execDestLinkDown (d : Dest) (s : State) : Result :=
  .next (if s.resetLow then setDest s d { s.dest d with linkUp := false } else linkGoesDown d s)

/-- The identity can be held in the record (R99). -/
def DestIdentity.holdable (i : DestIdentity) : Bool :=
  decide (1 ≤ i.capacity) && decide (i.capacity ≤ 2 ^ 40) && decide (i.serial.length ≤ 20)

/-- The port's own IDENTIFY is in flight. -/
def identifyInFlight (x : DestPort) : Bool :=
  decide (x.state = .identifying) && x.request.any (fun r => decide (r.ask = .identify) && !r.abandoned)

/-- The bridge answers IDENTIFY (R99). -/
def identifyAnswered (d : Dest) (answer : Option DestIdentity) (s : State) : State :=
  if identifyInFlight (s.dest d) then
    let s1 := clearBridge d s
    match answer.filter DestIdentity.holdable with
    | some i => destState d .identified .identifyOk (setDest s1 d { s1.dest d with identity := some i })
    | none => destState d .failed .identifyFailed s1
  else s

/-- DEST_IDENTIFY_ANSWER (R99). -/
def execDestIdentifyAnswer (d : Dest) (answer : Option DestIdentity) (s : State) : Result :=
  .next (awake (identifyAnswered d answer) s)

/-! ### Requests of the host (R100 to R104) -/

/-- The port goes ONLINE (R101). -/
def attach (d : Dest) (s : State) : State :=
  let s1 := setDest s d { s.dest d with
    blocksWritten := 0, writeCount := 0, writeQueue := [], awaiting := [], segWaiting := [] }
  let s2 := setMonitor s1 d { s1.monitor d with above := decide (threshold (s1.monitor d).level < backlog (s1.dest d)) }
  refresh (destState d .online .attached s2)

/-- DEST_ATTACH's answer (R100). -/
def destAttach (n : Nat) (s : State) : Reply × State :=
  match destOf n with
  | none => (statusOnly .badHandle, s)
  | some d =>
    match (s.dest d).state with
    | .identified => (statusOnly .ok, attach d s)
    | .failed => (statusOnly .ok, startIdentify d .reidentify s)
    | .absent | .identifying | .online => (statusOnly .badState, s)

/-- DEST_ATTACH (R100). -/
def execDestAttach (s : State) : Result := .next (serve 0x20 readOne destAttach s)

/-- Some live job uses destination `d` (R102, check 4). -/
def destInUse (s : State) (d : Dest) : Bool := s.jobs.any (fun e => dmem e.2.destSet d)

/-- DEST_DETACH's answer (R102). -/
def destDetach (a : Nat × Nat) (s : State) : Reply × State :=
  match destOf a.1 with
  | none => (statusOnly .badHandle, s)
  | some d =>
    if 1 < a.2 then (statusOnly .outOfRange, s)
    else if (s.dest d).state ≠ .online then (statusOnly .badState, s)
    else if a.2 = 1 then (statusOnly .ok, loseDest d .identified .forcedDetach s)
    else if destInUse s d then (statusOnly .busy, s)
    else (statusOnly .ok, refresh (destState d .identified .detached s))

/-- DEST_DETACH (R102). -/
def execDestDetach (s : State) : Result := .next (serve 0x21 readDetach destDetach s)

/-- The fields of the DEST_QUERY reply (R104). -/
def destFields (s : State) (d : Dest) : List Byte :=
  let x := s.dest d
  leBytes 1 x.state.code ++ destIdentityBytes x.identity ++ leBytes 2 (backlog x) ++ leBytes 2 x.awaiting.length ++
    leBytes 8 x.blocksWritten.toNat ++ leBytes 2 (tasksQueued s d) ++ [errorByte x]

/-- DEST_QUERY's answer (R104). -/
def destQuery (n : Nat) (s : State) : Reply × State :=
  match destOf n with
  | none => (statusOnly .badHandle, s)
  | some d => (⟨.ok, destFields s d⟩, s)

/-- DEST_QUERY (R104). -/
def execDestQuery (s : State) : Result := .next (serve 0x22 readOne destQuery s)

/-! ### The operation arbiter (R111, R116) -/

/-- A flush is due (R111). -/
def flushDue (s : State) (x : DestPort) : Bool :=
  !x.awaiting.isEmpty && (x.writeQueue.isEmpty || decide (s.cfg.flushBatch ≤ x.awaiting.length))

/-- A flush starts, covering the copies on the list (R111). -/
def startFlush (d : Dest) (s : State) : State :=
  bridgeKick d (setDest s d { s.dest d with op := some (.flush (s.dest d).awaiting), awaiting := [] })

/-- The write of the head slot starts (R106, R116). -/
def startWrite (d : Dest) (n : Nat) (rest : List Nat) (s : State) : State :=
  bridgeKick d
    (modSlot n (fun x => { x with writing := dinsert x.writing d })
      (setDest s d { s.dest d with
        op := some (.write n 0 false), writeQueue := rest, writeCount := min 16 ((s.dest d).writeCount + 1) }))

/-- The oldest waiting verify segment starts (R114, R116, R126). -/
def startDestSegment (d : Dest) (e : EngineIx) (rest : List EngineIx) (s : State) : State :=
  let next := (s.engine e).next
  let count := chunkLength (((engineClip s e).map Clip.blocks).getD 0) next
  let s1 := setEngine s e { s.engine e with seg := .inFlight }
  bridgeKick d (setDest s1 d { s1.dest d with
    op := some (.segment ⟨e, next, count, 0, false⟩), segWaiting := rest, writeCount := 0 })

/-- The arbiter's choice between a write and a verify segment (R116, cases 2 and 3). -/
def chooseOp (d : Dest) (s : State) : State :=
  match (s.dest d).writeQueue, (s.dest d).segWaiting with
  | n :: rest, [] => startWrite d n rest s
  | [], e :: rest => startDestSegment d e rest s
  | n :: ns, e :: es =>
    if s.cfg.verifyShare ≤ (s.dest d).writeCount then startDestSegment d e es s else startWrite d n ns s
  | [], [] => s

/-- An idle ONLINE port decides (R116). -/
def decideOp (d : Dest) (s : State) : State :=
  if (s.dest d).state = .online ∧ (s.dest d).op = none then
    if flushDue s (s.dest d) then startFlush d s else chooseOp d s
  else s

/-- DEST_ARBITER_DECIDE (R116). -/
def execDestArbiterDecide (d : Dest) (s : State) : Result := .next (awake (decideOp d) s)

/-! ### Writing (R107 to R109) -/

/-- One more chunk of clip `c` is written at `d`: at the last one the copy becomes WRITTEN and joins the awaiting-flush list, or
MISMATCH after a pass that found the card changed (R107, R83). -/
def countChunk (c : Nat) (d : Dest) (s : State) : State :=
  match s.clip c with
  | some k =>
    if (k.copy d).state = .pending then
      let x := { k.copy d with written := (k.copy d).written + 1 }
      if x.written < k.chunks then setClip s c (k.setCopy d x)
      else if x.cause = .sourceChanged then failCopy c d .mismatch .sourceChanged (setClip s c (k.setCopy d x))
      else
        let s1 := setClip s c (k.setCopy d { x with state := .written })
        setDest s1 d { s1.dest d with awaiting := (s1.dest d).awaiting ++ [c] }
    else s
  | none => s

/-- The job that a slot's chunk belongs to. -/
def slotJob (s : State) (n : Nat) : List Nat := ((s.slot n).map Slot.job).toList

/-- The write of slot `n` at `d` has completed: the copy is counted, and `d` is done with the slot (R107, R63). -/
def finishWrite (d : Dest) (n : Nat) (s : State) : State :=
  let s1 := setDest s d { s.dest d with op := none }
  let s2 := (((s.slot n).map Slot.clip).toList).foldl (fun t c => countChunk c d t) s1
  let s3 := freeIfDone n (modSlot n (fun x => { x with pending := derase x.pending d, writing := derase x.writing d }) s2)
  refresh (closeSeen (slotJob s n) s3)

/-- The write of an aborted job's slot `n` at `d` ends early; its outcome is applied to no copy (R109, R64). -/
def endAbortedWrite (d : Dest) (n : Nat) (s : State) : State :=
  let s1 := setDest s d { s.dest d with op := none }
  let s2 := freeIfDone n (modSlot n (fun x => { x with writing := derase x.writing d }) s1)
  refresh (closeSeen (slotJob s n) s2)

/-- A WRITE is answered OK (R107, R109). -/
def writeAnswered (d : Dest) (s : State) : State :=
  match (s.dest d).op, (s.dest d).request with
  | some (.write n done cancelled), some ⟨.write _ count, false, _, _⟩ =>
    let s1 := setDest s d { s.dest d with
      request := none, blocksWritten := (s.dest d).blocksWritten + BitVec.ofNat 64 count,
      op := some (.write n (done + count) cancelled) }
    if cancelled then endAbortedWrite d n s1
    else if done + count < ((s.slot n).map Slot.count).getD 0 then bridgeKick d s1
    else finishWrite d n s1
  | _, _ => s

/-- DEST_WRITE_OK (R107). -/
def execDestWriteOk (d : Dest) (s : State) : Result := .next (awake (writeAnswered d) s)

/-- The port fails for good and the loss procedure runs, its operation having ended (R108, R113). -/
def failPort (d : Dest) (reason : DestReason) (s : State) : State :=
  loseDest d .failed reason (setDest s d { s.dest d with op := none })

/-- A write fails for good (R108): its copy fails, the port fails; the fall of the backlog by the ended write is seen before the loss
procedure empties the queue (R105, R156, assumption log 9). -/
def failWrite (d : Dest) (n : Nat) (s : State) : State :=
  let s1 := (((s.slot n).map Slot.clip).toList).foldl
    (fun t c => if copyIs t c d .pending then failCopy c d .failed .writeError t else t) s
  let m := s.monitor d
  let left := (s.dest d).writeQueue.length
  let s2 := failPort d .writeFailed s1
  tellAll (if m.above = true ∧ left ≤ threshold m.level then crossingNotice d m true left else []) s2

/-- The request in flight is sent again at once, with the same start, count and data (R108, R113, R115). -/
def resend (d : Dest) (ask : BridgeAsk) (s : State) : State := bridgeSend d (some ask) true s

/-- The error flags of an ERROR, or of a timeout, and the request is over (R97). -/
def noteError (d : Dest) (ask : BridgeAsk) (timedOut : Bool) (s : State) : State :=
  setDest s d { (s.dest d).markError ask timedOut with request := none }

/-- A WRITE ends in ERROR (R108, R109). -/
def writeError (d : Dest) (timedOut : Bool) (s : State) : State :=
  match (s.dest d).op, (s.dest d).request with
  | some (.write n _ cancelled), some ⟨.write a b, false, _, retried⟩ =>
    let s1 := noteError d (.write a b) timedOut s
    if cancelled then endAbortedWrite d n s1
    else if retried then failWrite d n s1
    else resend d (.write a b) s1
  | _, _ => s

/-- DEST_WRITE_ERROR (R108). -/
def execDestWriteError (d : Dest) (s : State) : Result := .next (awake (writeError d false) s)

/-! ### Flushing (R112, R113) -/

/-- A covered copy that is still WRITTEN becomes FLUSHED and its verify task joins the tail (R112). -/
def flushCopy (d : Dest) (s : State) (c : Nat) : State :=
  if copyIs s c d .written then
    let s1 := modClip c (fun k => k.setCopy d { k.copy d with state := .flushed }) s
    { s1 with verifyQueue := s1.verifyQueue ++ [⟨c, .dest d, false⟩] }
  else s

/-- A FLUSH is answered OK (R112). -/
def flushAnswered (d : Dest) (s : State) : State :=
  match (s.dest d).op, (s.dest d).request with
  | some (.flush clips), some ⟨.flush, false, _, _⟩ =>
    let s1 := clips.foldl (flushCopy d) (setDest s d { s.dest d with op := none, request := none })
    refresh (closeJobs ((liveJobs s).filter (fun h => clips.any (clipOfJob s h))) s1)
  | _, _ => s

/-- DEST_FLUSH_OK (R112). -/
def execDestFlushOk (d : Dest) (s : State) : Result := .next (awake (flushAnswered d) s)

/-- A FLUSH ends in ERROR (R113). -/
def flushError (d : Dest) (timedOut : Bool) (s : State) : State :=
  match (s.dest d).op, (s.dest d).request with
  | some (.flush _), some ⟨.flush, false, _, retried⟩ =>
    let s1 := noteError d .flush timedOut s
    if retried then failPort d .flushFailed s1 else resend d .flush s1
  | _, _ => s

/-- DEST_FLUSH_ERROR (R113). -/
def execDestFlushError (d : Dest) (s : State) : Result := .next (awake (flushError d false) s)

/-! ### Verify segments (R114, R115) -/

/-- A verify segment leaves the port, complete or failed, and the engine is told (R114, R115). -/
def endDestSegment (d : Dest) (g : Segment) (ok : Bool) (s : State) : State :=
  let s1 := setDest s d { s.dest d with op := none }
  refresh (if ok then segmentComplete g s1 else segmentFailed g s1)

/-- A segment's READ is answered OK (R114, R91). -/
def readAnswered (d : Dest) (data : List Byte) (s : State) : State :=
  match (s.dest d).op, (s.dest d).request with
  | some (.segment g), some ⟨.read _ count, false, _, _⟩ =>
    let s1 := clearBridge d s
    if g.cancelled then endDestSegment d g true s1
    else
      let s2 := foldSegment g count data s1
      let g1 := { g with done := g.done + count }
      if g1.done < g.count then bridgeKick d (setDest s2 d { s2.dest d with op := some (.segment g1) })
      else endDestSegment d g1 true s2
  | _, _ => s

/-- DEST_READ_OK (R114). -/
def execDestReadOk (d : Dest) (data : List Byte) (s : State) : Result := .next (awake (readAnswered d data) s)

/-- A segment's READ ends in ERROR (R115). -/
def readError (d : Dest) (timedOut : Bool) (s : State) : State :=
  match (s.dest d).op, (s.dest d).request with
  | some (.segment g), some ⟨.read a b, false, _, retried⟩ =>
    let s1 := noteError d (.read a b) timedOut s
    if g.cancelled = true ∨ retried = true then endDestSegment d g false s1 else resend d (.read a b) s1
  | _, _ => s

/-- DEST_READ_ERROR (R115). -/
def execDestReadError (d : Dest) (s : State) : Result := .next (awake (readError d false) s)

/-! ### Timeouts and abandoned requests (R96, R97) -/

/-- An abandoned request's occupation of the link ends, and a request that waits for the link is sent (R96). -/
def endAbandonedBridge (d : Dest) (s : State) : State :=
  if (s.dest d).request.any BridgeRequest.abandoned then bridgeKick d (clearBridge d s) else s

/-- BRIDGE_ABANDONED_ANSWER (R96). -/
def execBridgeAbandonedAnswer (d : Dest) (s : State) : Result := .next (awake (endAbandonedBridge d) s)

/-- dest_timeout_ms runs out on the IDENTIFY in flight (R97, R99). -/
def identifyTimedOut (d : Dest) (s : State) : State :=
  if identifyInFlight (s.dest d) then destState d .failed .identifyFailed (noteError d .identify true s) else s

/-- dest_timeout_ms runs out on the request that occupies the link (R96, R97). -/
def bridgeTimedOut (d : Dest) (s : State) : State :=
  match (s.dest d).request with
  | some r =>
    if r.abandoned then endAbandonedBridge d s
    else
      match r.ask with
      | .identify => identifyTimedOut d s
      | .write _ _ => writeError d true s
      | .flush => flushError d true s
      | .read _ _ => readError d true s
  | none => s

/-- DEST_REQUEST_TIMEOUT (R97). -/
def execDestRequestTimeout (d : Dest) (s : State) : Result := .next (awake (bridgeTimedOut d) s)

/-! ### ENGINE_TAKE_TASK (R125) -/

/-- A free engine takes the oldest eligible task (R125). -/
def takeNext (s : State) : State :=
  match takingEngine s, s.verifyQueue.find? (eligible s) with
  | some e, some t =>
    match s.clip t.clip with
    | some k => refresh (closeJobs [k.job] (takeTask e t k.job s))
    | none => s
  | _, _ => s

/-- ENGINE_TAKE_TASK (R125). -/
def execEngineTakeTask (s : State) : Result := .next (awake takeNext s)

end Sys2Proof.Machine
end

