-- ==== Sys2Proof/Machine/Line.lean ====
section
/-! DEFINITION. The Message Port (spec/01): receiving frames, the end of a sent frame, unknown requests and the general requests. -/

namespace Sys2Proof.Machine

open Sys2Proof

/-! ### Receiving (R3 to R5) -/

/-- A frame is discarded: its flag is set, LINK_FAULT is queued, the receiver hunts (R4, R5). -/
def discardFrame (flags : LinkFlags) (cause : LinkCause) (s : State) : State :=
  notify (.linkFault cause) { s with rx := .hunting, linkFlags := flags.mark cause }

/-- A well-formed frame is offered to the inbound buffer (R5). -/
def offerFrame (f : Frame) (s : State) : State :=
  if s.inbound.length < Config.inboundFrames then { s with rx := .hunting, inbound := s.inbound ++ [f] }
  else discardFrame s.linkFlags .overrun s

/-- The bytes after SYNC, the newest last, without line errors (R3): LEN is checked once it is there, CHECK once all are. -/
def takeField (bytes : List Byte) (s : State) : State :=
  let len := leNat (bytes.take 2)
  if bytes.length < 2 then { s with rx := .assembling bytes }
  else if len < 2 ∨ 1024 < len then discardFrame s.linkFlags .length s
  else if bytes.length < len + 4 then { s with rx := .assembling bytes }
  else if leNat (bytes.drop (len + 2)) = checkSum (bytes.take (len + 2)) then
    offerFrame ⟨bytes.getD 2 0, bytes.getD 3 0, (bytes.take (len + 2)).drop 4⟩ s
  else discardFrame s.linkFlags .check s

/-- A byte arrives on RXD (R3, R4); its parity bit must make the ones even and its stop bit must be high (R2). R4 orders a parity error and a
stop-bit error of one byte; that a byte with either is judged by it alone, and sets no flag for a LEN or CHECK that it would also complete
wrongly, is the model's choice (DESIGN CHOICE, assumption log 32). -/
def receive (bits : Byte) (parityBit stopBit : Bool) (s : State) : State :=
  match s.rx with
  | .hunting =>
    if bits = Config.sync ∧ parityBit = parityOf bits ∧ stopBit = true then { s with rx := .assembling [] } else s
  | .assembling bytes =>
    if parityBit ≠ parityOf bits then
      discardFrame (if stopBit then s.linkFlags else s.linkFlags.mark .framing) .parity s
    else if stopBit = false then discardFrame s.linkFlags .framing s
    else takeField (bytes ++ [bits]) s

/-- RX_BYTE (R3). -/
def execRxByte (bits : Byte) (parityBit stopBit : Bool) (s : State) : Result :=
  .next (awake (receive bits parityBit stopBit) s)

/-- More than 10 ms without the next byte of a frame (R4). -/
def gapExpired (s : State) : State :=
  match s.rx with
  | .assembling _ => discardFrame s.linkFlags .gap s
  | .hunting => s

/-- INTERBYTE_GAP_TIMEOUT (R4). -/
def execInterbyteGapTimeout (s : State) : Result := .next (awake gapExpired s)

/-! ### Sending (R8) -/

/-- The frame on TXD has been sent to its end: the soft reset if it was the DEVICE_RESET reply (R13), else the line is free (R8). -/
def frameEnds (s : State) : State :=
  match s.sending with
  | some _ => if resetReplyOnLine s then softResetState s else pump { s with sending := none }
  | none => s

/-- FRAME_SEND_END (R8). -/
def execFrameSendEnd (s : State) : Result := .next (awake frameEnds s)

/-! ### Requests (R6, R9 to R13) -/

/-- A frame whose KIND is no request kind is answered UNKNOWN_REQUEST, with KIND 0xFF and the KIND it carried (R6, R7). -/
def refuseUnknown (s : State) : State :=
  if dispatchReady s then
    match s.inbound with
    | f :: rest =>
      if f.kind ∈ requestKinds then s
      else
        sendFrame ⟨0xFF, f.tag, [BitVec.ofNat 8 Status.unknownRequest.code, f.kind]⟩ { s with inbound := rest, dispatch := some f }
    | [] => s
  else s

/-- UNKNOWN_REQUEST (R6). -/
def execUnknownRequest (s : State) : Result := .next (refuseUnknown s)

/-- The fields of the IDENTIFY reply (R9). -/
def identifyFields : List Byte :=
  leBytes 2 Config.vendorCode ++ leBytes 2 Config.partCode ++ leBytes 1 Config.revision ++ leBytes 1 Config.cardPorts ++
    leBytes 1 Config.destinations ++ leBytes 2 Config.slots ++ leBytes 1 Config.jobRecords ++ leBytes 2 Config.clipRecords ++
    leBytes 2 Config.extentEntries ++ leBytes 1 Config.knownEntries

/-- IDENTIFY (R9). -/
def execIdentify (s : State) : Result :=
  .next (serve 0x01 readNone (fun _ t => (⟨.ok, identifyFields⟩, t)) s)

/-- STATUS_GET's answer: the status block, and the missed-kind set cleared (R10, R166). -/
def statusGet (_ : Unit) (s : State) : Reply × State := (⟨.ok, statusBlock s⟩, { s with missed := 0 })

/-- STATUS_GET (R10). -/
def execStatusGet (s : State) : Result := .next (serve 0x02 readNone statusGet s)

/-- The value stored under a key (R11). -/
def Settings.value (c : Settings) (key : Nat) : Nat :=
  match key with
  | 1 => c.settleMs | 2 => c.autoSurvey | 3 => c.cardTimeoutMs | 4 => c.destTimeoutMs | 5 => c.paceWindowMs
  | 6 => c.reportInterval | 7 => c.verifyShare | 8 => c.flushBatch | _ => c.verifyRetry

/-- The table with a value stored under a key (R11). -/
def Settings.put (c : Settings) (key v : Nat) : Settings :=
  match key with
  | 1 => { c with settleMs := v } | 2 => { c with autoSurvey := v } | 3 => { c with cardTimeoutMs := v }
  | 4 => { c with destTimeoutMs := v } | 5 => { c with paceWindowMs := v } | 6 => { c with reportInterval := v }
  | 7 => { c with verifyShare := v } | 8 => { c with flushBatch := v } | _ => { c with verifyRetry := v }

/-- A value fitted to its key's range (R11). -/
def fitValue (key v : Nat) : Nat := min (max v (Config.keyLow key)) (Config.keyHigh key)

/-- The table with every pair stored, in the order sent (R11). -/
def Settings.putAll (c : Settings) (pairs : List (Nat × Nat)) : Settings :=
  pairs.foldl (fun c p => c.put p.1 (fitValue p.1 p.2)) c

/-- CONFIG_SET's answer (R11): refused whole for an unknown key; else every pair stored and the values now stored repeated. -/
def configSet (pairs : List (Nat × Nat)) (s : State) : Reply × State :=
  if pairs.any (fun p => decide (p.1 < 1 ∨ 9 < p.1)) then (statusOnly .outOfRange, s)
  else
    let cfg := s.cfg.putAll pairs
    let st := if pairs.any (fun p => decide (fitValue p.1 p.2 ≠ p.2)) then Status.clamped else Status.ok
    (⟨st, leBytes 1 pairs.length ++ pairs.flatMap (fun p => leBytes 1 p.1 ++ leBytes 2 (cfg.value p.1))⟩, { s with cfg := cfg })

/-- CONFIG_SET (R11). -/
def execConfigSet (s : State) : Result := .next (serve 0x03 readConfig configSet s)

/-- FLAGS_CLEAR's answer: the flags as they were, then all clear (R12). -/
def flagsClear (_ : Unit) (s : State) : Reply × State := (⟨.ok, flagBytes s⟩, clearFlags s)

/-- FLAGS_CLEAR (R12). -/
def execFlagsClear (s : State) : Result := .next (serve 0x04 readNone flagsClear s)

/-- DEVICE_RESET's answer: nothing changes but that dispatch takes no further request (R13). -/
def deviceReset (_ : Unit) (s : State) : Reply × State := (statusOnly .ok, { s with resetPending := true })

/-- DEVICE_RESET (R13). -/
def execDeviceReset (s : State) : Result := .next (serve 0x05 readNone deviceReset s)

end Sys2Proof.Machine
end

