-- ==== Sys2Proof/Machine/Pressure.lean ====
section
/-! DEFINITION. The Pressure Monitors and holds (spec/09) and the Pace Timer with the Progress Reporter (R153, R168 to R171). -/

namespace Sys2Proof.Machine

open Sys2Proof

/-! ### MONITOR_SET and HOLD_RESUME (R155, R160) -/

/-- The level as stored (R155). -/
def fitLevel (n : Nat) : Nat := min n 7

/-- The holdoff_ms as stored: below both the stored pace_window_ms and the period of the window in progress (R155). -/
def fitHoldoff (s : State) (n : Nat) : Nat :=
  let top := min s.cfg.paceWindowMs s.windowPeriod
  if top ≤ n then top - 1 else n

/-- MONITOR_SET's answer (R155). -/
def monitorSet (a : MonitorSetFields) (s : State) : Reply × State :=
  match destOf a.dest with
  | none => (statusOnly .badHandle, s)
  | some d =>
    if 3 < a.mode ∨ 3 < a.edge then (statusOnly .outOfRange, s)
    else
      let level := fitLevel a.level
      let holdoff := fitHoldoff s a.holdoff
      let st := if level = a.level ∧ holdoff = a.holdoff then Status.ok else Status.clamped
      let m : Monitor :=
        { mode := modeOfCode a.mode, level := level, edge := edgeOfCode a.edge, holdoff := holdoff,
          above := decide (threshold level < backlog (s.dest d)), tripped := (s.monitor d).tripped }
      (⟨st, leBytes 1 level ++ leBytes 1 holdoff⟩, refresh (dropHolds d true true (setMonitor s d m)))

/-- MONITOR_SET (R155). -/
def execMonitorSet (s : State) : Result := .next (serve 0x28 readMonitorSet monitorSet s)

/-- HOLD_RESUME's answer (R160). -/
def holdResume (n : Nat) (s : State) : Reply × State :=
  match destOf n with
  | none => (statusOnly .badHandle, s)
  | some d => (statusOnly .ok, refresh (dropHolds d false true s))

/-- HOLD_RESUME (R160). -/
def execHoldResume (s : State) : Result := .next (serve 0x29 readOne holdResume s)

/-! ### The Pace Timer (R153, R154) -/

/-- One window ends and the next begins with the stored period; a holdoff at or above it is lowered (R153, R154). -/
def nextWindow (s : State) : State :=
  let ends := s.windowStart + s.windowPeriod
  { s with
    windowCount := (s.windowCount + 1) % 65536
    windowStart := ends
    windowPeriod := s.cfg.paceWindowMs
    now := max s.now ends
    monitors := s.monitors.map (fun m => m.lowered s.cfg.paceWindowMs) }

/-- What destination `d`'s monitor does at an expiry to the soft-hold set of a job (R159). -/
def softAtExpiry (s : State) (j : Job) (soft : DestSet) (d : Dest) : DestSet :=
  if (s.monitor d).mode = .soft then
    if threshold (s.monitor d).level < backlog (s.dest d) then
      if j.state = .reading ∧ dmem j.destSet d = true then dinsert soft d else soft
    else derase soft d
  else soft

/-- The monitors of the destinations in `who` act on an expiry (R153): each job's soft-hold set takes their actions at once, so that a job
that is held before and after does not have its hold-changed flag set (R163, assumption log 27). -/
def monitorsExpire (who : DestSet) (s : State) : State :=
  { s with jobs := s.jobs.map (fun e =>
      (e.1, e.2.withHolds ((allDests.filter (dmem who)).foldl (softAtExpiry s e.2) e.2.softHold) e.2.hardHold)) }

/-! ### The Progress Reporter (R168 to R170) -/

/-- A card port's entry of a report (R169). -/
def portEntry (s : State) (p : Port) : PortEntry :=
  let x := s.port p
  let job := x.job.bind s.job
  ⟨x.state, x.job, job.any Job.paused, job.any Job.held, job.any Job.holdChanged, (s.reader p).blocksRead⟩

/-- A destination's entry of a report (R169). -/
def destEntry (s : State) (d : Dest) : DestEntry :=
  let x := s.dest d
  ⟨x.state, backlog x, x.blocksWritten, tasksQueued s d⟩

/-- A report: one snapshot (R169). -/
def buildReport (s : State) : Report :=
  { windowCount := s.windowCount, slotsUsed := s.slots.length, missed := s.missed,
    holdChanged := (s.jobs.filter (fun e => e.2.holdChanged)).map Prod.fst,
    ports := allPorts.map (portEntry s), dests := allDests.map (destEntry s) }

/-- A built report is offered to the Notice Queue: queued, it empties the missed-kind set and clears the hold-changed flags; lost, it
clears nothing (R170). -/
def offerReport (s : State) : State :=
  let r := Notice.progress (buildReport s)
  if s.notices.length < Config.noticeEntries then
    notify r { s with missed := 0, jobs := s.jobs.map (fun e => (e.1, { e.2 with holdChanged := false })) }
  else notify r s

/-- The Progress Reporter at an expiry (R168). -/
def reporterExpires (s : State) : State :=
  if s.cfg.reportInterval = 0 then { s with expiryCount := 0 }
  else if s.cfg.reportInterval ≤ s.expiryCount + 1 then offerReport { s with expiryCount := 0 }
  else { s with expiryCount := s.expiryCount + 1 }

/-- This expiry makes a report due and the Notice Queue has room for it (R165, R168). -/
def reportQueues (s : State) : Bool :=
  decide (s.cfg.reportInterval ≠ 0) && decide (s.cfg.reportInterval ≤ s.expiryCount + 1) &&
    decide (s.notices.length < Config.noticeEntries)

/-- A window expiry. Where a report is queued, the monitors of `before` act first, then the reporter, then the other monitors (R171); where
none is, nothing tells the orders apart and the four monitors act together (R153, assumption log 27). -/
def windowExpires (before : DestSet) (s : State) : State :=
  let s1 := nextWindow s
  let first := if reportQueues s then before else 15
  refresh (monitorsExpire (dminus 15 first) (reporterExpires (monitorsExpire first s1)))

/-- PACE_TIMER_EXPIRY (R153). -/
def execPaceTimerExpiry (before : DestSet) (s : State) : Result := .next (awake (windowExpires before) s)

end Sys2Proof.Machine
end

