-- ==== Sys2Proof/Machine/Reading.lean ====
section
/-! DEFINITION. The slot allocator, chunk reads, staging, recopy passes and the card-port read arbiter (spec/04), and what a confirmed
ERROR does (R17, R73, R85). -/

namespace Sys2Proof.Machine

open Sys2Proof

/-! ### The allocator (R66) and the start of a chunk read (R71, R81) -/

/-- The waiting reader that comes first in port order after the last-granted pointer (R66). -/
def pickWaiting (s : State) : Option Port :=
  ([1, 2, 3, 4, 5, 6, 7, 8].map (fun k => (s.lastGranted + Fin.ofNat 8 k : Port))).find? (fun p => (s.reader p).waiting)

/-- The clip as its next chunk is granted: the first grant of a recopy pass resets the checkpoint and takes the members (R81). -/
def Clip.granted (c : Clip) (recopyChunk : Bool) : Clip :=
  if recopyChunk = true ∧ c.passMembers = 0 then { c with nextBlock := 0, acc := Acc.start, passMembers := c.recopySet } else c

/-- Slot `n` is granted to port `p`'s reader for job `h`'s next chunk, and the chunk's first READ is sent (R66, R68, R70, R71, R84). -/
def startChunk (n : Nat) (p : Port) (h : Nat) (j : Job) (nc : NextChunk) (k : Clip) (s : State) : State :=
  let k1 := k.granted nc.recopy
  let count := chunkLength k1.blocks k1.nextBlock
  let s1 := setSlot s n ⟨false, h, nc.clip, k1.nextBlock, count, 0, nc.recopy, 0⟩
  let s2 := setJob (setClip s1 nc.clip k1) h { j with cursor := if nc.starts then j.cursor + 1 else j.cursor }
  let s3 := setReader s2 p { s2.reader p with
    chunk := some ⟨n, nc.clip, h, k1.nextBlock, count, 0, nc.recopy, k1.acc, false⟩, retries := 0, turn := .segment }
  refresh (cardKick p { s3 with lastGranted := p })

/-- The allocator grants the head of the free-slot list (R66). -/
def grant (s : State) : State :=
  match s.freeSlots, pickWaiting s with
  | n :: rest, some p =>
    match (s.port p).job with
    | some h =>
      match s.job h with
      | some j =>
        match nextChunk s j with
        | some nc =>
          match s.clip nc.clip with
          | some k => startChunk n p h j nc k { s with freeSlots := rest }
          | none => s
        | none => s
      | none => s
    | none => s
  | _, _ => s

/-- SLOT_GRANT (R66). -/
def execSlotGrant (s : State) : Result := .next (awake grant s)

/-! ### Staging (R77, R78, R83) -/

/-- A chunk read ends without being staged: its slot becomes FREE (R74 to R76, R82). -/
def dropChunk (p : Port) (c : ChunkRead) (s : State) : State :=
  freeSlot c.slot (setReader s p { s.reader p with chunk := none, retries := 0 })

/-- A cancelled chunk read ends (R76, R82). -/
def endCancelled (p : Port) (c : ChunkRead) (s : State) : State :=
  refresh (closeJobs [c.job] (cardKick p (dropChunk p c s)))

/-- The chunk's target set (R69, R77). -/
def chunkTargets (c : ChunkRead) (k : Clip) (j : Job) : DestSet := if c.recopy then k.recopySet else j.destSet

/-- The pending set (R77, step 1). -/
def pendingSet (s : State) (c : ChunkRead) (k : Clip) (j : Job) : DestSet :=
  dsetOf (fun d => dmem (chunkTargets c k j) d && usable s j d && decide ((k.copy d).state = .pending) &&
    (!c.recopy || dmem k.passMembers d))

/-- The destinations of the target set that cannot take the chunk (R77, step 2). R77 gives their COPY_STATE notices no order; that they come
in increasing destination number, as R74 and R75 have theirs, is the model's choice (DESIGN CHOICE, assumption log 30). -/
def lostTargets (s : State) (c : ChunkRead) (k : Clip) (j : Job) : List Dest :=
  allDests.filter (fun d => dmem (chunkTargets c k j) d && !usable s j d && decide ((k.copy d).state = .pending))

/-- The slot becomes STAGED and joins the write queues of its pending set, or becomes FREE if the set is empty (R77, steps 3 and 4). -/
def placeSlot (n : Nat) (set : DestSet) (s : State) : State :=
  if set = 0 then freeSlot n s
  else
    let s1 := modSlot n (fun x => { x with staged := true, pending := set }) s
    (allDests.filter (dmem set)).foldl
      (fun t d => setDest t d { t.dest d with writeQueue := (t.dest d).writeQueue ++ [n] }) s1

/-- The clip of a staged first-read chunk (R78). -/
def Clip.readOn (c : Clip) (ended : Bool) (acc : Acc) : Clip :=
  if ended then { c with sourceState := .staged, digest := digestOf acc } else { c with sourceState := .reading }

/-- A pass member's copy after an unequal pass (R83). -/
def Copy.markChanged (x : Copy) : Copy := if x.state = .pending then { x with cause := .sourceChanged } else x

/-- The clip at the end of a recopy pass (R83). -/
def Clip.passEnded (c : Clip) (acc : Acc) : Clip :=
  { c with
    copies := if digestOf acc = c.digest then c.copies
      else Vector.ofFn (fun d => if dmem c.passMembers d then (c.copy d).markChanged else c.copy d)
    recopySet := dminus c.recopySet c.passMembers
    passMembers := 0 }

/-- The checkpoint and the clip's state advance with a staged chunk (R78, R83). -/
def advance (c : ChunkRead) (s : State) : State :=
  match s.clip c.clip with
  | some k =>
    let k1 := { k with nextBlock := c.first + c.count, acc := c.acc }
    let ended := decide (k.blocks ≤ c.first + c.count)
    if c.recopy then
      if ended then leaveRecopyList c.clip (setClip s c.clip (k1.passEnded c.acc)) else setClip s c.clip k1
    else setClip s c.clip (k1.readOn ended c.acc)
  | none => s

/-- The pass has lost its last member at this staging, so it has ended and nothing is staged (R82, assumption log 25). -/
def passLost (c : ChunkRead) (s : State) : Bool :=
  c.recopy && (s.clip c.clip).any (fun k => decide (k.passMembers = 0))

/-- A complete chunk is staged (R77, R78, R83), and the event ends: the monitors see the backlogs that the slot has raised
while its job is still READING, and the tests follow (R77, R78, R159). -/
def stage (p : Port) (c : ChunkRead) (s : State) : State :=
  match s.clip c.clip, s.job c.job with
  | some k, some j =>
    let set := pendingSet s c k j
    let s1 := setReader s p { s.reader p with chunk := none, retries := 0 }
    let s2 := (lostTargets s c k j).foldl (fun t d => failCopy c.clip d .failed .destLost t) s1
    let s3 := if passLost c s2 then freeSlot c.slot s2 else advance c (placeSlot c.slot set s2)
    refresh (closeSeen [c.job] s3)
  | _, _ => s

/-- A chunk READ completes OK: the data enter the slot and the accumulators, and the next request is sent or the chunk is staged
(R71, R72, R91). -/
def chunkProgress (p : Port) (c : ChunkRead) (count : Nat) (data : List Byte) (s : State) : State :=
  let acc := match s.clip c.clip with
    | some k => foldStream c.acc data (streamBytes k.length (c.first + c.done) count)
    | none => c.acc
  let s1 := { s with mem := Memory.write s.mem (slotAddress c.slot c.done) (count * Config.blockBytes) data }
  let c1 := { c with done := c.done + count, acc := acc }
  if c1.done < c.count then cardKick p (setReader s1 p { s1.reader p with chunk := some c1 })
  else stage p c1 s1

/-- The chunk read in flight at `p` is answered OK (R72, R76). -/
def chunkAnswered (p : Port) (data : List Byte) (waitMs : Nat) (s : State) : State :=
  match (s.port p).request, (s.reader p).chunk with
  | some ⟨.read _ count, .chunk, _, false⟩, some c =>
    let s1 := clearCard p { s with now := s.now + waitMs }
    let s2 := setReader s1 p { s1.reader p with
      blocksRead := (s1.reader p).blocksRead + BitVec.ofNat 64 count, retries := 0 }
    if c.cancelled then endCancelled p c s2 else chunkProgress p c count data s2
  | _, _ => s

/-- CHUNK_REQUEST_DONE (R72). -/
def execChunkRequestDone (p : Port) (data : List Byte) (waitMs : Nat) (s : State) : Result :=
  .next (awake (chunkAnswered p data waitMs) s)

/-! ### A chunk read that fails (R73 to R75) -/

/-- The PENDING copies of a clip within a set fail with cause READ_ERROR, in destination order (R74, R75). -/
def failPending (c : Nat) (set : DestSet) (s : State) : State :=
  (allDests.filter (dmem set)).foldl (fun t d => if copyIs t c d .pending then failCopy c d .failed .readError t else t) s

/-- The CLIP_READ_ERROR notice of a failed chunk read (R74). -/
def tellReadError (c : ChunkRead) (s : State) : State :=
  match s.clip c.clip with
  | some k =>
    notify (.clipReadError c.job c.clip (c.first + c.done) (locate k.source (c.first + c.done)).1 k.label) s
  | none => s

/-- A chunk read fails for good (R74 for a first read, R75 for a recopy pass). -/
def failChunk (p : Port) (c : ChunkRead) (s : State) : State :=
  let s1 := tellReadError c (dropChunk p c s)
  let s2 :=
    if c.recopy then
      let set := ((s1.clip c.clip).map Clip.recopySet).getD 0
      leaveRecopyList c.clip (modClip c.clip (fun k => { k with recopySet := 0, passMembers := 0 }) (failPending c.clip set s1))
    else failPending c.clip 15 (modClip c.clip (fun k => { k with sourceState := .sourceError }) s1)
  refresh (closeJobs [c.job] (cardKick p s2))

/-- A confirmed ERROR of a chunk read: the end of a cancelled one, a resend, or failure on the fourth attempt (R73, R76). -/
def chunkError (p : Port) (c : ChunkRead) (s : State) : State :=
  if c.cancelled then endCancelled p c s
  else if (s.reader p).retries < Config.cardRetries then
    cardKick p (setReader s p { s.reader p with retries := (s.reader p).retries + 1 })
  else failChunk p c s

/-! ### Source-verify segments (R84, R85) -/

/-- The job whose task an engine holds is paused. -/
def enginePaused (s : State) (e : EngineIx) : Bool := (s.engine e).task.any (fun t => jobPaused s t.2)

/-- Engine `e`'s next segment starts at card port `p` (R84, R126, R128). -/
def startSegment (p : Port) (e : EngineIx) (rest : List EngineIx) (s : State) : State :=
  let next := (s.engine e).next
  let count := chunkLength (((engineClip s e).map Clip.blocks).getD 0) next
  let s1 := setEngine s e { s.engine e with seg := .inFlight }
  refresh (cardKick p (setReader s1 p { s1.reader p with
    segment := some ⟨e, next, count, 0, false⟩, segWaiting := rest, turn := .chunk, retries := 0 }))

/-- The reader of `p` stands before the arbiter's waiting segment (R84): it waits and the turn is CHUNK. At a port that has just become free
its joining and the arbiter's decision are taken in either order, and `arbiterFirst` takes the decision first. -/
def readerAhead (s : State) (p : Port) (arbiterFirst : Bool) : Bool :=
  (s.reader p).waiting && decide ((s.reader p).turn = .chunk) && !(arbiterFirst && decide (s.use p = .freed))

/-- The card-port read arbiter decides (R84). -/
def arbitrate (p : Port) (arbiterFirst : Bool) (s : State) : State :=
  match (s.reader p).segWaiting with
  | e :: rest =>
    if portFree s p = true ∧ enginePaused s e = false ∧ readerAhead s p arbiterFirst = false then
      startSegment p e rest s
    else s
  | [] => s

/-- SOURCE_SEGMENT_START (R84). -/
def execSourceSegmentStart (start : SegmentStart) (s : State) : Result :=
  .next (awake (arbitrate start.port start.arbiterFirst) s)

/-- A source-verify segment leaves the port, complete or failed (R85), and the engine is told. -/
def endSegment (p : Port) (g : Segment) (ok : Bool) (s : State) : State :=
  let s1 := cardKick p (setReader s p { s.reader p with segment := none, retries := 0 })
  refresh (if ok then segmentComplete g s1 else segmentFailed g s1)

/-- A source-verify segment's READ is answered OK (R85, R91). -/
def segmentAnswered (p : Port) (data : List Byte) (s : State) : State :=
  match (s.port p).request, (s.reader p).segment with
  | some ⟨.read _ count, .segment, _, false⟩, some g =>
    let s1 := clearCard p s
    if g.cancelled then endSegment p g true s1
    else
      let s2 := foldSegment g count data s1
      let g1 := { g with done := g.done + count }
      if g1.done < g.count then cardKick p (setReader s2 p { s2.reader p with segment := some g1, retries := 0 })
      else endSegment p g1 true s2
  | _, _ => s

/-- SOURCE_SEGMENT_REQUEST_DONE (R85). -/
def execSourceSegmentRequestDone (p : Port) (data : List Byte) (s : State) : Result :=
  .next (awake (segmentAnswered p data) s)

/-- A confirmed ERROR of a source-verify segment (R85). -/
def segmentError (p : Port) (g : Segment) (s : State) : State :=
  if g.cancelled then endSegment p g false s
  else if (s.reader p).retries < Config.cardRetries then
    cardKick p (setReader s p { s.reader p with retries := (s.reader p).retries + 1 })
  else endSegment p g false s

/-! ### Confirmation (R17, R18) -/

/-- A confirmed ERROR is delivered to the block that issued the request (R17). -/
def deliverError (p : Port) (owner : CardOwner) (s : State) : State :=
  match owner with
  | .survey => surveyError p s
  | .chunk =>
    match (s.reader p).chunk with
    | some c => chunkError p c s
    | none => s
  | .segment =>
    match (s.reader p).segment with
    | some g => segmentError p g s
    | none => s
  | .abandoned _ => s

/-- Presence has been steady for 3 ms since the held ERROR: it is confirmed, and sets the read-error flag (R17, R18). -/
def confirmError (p : Port) (s : State) : State :=
  match (s.port p).request with
  | some r =>
    if r.errorHeld = true ∧ (s.port p).present = true then
      deliverError p r.owner (setPort s p { s.port p with request := none, readError := true })
    else s
  | none => s

/-- ERROR_CONFIRM (R17). -/
def execErrorConfirm (p : Port) (s : State) : Result := .next (awake (confirmError p) s)

end Sys2Proof.Machine
end

