-- ==== Sys2Proof/Machine/Dispatch.lean ====
section
/-! DEFINITION. Which meaning each command has. -/

namespace Sys2Proof.Machine

open Sys2Proof

def exec (i : Instr) (s : State) : Host.Outcome State Fault Refusal :=
  match i with
  | .hardReset rateHigh => Sys2Proof.Machine.execHardReset rateHigh s
  | .softReset => Sys2Proof.Machine.execSoftReset s
  | .rxByte bits parityBit stopBit => Sys2Proof.Machine.execRxByte bits parityBit stopBit s
  | .interbyteGapTimeout => Sys2Proof.Machine.execInterbyteGapTimeout s
  | .unknownRequest => Sys2Proof.Machine.execUnknownRequest s
  | .identify => Sys2Proof.Machine.execIdentify s
  | .statusGet => Sys2Proof.Machine.execStatusGet s
  | .configSet => Sys2Proof.Machine.execConfigSet s
  | .flagsClear => Sys2Proof.Machine.execFlagsClear s
  | .deviceReset => Sys2Proof.Machine.execDeviceReset s
  | .frameSendEnd => Sys2Proof.Machine.execFrameSendEnd s
  | .cardSurvey => Sys2Proof.Machine.execCardSurvey s
  | .jobOpen => Sys2Proof.Machine.execJobOpen s
  | .jobFinal => Sys2Proof.Machine.execJobFinal s
  | .jobPause => Sys2Proof.Machine.execJobPause s
  | .jobResume => Sys2Proof.Machine.execJobResume s
  | .jobAbort => Sys2Proof.Machine.execJobAbort s
  | .jobQuery => Sys2Proof.Machine.execJobQuery s
  | .cardRelease => Sys2Proof.Machine.execCardRelease s
  | .clipBegin => Sys2Proof.Machine.execClipBegin s
  | .extentsAdd => Sys2Proof.Machine.execExtentsAdd s
  | .clipCommit => Sys2Proof.Machine.execClipCommit s
  | .clipCancel => Sys2Proof.Machine.execClipCancel s
  | .clipQuery => Sys2Proof.Machine.execClipQuery s
  | .clipRecopy => Sys2Proof.Machine.execClipRecopy s
  | .clipReverify => Sys2Proof.Machine.execClipReverify s
  | .destAttach => Sys2Proof.Machine.execDestAttach s
  | .destDetach => Sys2Proof.Machine.execDestDetach s
  | .destQuery => Sys2Proof.Machine.execDestQuery s
  | .monitorSet => Sys2Proof.Machine.execMonitorSet s
  | .holdResume => Sys2Proof.Machine.execHoldResume s
  | .knownListQuery => Sys2Proof.Machine.execKnownListQuery s
  | .knownListClear => Sys2Proof.Machine.execKnownListClear s
  | .presenceAppear p => Sys2Proof.Machine.execPresenceAppear p s
  | .presenceDrop p => Sys2Proof.Machine.execPresenceDrop p s
  | .settleTimerExpiry p => Sys2Proof.Machine.execSettleTimerExpiry p s
  | .cardRemoval p => Sys2Proof.Machine.execCardRemoval p s
  | .adapterErrorAnswer p => Sys2Proof.Machine.execAdapterErrorAnswer p s
  | .cardRequestTimeout p => Sys2Proof.Machine.execCardRequestTimeout p s
  | .errorConfirm p => Sys2Proof.Machine.execErrorConfirm p s
  | .cardAbandonedAnswer p => Sys2Proof.Machine.execCardAbandonedAnswer p s
  | .lampBlinkToggle p => Sys2Proof.Machine.execLampBlinkToggle p s
  | .surveyStart => Sys2Proof.Machine.execSurveyStart s
  | .surveyIdentifyAnswer capacity writeProtect adapterType label => Sys2Proof.Machine.execSurveyIdentifyAnswer capacity writeProtect adapterType label s
  | .surveyReadDone data => Sys2Proof.Machine.execSurveyReadDone data s
  | .slotGrant => Sys2Proof.Machine.execSlotGrant s
  | .chunkRequestDone p data waitMs => Sys2Proof.Machine.execChunkRequestDone p data waitMs s
  | .sourceSegmentStart start => Sys2Proof.Machine.execSourceSegmentStart start s
  | .sourceSegmentRequestDone p data => Sys2Proof.Machine.execSourceSegmentRequestDone p data s
  | .destLinkUp d => Sys2Proof.Machine.execDestLinkUp d s
  | .destLinkDown d => Sys2Proof.Machine.execDestLinkDown d s
  | .destIdentifyAnswer d answer => Sys2Proof.Machine.execDestIdentifyAnswer d answer s
  | .destRequestTimeout d => Sys2Proof.Machine.execDestRequestTimeout d s
  | .bridgeAbandonedAnswer d => Sys2Proof.Machine.execBridgeAbandonedAnswer d s
  | .destArbiterDecide d => Sys2Proof.Machine.execDestArbiterDecide d s
  | .destWriteOk d => Sys2Proof.Machine.execDestWriteOk d s
  | .destWriteError d => Sys2Proof.Machine.execDestWriteError d s
  | .destFlushOk d => Sys2Proof.Machine.execDestFlushOk d s
  | .destFlushError d => Sys2Proof.Machine.execDestFlushError d s
  | .destReadOk d data => Sys2Proof.Machine.execDestReadOk d data s
  | .destReadError d => Sys2Proof.Machine.execDestReadError d s
  | .engineTakeTask => Sys2Proof.Machine.execEngineTakeTask s
  | .paceTimerExpiry before => Sys2Proof.Machine.execPaceTimerExpiry before s
  | .resetHeldLow => Sys2Proof.Machine.execResetHeldLow s

end Sys2Proof.Machine
end

