-- ==== Sys2Proof/Safety.lean ====
section
/-! DEFINITION. What a sound state of the block is (the bounds, lists and accounts its rules keep), and the words in which the statements
speak of a request and of what goes out on the line. -/

namespace Sys2Proof.Machine

open Sys2Proof

/-! ### Requests -/

/-- The KIND of the frame that a request's command takes (spec/01, Requests and replies); none for a command that is no request. -/
def requestKind (i : Instr) : Option Byte :=
  match i with
  | .identify => some 0x01 | .statusGet => some 0x02 | .configSet => some 0x03 | .flagsClear => some 0x04 | .deviceReset => some 0x05
  | .cardSurvey => some 0x08 | .jobOpen => some 0x10 | .jobFinal => some 0x11 | .jobPause => some 0x12 | .jobResume => some 0x13
  | .jobAbort => some 0x14 | .jobQuery => some 0x15 | .cardRelease => some 0x16 | .clipBegin => some 0x18 | .extentsAdd => some 0x19
  | .clipCommit => some 0x1A | .clipCancel => some 0x1B | .clipQuery => some 0x1C | .clipRecopy => some 0x1D
  | .clipReverify => some 0x1E | .destAttach => some 0x20 | .destDetach => some 0x21 | .destQuery => some 0x22
  | .monitorSet => some 0x28 | .holdResume => some 0x29 | .knownListQuery => some 0x30 | .knownListClear => some 0x31
  | .hardReset _ | .softReset | .rxByte _ _ _ | .interbyteGapTimeout | .unknownRequest | .frameSendEnd | .presenceAppear _
  | .presenceDrop _ | .settleTimerExpiry _ | .cardRemoval _ | .adapterErrorAnswer _ | .cardRequestTimeout _ | .errorConfirm _
  | .cardAbandonedAnswer _ | .lampBlinkToggle _ | .surveyStart | .surveyIdentifyAnswer _ _ _ _ | .surveyReadDone _ | .slotGrant
  | .chunkRequestDone _ _ _ | .sourceSegmentStart _ | .sourceSegmentRequestDone _ _ | .destLinkUp _ | .destLinkDown _
  | .destIdentifyAnswer _ _ | .destRequestTimeout _ | .bridgeAbandonedAnswer _ | .destArbiterDecide _ | .destWriteOk _
  | .destWriteError _ | .destFlushOk _ | .destFlushError _ | .destReadOk _ _ | .destReadError _ | .engineTakeTask
  | .paceTimerExpiry _ | .resetHeldLow => none

/-- The payload lengths that the layout table gives a request's KIND (R6, step 2); byte n counts a list, or a label. -/
def lengthFits (kind : Byte) (payload : List Byte) : Bool :=
  let len := payload.length
  let byte (n : Nat) : Nat := (payload.getD n 0).toNat
  match kind.toNat with
  | 0x01 | 0x02 | 0x04 | 0x05 | 0x30 | 0x31 => decide (len = 0)
  | 0x03 => decide (1 ≤ len ∧ 1 ≤ byte 0 ∧ byte 0 ≤ 32 ∧ len = 1 + 3 * byte 0)
  | 0x08 | 0x11 | 0x12 | 0x13 | 0x14 | 0x15 | 0x16 | 0x20 | 0x22 | 0x29 => decide (len = 1)
  | 0x10 => decide (len = 6)
  | 0x18 => decide (8 ≤ len ∧ byte 7 ≤ 32 ∧ len = 8 + byte 7)
  | 0x19 => decide (4 ≤ len ∧ 1 ≤ byte 3 ∧ byte 3 ≤ 64 ∧ len = 4 + 10 * byte 3)
  | 0x1A | 0x1B | 0x1C | 0x21 => decide (len = 2)
  | 0x1D | 0x1E => decide (len = 3)
  | 0x28 => decide (len = 5)
  | _ => false

/-- Dispatch may take a request, and `f` is the oldest inbound frame, before the frames `rest` (R6). -/
abbrev State.Offers (s : State) (f : Frame) (rest : List Frame) : Prop := dispatchReady s = true ∧ s.inbound = f :: rest

/-- Dispatch has taken frame `f` (R5, R6). -/
def State.taken (s : State) (f : Frame) (rest : List Frame) : State := { s with inbound := rest, dispatch := some f }

/-- The reply formed last: it waits for the line, or the line took it at once (R6, R8). -/
def State.replyOut (s : State) : Option Frame :=
  match s.waitingReply with
  | some r => some r
  | none => s.sending

/-- A notice has reached the outside's side of the block: it waits in the Notice Queue, it is on the line, or it was lost and its KIND is
in the missed-kind set (R8, R165, R166). -/
abbrev State.Told (s : State) (n : Notice) : Prop :=
  n ∈ s.notices ∨ s.sending = some n.frame ∨ s.missed.getLsbD (n.kind - 0x40) = true

/-- The number of ones among the data bits and the parity bit is even (R2). -/
def evenOnes (bits : Byte) (parityBit : Bool) : Bool :=
  decide (((List.range 8).countP bits.getLsbD + parityBit.toNat) % 2 = 0)

/-- The block after bytes have arrived on RXD one after the other, each with its right parity bit and stop bit. -/
def receiveBytes (bytes : List Byte) (s : State) : State :=
  match bytes with
  | [] => s
  | b :: rest =>
    match exec (.rxByte b (parityOf b) true) s with
    | .next t => receiveBytes rest t
    | _ => s

/-! ### Sound states -/

/-- The tables and queues stay within the capacities the spec gives them, and lists without duplicates hold none (R5, R25, R33, R165). -/
abbrev State.WithinCapacity (s : State) : Prop :=
  s.inbound.length ≤ 4 ∧ s.notices.length ≤ 64 ∧ s.known.length ≤ 64 ∧ s.known.Nodup ∧ s.surveyQueue.Nodup ∧
    ∀ p : Port, s.survey.any (fun v => decide (v.port = p)) = true → p ∉ s.surveyQueue

/-- Settings, counts and monitor settings stay in the ranges the spec gives them (R11, R116, R153, R154, R155, R168). -/
abbrev State.InRange (s : State) : Prop :=
  (∀ key : Fin 9, Config.keyLow (key.val + 1) ≤ s.cfg.value (key.val + 1) ∧
      s.cfg.value (key.val + 1) ≤ Config.keyHigh (key.val + 1)) ∧
    s.windowCount < 65536 ∧ 1 ≤ s.windowPeriod ∧ s.windowPeriod ≤ 255 ∧ s.expiryCount ≤ 255 ∧
    (∀ d : Dest, (s.monitor d).level ≤ 7 ∧ (s.monitor d).holdoff < s.windowPeriod) ∧
    (∀ d : Dest, (s.dest d).writeCount ≤ 16)

/-- The outbound line is never free while a reply or a notice waits (R8), but for a line held idle by RESET (R1). -/
abbrev State.LineServed (s : State) : Prop :=
  s.resetLow = true ∨ s.sending.isSome = true ∨ (s.waitingReply = none ∧ s.notices = [])

/-- Every slot is either on the free-slot list, once, or in use under one record; each chunk read in flight has a FILLING slot of its own
(R61, R62, R71). -/
abbrev State.SlotsAccounted (s : State) : Prop :=
  (s.slots.map Prod.fst).Pairwise (· < ·) ∧ (s.freeSlots ++ s.slots.map Prod.fst).Perm allSlots ∧
    (∀ p : Port, ∀ c ∈ (s.reader p).chunk, (s.slot c.slot).any (fun x => !x.staged) = true) ∧
    ∀ p q : Port, p ≠ q → ∀ c ∈ (s.reader p).chunk, ∀ e ∈ (s.reader q).chunk, c.slot ≠ e.slot

/-- Both accumulators lie in 0 to P - 1 (R89). -/
abbrev Acc.Reduced (acc : Acc) : Prop := acc.a < Config.digestModulus ∧ acc.b < Config.digestModulus

/-- The accumulators of every read checkpoint, chunk read and Verify Engine are reduced (R89). -/
abbrev State.AccsReduced (s : State) : Prop :=
  (∀ e ∈ s.clips, e.2.acc.Reduced) ∧ (∀ p : Port, ∀ c ∈ (s.reader p).chunk, c.acc.Reduced) ∧
    ∀ e : EngineIx, ∀ acc ∈ (s.engine e).acc, acc.Reduced

/-- Job and clip records in use are listed by rising number, within the tables' capacities (R36, R49). -/
abbrev State.TablesKeyed (s : State) : Prop :=
  (s.jobs.map Prod.fst).Pairwise (· < ·) ∧ (s.clips.map Prod.fst).Pairwise (· < ·) ∧ (∀ h ∈ s.jobs.map Prod.fst, h < 12) ∧
    (∀ c ∈ s.clips.map Prod.fst, c < 4096)

/-- The lamps, the waiting set and the record of how a port stands follow their inputs (R23, R65, assumption log 28); each monitor's above state
agrees with its destination's backlog (R156); and a destination port whose link is down is ABSENT with nothing on the link (R98, R103), but
for a link that goes down while RESET is held low (R1). -/
abbrev State.InputsFollowed (s : State) : Prop :=
  (∀ p : Port, (s.port p).lamp = lampOf s p ∧ (s.reader p).waiting = startCondition s p ∧
      (s.use p = .busy ↔
        ¬((s.port p).request = none ∧ (s.reader p).chunk = none ∧ (s.reader p).segment = none))) ∧
    (∀ d : Dest, (s.monitor d).above = true ↔ 128 + 96 * (s.monitor d).level < backlog (s.dest d)) ∧
    (s.resetLow = true ∨ ∀ d : Dest, (s.dest d).linkUp = false → (s.dest d).state = .absent ∧ (s.dest d).request = none)

/-- The request on a card port's link belongs to the chunk read, the segment or the survey in progress at that port, or is an abandoned
one, which is still to be answered (R15). -/
abbrev State.LinksOwned (s : State) : Prop :=
  ∀ p : Port, ∀ r ∈ (s.port p).request,
    (r.owner = .chunk → (s.reader p).chunk ≠ none) ∧ (r.owner = .segment → (s.reader p).segment ≠ none) ∧
      (r.owner = .survey → s.survey.any (fun v => decide (v.port = p)) = true) ∧
      ∀ job, r.owner = .abandoned job → r.errorHeld = false

/-- Clip `c` is a committed clip of job `h` (R49, R54). -/
abbrev State.Committed (s : State) (c h : Nat) : Prop :=
  (s.clip c).any (fun k => decide (k.job = h) && decide (k.sourceState ≠ .building)) = true

/-- Clip `c` is a committed clip (R54). -/
abbrev State.IsCommitted (s : State) (c : Nat) : Prop := (s.clip c).any (fun k => decide (k.sourceState ≠ .building)) = true

/-- The clips whose copies a flush covers (R111). -/
def DestOp.covers (op : DestOp) : List Nat :=
  match op with
  | .flush clips => clips
  | _ => []

/-- The order and recopy lists, the chunk reads, the slots and the engines name committed clips of their job, and the Verify Queue, the
awaiting-flush lists and the flushes name committed clips (R36, R61, R71, R110, R111, R121); a BUILDING clip has no copy and no source verify
(R49). -/
abbrev State.WorkOwned (s : State) : Prop :=
  (∀ e ∈ s.jobs, (∀ c ∈ e.2.order, s.Committed c e.1) ∧ ∀ c ∈ e.2.recopy, s.Committed c e.1) ∧
    (∀ p : Port, ∀ c ∈ (s.reader p).chunk, s.Committed c.clip c.job) ∧ (∀ e ∈ s.slots, s.Committed e.2.clip e.2.job) ∧
    (∀ e : EngineIx, ∀ u ∈ (s.engine e).task, s.Committed u.1.clip u.2) ∧ (∀ u ∈ s.verifyQueue, s.IsCommitted u.clip) ∧
    (∀ d : Dest, (∀ c ∈ (s.dest d).awaiting, s.IsCommitted c) ∧ ∀ o ∈ (s.dest d).op, ∀ c ∈ o.covers, s.IsCommitted c) ∧
    ∀ e ∈ s.clips, e.2.sourceState = .building → (∀ d : Dest, (e.2.copy d).state = .none) ∧ e.2.sv = .off

/-- Every READING or DRAINED job's clearable and attention fields are what R143 and R144 make of its clips. -/
abbrev State.AccountsCurrent (s : State) : Prop :=
  ∀ e ∈ s.jobs, e.2.state ≠ .closing →
    (e.2.clearable = true ↔
      e.2.state = .drained ∧ ∀ c ∈ e.2.order, ∃ k ∈ s.clip c, k.sourceState ≠ .sourceError ∧
        e.2.required ≤ (allDests.filter (fun d => decide ((k.copy d).state = .verified))).length ∧
        (e.2.sourceVerify = true → k.sv = .matched)) ∧
    (e.2.attention = true ↔
      ∃ c ∈ e.2.order, ∃ k ∈ s.clip c, k.sourceState = .sourceError ∨ k.sv = .mismatch ∨
        ∃ d : Dest, (k.copy d).state = .mismatch ∨ (k.copy d).state = .failed ∨ (k.copy d).state = .suspect)

end Sys2Proof.Machine
end

