-- ==== Sys2Proof/WellFormed.lean ====
section
/-! DEFINITION. Which commands are events the outside can send (1.7): an answer to a READ carries no more bytes than a READ asks
for, and a survey's READ asks for 64 blocks. Port, destination and engine numbers are in range by their types. -/

namespace Sys2Proof

/-- An answer to a READ of at most `blocks` blocks (1.7). -/
def dataFits (blocks : Nat) (data : List Byte) : Bool :=
  decide (data.length ≤ blocks * Config.blockBytes)

/-- The command's operands are ones that the outside can supply. -/
def Instr.wellFormed (i : Instr) : Bool :=
  match i with
  | .surveyReadDone data => dataFits Config.surveyBlocks data
  | .chunkRequestDone _ data _ => dataFits Config.requestBlocks data
  | .sourceSegmentRequestDone _ data => dataFits Config.requestBlocks data
  | .destReadOk _ data => dataFits Config.requestBlocks data
  | .hardReset _ | .softReset | .rxByte _ _ _ | .interbyteGapTimeout | .unknownRequest | .identify | .statusGet | .configSet
  | .flagsClear | .deviceReset | .frameSendEnd | .cardSurvey | .jobOpen | .jobFinal | .jobPause | .jobResume | .jobAbort
  | .jobQuery | .cardRelease | .clipBegin | .extentsAdd | .clipCommit | .clipCancel | .clipQuery | .clipRecopy | .clipReverify
  | .destAttach | .destDetach | .destQuery | .monitorSet | .holdResume | .knownListQuery | .knownListClear
  | .presenceAppear _ | .presenceDrop _ | .settleTimerExpiry _ | .cardRemoval _ | .adapterErrorAnswer _
  | .cardRequestTimeout _ | .errorConfirm _ | .cardAbandonedAnswer _ | .lampBlinkToggle _ | .surveyStart
  | .surveyIdentifyAnswer _ _ _ _ | .slotGrant | .sourceSegmentStart _ | .destLinkUp _ | .destLinkDown _
  | .destIdentifyAnswer _ _ | .destRequestTimeout _ | .bridgeAbandonedAnswer _ | .destArbiterDecide _ | .destWriteOk _
  | .destWriteError _ | .destFlushOk _ | .destFlushError _ | .destReadError _ | .engineTakeTask | .paceTimerExpiry _
  | .resetHeldLow => true

end Sys2Proof
end

