-- ==== Sys2Proof/Certificates/Slice0/Obligations.lean ====
section
/-! DEFINITION. The statements for the provers: what the commands of the block do, and what every command keeps. In all of them `s.Offers f rest`
says that dispatch may take a request and that `f` is the oldest inbound frame (R6), and `s.taken f rest` is `s` once dispatch has taken
it. -/

open Sys2Proof Sys2Proof.Machine

/-! ### The queue of commands -/

/-- The command at the front of the queue runs on the state with the queue's rest. On an empty queue the block idles, which is the model's
choice (assumption log 2). -/
def Obligations.StepRunsFrontCommand : Prop :=
  (∀ (c : Instr) (rest : List Instr) (s : State), s.pending = c :: rest → step s = exec c { s with pending := rest }) ∧
    ∀ s : State, s.pending = [] → step s = .next s

/-! ### Resets (R1, R13, R14, R35, R60, R62, R86, R120, R140, R164, R172) -/

/-- HARD_RESET completes from every state, and every block takes its hard-reset values; a card that is present counts as appearing, a link
that is up as coming up, with its IDENTIFY sent and no notice. That the first window begins at the present reading of the model's clock is
the model's choice (assumption logs 3, 22). -/
def Obligations.HardResetValues : Prop :=
  ∀ (r : Bool) (s : State), ∃ t, exec (.hardReset r) s = .next t ∧
    (t.rate = r ∧ t.resetLow = false ∧ t.rx = .hunting ∧ t.inbound = [] ∧ t.dispatch = none ∧ t.waitingReply = none ∧
      t.sending = none ∧ t.resetPending = false ∧ t.linkFlags = ⟨false, false, false, false, false⟩ ∧
      t.cfg = ⟨250, 1, 2000, 10000, 20, 25, 4, 8, 1⟩) ∧
    (t.surveyQueue = [] ∧ t.survey = none ∧ t.known = [] ∧ t.jobs = [] ∧ t.clips = [] ∧ t.slots = [] ∧
      t.freeSlots = List.range 1024 ∧ t.lastGranted = 7 ∧ t.verifyQueue = []) ∧
    (∀ p, t.reader p =
      { chunk := none, retries := 0, waiting := false, turn := .chunk, segment := none, segWaiting := [], blocksRead := 0 }) ∧
    (∀ e, t.engine e = ⟨none, 0, none, .none⟩) ∧
    (∀ d, t.monitor d = { mode := .soft, level := 5, edge := .rise, holdoff := 5, above := false, tripped := false }) ∧
    (t.windowPeriod = 20 ∧ t.windowCount = 0 ∧ t.windowStart = t.now ∧ t.notices = [] ∧ t.missed = 0 ∧ t.expiryCount = 0) ∧
    (∀ p, t.port p =
      { present := (s.port p).present
        state := if (s.port p).present then .settling else .empty
        settle := if (s.port p).present then some 250 else none
        absence := false, identity := none, job := none, readError := false, request := none, lamp := .off, blinkLit := false }) ∧
    ∀ d, t.dest d =
      { linkUp := (s.dest d).linkUp
        state := if (s.dest d).linkUp then .identifying else .absent
        request := if (s.dest d).linkUp then some ⟨.identify, false, 10000, false⟩ else none
        identity := none, writeQueue := [], awaiting := [], segWaiting := [], op := none, writeCount := 0, blocksWritten := 0,
        writeErr := false, readErr := false, timeout := false }

/-- When the last byte of the DEVICE_RESET reply has been sent, SOFT_RESET, or the end of that frame, gives every block its soft-reset
values: settings, the Known-Card List and the monitors' settings stay, tables and queues are empty, cards are surveyed again; a request in
flight on an adapter link stays there as an abandoned one. That either command is this one event, and that a request whose ERROR has
already arrived leaves its link free, are the model's readings (assumption logs 8, 13). -/
def Obligations.SoftResetValues : Prop :=
  ∀ (c : Instr) (s : State) (reply : Frame), (c = .softReset ∨ (c = .frameSendEnd ∧ s.resetLow = false)) →
    s.resetPending = true → s.waitingReply = none → s.sending = some reply → reply.kind = 0x85 →
    ∃ t, exec c s = .next t ∧
      (t.rate = s.rate ∧ t.rx = .hunting ∧ t.inbound = [] ∧ t.dispatch = none ∧ t.waitingReply = none ∧ t.sending = none ∧
        t.resetPending = false ∧ t.linkFlags = ⟨false, false, false, false, false⟩ ∧ t.cfg = s.cfg) ∧
      (t.survey = none ∧ t.known = s.known ∧ t.jobs = [] ∧ t.clips = [] ∧ t.slots = [] ∧ t.freeSlots = List.range 1024 ∧
        t.lastGranted = 7 ∧ t.verifyQueue = []) ∧
      (∀ p, t.reader p =
        { chunk := none, retries := 0, waiting := false, turn := .chunk, segment := none, segWaiting := [], blocksRead := 0 }) ∧
      (∀ e, t.engine e = ⟨none, 0, none, .none⟩) ∧
      (t.windowPeriod = s.cfg.paceWindowMs ∧ t.windowCount = 0 ∧ t.windowStart = t.now ∧ t.notices = [] ∧ t.missed = 0 ∧
        t.expiryCount = 0) ∧
      (∀ d, t.monitor d =
        { s.monitor d with
          above := false, tripped := false
          holdoff := if s.cfg.paceWindowMs ≤ (s.monitor d).holdoff then s.cfg.paceWindowMs - 1 else (s.monitor d).holdoff }) ∧
      (∀ p, (t.port p).present = (s.port p).present ∧ (t.port p).absence = (s.port p).absence ∧
        (t.port p).identity = none ∧ (t.port p).job = none ∧ (t.port p).readError = false ∧
        ((s.port p).state = .empty → (t.port p).state = .empty ∧ (t.port p).lamp = .off) ∧
        ((s.port p).state = .settling → (t.port p).state = .settling ∧ (t.port p).lamp = .off ∧
          (t.port p).settle = if (s.port p).present then some s.cfg.settleMs else none) ∧
        ((s.port p).state ≠ .empty → (s.port p).state ≠ .settling → (t.port p).state = .present ∧ (t.port p).lamp = .amber)) ∧
      t.surveyQueue = allPorts.filter (fun p => decide ((s.port p).state ≠ .empty) && decide ((s.port p).state ≠ .settling)) ∧
      (∀ p, (s.port p).request = none → (t.port p).request = none) ∧
      (∀ p r, (s.port p).request = some r →
        (t.port p).request = if r.errorHeld then none else some { r with owner := .abandoned none }) ∧
      ∀ d, (t.dest d).linkUp = (s.dest d).linkUp ∧
        (t.dest d).state = (if (s.dest d).linkUp then .identifying else .absent) ∧
        (t.dest d).identity = none ∧ (t.dest d).writeQueue = [] ∧ (t.dest d).awaiting = [] ∧ (t.dest d).segWaiting = [] ∧
        (t.dest d).op = none ∧ (t.dest d).writeCount = 0 ∧ (t.dest d).blocksWritten = 0 ∧
        (t.dest d).writeErr = false ∧ (t.dest d).readErr = false ∧ (t.dest d).timeout = false ∧
        (t.dest d).request =
          if (s.dest d).linkUp then
            match (s.dest d).request with
            | some r => some { r with abandoned := true }
            | none => some ⟨.identify, false, s.cfg.destTimeoutMs, false⟩
          else none

/-- RESET_HELD_LOW cuts off the frames in progress; while RESET is held low, no command but HARD_RESET changes anything beyond the levels
of the presence inputs and of the bridge links (R1; that the rest of the block stands still is the model's choice, assumption log 7). -/
def Obligations.ResetHeldLowStopsTheBlock : Prop :=
  (∀ s : State, exec .resetHeldLow s = .next { s with resetLow := true, rx := .hunting, sending := none }) ∧
    ∀ (c : Instr) (s : State), s.resetLow = true → s.rx = .hunting → s.sending = none → (∀ r, c ≠ .hardReset r) →
      ∃ ports dests, exec c s = .next { s with ports := ports, dests := dests } ∧
        (∀ p : Port, ports[p.val] = { s.port p with present := ports[p.val].present }) ∧
        ∀ d : Dest, dests[d.val] = { s.dest d with linkUp := dests[d.val].linkUp }

/-! ### The Message Port (R2 to R13) -/

/-- A frame sent byte by byte to a hunting receiver comes out of the line as it was: it joins the inbound buffer at the newest end while
fewer than four frames wait, and is an overrun otherwise (R3, R5). -/
def Obligations.FrameSentIsFrameReceived : Prop :=
  ∀ (f : Frame) (s : State), s.resetLow = false → s.rx = .hunting → f.payload.length ≤ 1022 →
    receiveBytes (frameBytes f) s =
      if s.inbound.length < 4 then { s with inbound := s.inbound ++ [f] }
      else notify (.linkFault .overrun) { s with linkFlags := { s.linkFlags with overrun := true } }

/-- What one received byte, or a gap, does (R3, R4, R5): SYNC is hunted for; a parity or stop-bit error, a LEN out of range and a gap discard
the frame with their flag and their LINK_FAULT; every other byte is taken as the next field. The second CHECK byte ends the frame: with
CHECK equal to the sum of its bytes it joins the inbound buffer, or is an overrun while four frames wait; with any other CHECK it is
discarded with the flag and the cause CHECK. That a gap while hunting changes nothing (assumption log 1), and that a byte with a parity or
stop-bit error is judged by that error alone, whatever LEN or CHECK it completes (assumption log 32), are the model's choices. -/
def Obligations.ReceiverTakesOrDiscards : Prop :=
  ∀ (b : Byte) (parityBit stopBit : Bool) (s : State), s.resetLow = false →
    (s.rx = .hunting →
      exec .interbyteGapTimeout s = .next s ∧
      exec (.rxByte b parityBit stopBit) s =
        .next (if b = 0xA5 ∧ evenOnes b parityBit = true ∧ stopBit = true then { s with rx := .assembling [] } else s)) ∧
    ∀ bytes, s.rx = .assembling bytes →
      exec .interbyteGapTimeout s =
        .next (notify (.linkFault .gap) { s with rx := .hunting, linkFlags := { s.linkFlags with gap := true } }) ∧
      (evenOnes b parityBit = false →
        exec (.rxByte b parityBit stopBit) s =
          .next (notify (.linkFault .parity)
            { s with rx := .hunting
                     linkFlags := { s.linkFlags with parity := true, framing := s.linkFlags.framing || !stopBit } })) ∧
      (evenOnes b parityBit = true → stopBit = false →
        exec (.rxByte b parityBit stopBit) s =
          .next (notify (.linkFault .framing) { s with rx := .hunting, linkFlags := { s.linkFlags with framing := true } })) ∧
      (evenOnes b parityBit = true → stopBit = true → bytes = [] →
        exec (.rxByte b parityBit stopBit) s = .next { s with rx := .assembling [b] }) ∧
      (∀ low, evenOnes b parityBit = true → stopBit = true → bytes = [low] →
        exec (.rxByte b parityBit stopBit) s =
          .next (
            if 2 ≤ low.toNat + 256 * b.toNat ∧ low.toNat + 256 * b.toNat ≤ 1024 then { s with rx := .assembling [low, b] }
            else notify (.linkFault .length) { s with rx := .hunting, linkFlags := { s.linkFlags with framing := true } })) ∧
      ∀ (low high : Byte) (fields : List Byte) (len : Nat), evenOnes b parityBit = true → stopBit = true →
        bytes = low :: high :: fields → len = low.toNat + 256 * high.toNat → 2 ≤ len → len ≤ 1024 →
        (fields.length < len + 1 → exec (.rxByte b parityBit stopBit) s = .next { s with rx := .assembling (bytes ++ [b]) }) ∧
        ∀ (kind tag check0 : Byte) (payload : List Byte) (sum : Nat), fields = kind :: tag :: payload ++ [check0] →
          payload.length + 2 = len →
          sum = (low.toNat + high.toNat + kind.toNat + tag.toNat + (payload.map BitVec.toNat).sum) % 65536 →
          (check0.toNat + 256 * b.toNat = sum →
            exec (.rxByte b parityBit stopBit) s =
              .next (if s.inbound.length < 4 then { s with rx := .hunting, inbound := s.inbound ++ [⟨kind, tag, payload⟩] }
                else notify (.linkFault .overrun)
                  { s with rx := .hunting, linkFlags := { s.linkFlags with overrun := true } })) ∧
          (check0.toNat + 256 * b.toNat ≠ sum →
            exec (.rxByte b parityBit stopBit) s =
              .next (notify (.linkFault .check) { s with rx := .hunting, linkFlags := { s.linkFlags with check := true } }))

/-- At the end of a frame that is not the DEVICE_RESET reply, the line takes the waiting reply, or else the oldest notice, or else stays
idle (R8). -/
def Obligations.LineTakesReplyThenOldestNotice : Prop :=
  ∀ (s : State) (sent : Frame), s.resetLow = false → s.sending = some sent →
    (s.resetPending = false ∨ s.waitingReply.isSome = true ∨ sent.kind ≠ 0x85) →
    (∀ r, s.waitingReply = some r → exec .frameSendEnd s = .next { s with sending := some r, waitingReply := none }) ∧
    (s.waitingReply = none → ∀ n rest, s.notices = n :: rest →
      exec .frameSendEnd s = .next { s with sending := some ⟨BitVec.ofNat 8 n.kind, 0, n.payload⟩, notices := rest }) ∧
    (s.waitingReply = none → s.notices = [] → exec .frameSendEnd s = .next { s with sending := none })

/-- Dispatch (R6, R7): a KIND that is no request kind is answered UNKNOWN_REQUEST, a payload length that does not fit BAD_LENGTH; every request
that dispatch takes gets one reply, of its KIND plus 0x80 and its TAG, beginning with a status, and a reply of any status but OK and
CLAMPED carries that status alone and leaves the state of the part as it was. -/
def Obligations.EveryRequestIsAnsweredOnce : Prop :=
  ((∀ k : Byte, k ∈ requestKinds ↔ ∃ i, requestKind i = some k) ∧
     ∀ (s : State) (f : Frame) (rest : List Frame), s.Offers f rest →
       (f.kind ∉ requestKinds → exec .unknownRequest s = .next (sendFrame ⟨0xFF, f.tag, [2, f.kind]⟩ (s.taken f rest))) ∧
       ∀ i, requestKind i = some f.kind → lengthFits f.kind f.payload = false →
         exec i s = .next (sendFrame ⟨f.kind + 0x80, f.tag, [3]⟩ (s.taken f rest))) ∧
  ∀ (i : Instr) (s : State) (f : Frame) (rest : List Frame), s.Offers f rest → requestKind i = some f.kind →
    ∃ (t : State) (r : Frame) (st : Status), exec i s = .next t ∧ t.replyOut = some r ∧ r.kind = f.kind + 0x80 ∧ r.tag = f.tag ∧
      r.payload.head? = some (BitVec.ofNat 8 st.code) ∧
      (st ≠ .ok → st ≠ .clamped → r.payload = [BitVec.ofNat 8 st.code] ∧ t = sendFrame r (s.taken f rest))

/-- IDENTIFY always succeeds with the codes and capacities of R9, whatever the configuration, and changes nothing else. -/
def Obligations.IdentifyReply : Prop :=
  ∀ (s : State) (f : Frame) (rest : List Frame), s.Offers f rest → f.kind = 0x01 → f.payload = [] →
    exec .identify s =
      .next (sendFrame
        ⟨0x81, f.tag, [0, 0x46, 0x57, 0x84, 0x00, 0x01, 8, 4, 0x00, 0x04, 12, 0x00, 0x10, 0x00, 0x80, 64]⟩ (s.taken f rest))

/-- STATUS_GET replies OK with the 34 bytes of the status block as they stand, and clears the missed-kind set and nothing else (R10). That the
bits of the flag bytes which stand for no flag are 0 is the model's choice (assumption log 31). -/
def Obligations.StatusGetReply : Prop :=
  (∀ (s : State) (f : Frame) (rest : List Frame), s.Offers f rest → f.kind = 0x02 → f.payload = [] →
    exec .statusGet s = .next (sendFrame ⟨0x82, f.tag, 0 :: statusBlock s⟩ { s.taken f rest with missed := 0 })) ∧
    ∀ s : State, ∃ (flags reads : Byte) (errors : Dest → Byte) (trips : Byte) (slotsLow slotsHigh count m0 m1 m2 m3 : Byte),
      statusBlock s =
        [flags, reads, errors 0, errors 1, errors 2, errors 3, trips] ++ allPorts.map (fun p => BitVec.ofNat 8 (s.port p).state.code) ++
          allPorts.map (fun p => BitVec.ofNat 8 ((s.port p).job.getD 0xFF)) ++
          allDests.map (fun d => BitVec.ofNat 8 (s.dest d).state.code) ++ [slotsLow, slotsHigh, count, m0, m1, m2, m3] ∧
        (flags.getLsbD 0 = s.linkFlags.parity ∧ flags.getLsbD 1 = s.linkFlags.framing ∧ flags.getLsbD 2 = s.linkFlags.check ∧
          flags.getLsbD 3 = s.linkFlags.gap ∧ flags.getLsbD 4 = s.linkFlags.overrun ∧ flags.toNat < 32) ∧
        (∀ p : Port, reads.getLsbD p.val = (s.port p).readError) ∧
        (∀ d : Dest, (errors d).getLsbD 0 = (s.dest d).writeErr ∧ (errors d).getLsbD 1 = (s.dest d).readErr ∧
          (errors d).getLsbD 2 = (s.dest d).timeout ∧ (errors d).toNat < 8 ∧ trips.getLsbD d.val = (s.monitor d).tripped) ∧
        trips.toNat < 16 ∧
        (slotsLow.toNat + 256 * slotsHigh.toNat = s.slots.length % 65536 ∧ count.toNat = s.notices.length % 256 ∧
          m0.toNat + 256 * (m1.toNat + 256 * (m2.toNat + 256 * m3.toNat)) = s.missed.toNat)

/-- CONFIG_SET with 1 to 32 pairs: one key outside 1 to 9 refuses it whole; else each key takes the last value sent for it, brought into
its key's range, and the reply gives, pair by pair, the values now stored (R11). That a key sent twice shows its final value in both
places is the model's reading (assumption log 10). -/
def Obligations.ConfigSetStoresFittedValues : Prop :=
  (List.range 9).map (fun i => (Config.keyLow (i + 1), Config.keyHigh (i + 1))) =
      [(50, 2000), (0, 1), (100, 10000), (1000, 60000), (1, 255), (0, 255), (1, 16), (1, 32), (0, 1)] ∧
    ∀ (s : State) (f : Frame) (rest : List Frame) (pairs : List (Byte × Byte × Byte)), s.Offers f rest → f.kind = 0x03 →
      1 ≤ pairs.length → pairs.length ≤ 32 →
      f.payload = BitVec.ofNat 8 pairs.length :: pairs.flatMap (fun x => [x.1, x.2.1, x.2.2]) →
      ((∃ x ∈ pairs, x.1.toNat < 1 ∨ 9 < x.1.toNat) → exec .configSet s = .next (sendFrame ⟨0x83, f.tag, [8]⟩ (s.taken f rest))) ∧
      ((∀ x ∈ pairs, 1 ≤ x.1.toNat ∧ x.1.toNat ≤ 9) → ∃ cfg : Settings,
        (∀ key, 1 ≤ key → key ≤ 9 → cfg.value key =
          match (pairs.filter (fun x => decide (x.1.toNat = key))).getLast? with
          | some x => max (Config.keyLow key) (min (x.2.1.toNat + 256 * x.2.2.toNat) (Config.keyHigh key))
          | none => s.cfg.value key) ∧
        exec .configSet s =
          .next (sendFrame
            ⟨0x83, f.tag,
              (if ∀ x ∈ pairs, Config.keyLow x.1.toNat ≤ x.2.1.toNat + 256 * x.2.2.toNat ∧
                  x.2.1.toNat + 256 * x.2.2.toNat ≤ Config.keyHigh x.1.toNat then 0 else 1) ::
                BitVec.ofNat 8 pairs.length ::
                pairs.flatMap (fun x => x.1 :: leBytes 2 (cfg.value x.1.toNat))⟩
            { s.taken f rest with cfg := cfg }))

/-- FLAGS_CLEAR replies with the sticky flags as they were, in the first 7 bytes of the status block, and clears them all, and nothing else
(R12). The bits of those bytes which stand for no flag are as in the status block, the model's choice (assumption log 31). -/
def Obligations.FlagsClearClearsStickyFlags : Prop :=
  ∀ (s : State) (f : Frame) (rest : List Frame), s.Offers f rest → f.kind = 0x04 → f.payload = [] →
    exec .flagsClear s =
      .next (sendFrame ⟨0x84, f.tag, 0 :: (statusBlock s).take 7⟩
        { s.taken f rest with
          linkFlags := ⟨false, false, false, false, false⟩
          ports := s.ports.map (fun x => { x with readError := false })
          dests := s.dests.map (fun x => { x with writeErr := false, readErr := false, timeout := false })
          monitors := s.monitors.map (fun x => { x with tripped := false }) })

/-- DEVICE_RESET replies OK and changes nothing at once; until the soft reset, dispatch takes no further request (R13). That a request's
command then changes nothing is the model's choice (assumption log 1). -/
def Obligations.DeviceResetStopsDispatch : Prop :=
  (∀ (s : State) (f : Frame) (rest : List Frame), s.Offers f rest → f.kind = 0x05 → f.payload = [] →
    exec .deviceReset s = .next (sendFrame ⟨0x85, f.tag, [0]⟩ { s.taken f rest with resetPending := true })) ∧
    ∀ (i : Instr) (s : State), s.resetPending = true → ((requestKind i).isSome = true ∨ i = .unknownRequest) → exec i s = .next s

/-! ### Card ports, the Survey Unit and the Known-Card List (R15 to R35) -/

/-- The presence input and the settle timer (R19, R25): a card that appears in EMPTY settles with the settle_ms then stored, a return in
SETTLING starts the timer again, a drop stops it; in every other state only the absence timer starts or stops. When a settling card's
timer runs out the port is PRESENT, CARD_INSERTED is told, and with auto_survey 1 the port joins the survey queue unless it is there. That
an input which already has the level changes nothing is the model's choice (assumption log 1). -/
def Obligations.PresenceAndSettling : Prop :=
  (∀ (p : Port) (s : State), s.resetLow = false →
     ((s.port p).present = false →
       exec (.presenceDrop p) s = .next s ∧
       exec (.presenceAppear p) s =
         .next (setPort s p
           { s.port p with
             present := true, absence := false
             state := if (s.port p).state = .empty then .settling else (s.port p).state
             settle := if (s.port p).state = .empty ∨ (s.port p).state = .settling then some s.cfg.settleMs else (s.port p).settle })) ∧
     ((s.port p).present = true →
       exec (.presenceAppear p) s = .next s ∧
       exec (.presenceDrop p) s =
         .next (setPort s p
           { s.port p with
             present := false
             absence := if (s.port p).state = .empty then (s.port p).absence else true
             settle := if (s.port p).state = .settling then none else (s.port p).settle }))) ∧
  ∀ (p : Port) (s : State) (ms : Nat), s.resetLow = false → (s.port p).state = .settling → (s.port p).settle = some ms →
    ∃ u, u = notify (.cardInserted p) (setPort s p { s.port p with state := .present, settle := none }) ∧
      exec (.settleTimerExpiry p) s =
        .next (refresh
          { u with surveyQueue :=
              if s.cfg.autoSurvey = 1 ∧ p ∉ s.surveyQueue ∧ s.survey.any (fun v => decide (v.port = p)) = false then s.surveyQueue ++ [p]
              else s.surveyQueue })

/-- An absence of 3 ms is a removal (R20, R32, R39, R79, R134). In SETTLING the port goes to EMPTY with no notice. In every other state
but EMPTY it also loses its card identity and its job, leaves the survey queue, ends its survey, rolls its chunk read back to the
checkpoint and frees its slot at the tail of the list, leaves its job card ABSENT and tells CARD_REMOVED; its request stays on the link as
an abandoned one (R15; one whose ERROR is held leaves the link free, which is the model's reading, assumption log 13). Each engine whose
SOURCE segment waits or is in flight at the port gives the task up: the task is back at the head of the Verify Queue, engine 0's before
engine 1's, its clip's source-verify state is QUEUED and the engine is free. -/
def Obligations.RemovalEmptiesThePort : Prop :=
  ∀ (p : Port) (s : State), s.resetLow = false → (s.port p).absence = true →
    ((s.port p).state = .settling →
      exec (.cardRemoval p) s =
        .next (refresh (setPort s p
          { s.port p with state := .empty, settle := none, absence := false, identity := none, job := none }))) ∧
    ((s.port p).state ≠ .empty → (s.port p).state ≠ .settling → s.TablesKeyed → ∃ t, exec (.cardRemoval p) s = .next t ∧
      (t.port p).state = .empty ∧ (t.port p).identity = none ∧ (t.port p).job = none ∧ (t.port p).absence = false ∧
      (t.port p).lamp = .off ∧ (t.port p).readError = (s.port p).readError ∧
      p ∉ t.surveyQueue ∧ (∀ v, t.survey = some v → v.port ≠ p) ∧
      (t.reader p).chunk = none ∧ (t.reader p).segment = none ∧
      t.freeSlots = s.freeSlots ++ ((s.reader p).chunk.map ChunkRead.slot).toList ∧
      (∀ c ∈ (s.reader p).chunk, t.slot c.slot = none) ∧
      (∀ c ∈ (s.reader p).chunk, ∀ k k', s.clip c.clip = some k → t.clip c.clip = some k' →
        k'.nextBlock = k.nextBlock ∧ k'.acc = k.acc ∧ k'.sourceState = k.sourceState) ∧
      (∀ h ∈ (s.port p).job, ∀ j ∈ t.job h, j.binding = none) ∧
      t.Told (.cardRemoved p (s.port p).job) ∧
      (∀ r ∈ (s.port p).request,
        if r.errorHeld then (t.port p).request = none
        else ∃ job, (t.port p).request = some { r with owner := .abandoned job }) ∧
      (∀ held : EngineIx → List Task,
        (∀ e,
          (held e = [] ∧ e ∉ (s.reader p).segWaiting ∧ ∀ g ∈ (s.reader p).segment, g.engine ≠ e) ∨
            ∃ u h, held e = [u] ∧ (s.engine e).task = some (u, h) ∧ u.target = .source ∧
              (e ∈ (s.reader p).segWaiting ∨ ∃ g ∈ (s.reader p).segment, g.engine = e) ∧
              ∀ g ∈ (s.reader p).segment, g.engine = e → g.cancelled = false) →
        (∃ more, t.verifyQueue = held 0 ++ held 1 ++ s.verifyQueue ++ more ∧ ∀ u ∈ more, u.target = .source) ∧
        ∀ e, ∀ u ∈ held e, t.engine e = ⟨none, 0, none, .none⟩ ∧ (∀ q, e ∉ (t.reader q).segWaiting) ∧
          ∀ k' ∈ t.clip u.clip, k'.sv = .queued) ∧
      t.known = s.known ∧ t.cfg = s.cfg ∧ t.mem = s.mem ∧
      ∀ q, q ≠ p → (t.port q).state = (s.port q).state ∧ (t.port q).identity = (s.port q).identity ∧
        (t.port q).job = (s.port q).job ∧ (t.port q).request = (s.port q).request)

/-- An ERROR answer, and a timeout, of a request in flight is held (R16, R17); the answer to an abandoned request, and its timeout, free the
link, which takes the request that waits for it, and are an event of the free test of the job it read for (R15, R46). -/
def Obligations.AdapterErrorsHeldAndAbandonedLinksFreed : Prop :=
  ∀ (p : Port) (s : State) (r : CardRequest), s.resetLow = false → (s.port p).request = some r →
    ((∀ job, r.owner ≠ .abandoned job) →
      exec (.adapterErrorAnswer p) s = .next (setPort s p { s.port p with request := some { r with errorHeld := true } }) ∧
      exec (.cardRequestTimeout p) s = .next (setPort s p { s.port p with request := some { r with errorHeld := true } })) ∧
    ∀ job, r.owner = .abandoned job → ∃ t,
      exec (.cardAbandonedAnswer p) s = .next t ∧ exec (.cardRequestTimeout p) s = .next t ∧
      t = refresh (closeJobs job.toList (cardKick p (setPort s p { s.port p with request := none }))) ∧
      (s.survey.any (fun v => decide (v.port = p)) = false → (s.reader p).chunk = none → (s.reader p).segment = none →
        (t.port p).request = none) ∧
      ∀ v, s.survey = some v → v.port = p → v.step = .identify →
        (t.port p).request = some ⟨.identify, .survey, s.cfg.cardTimeoutMs, false⟩

/-- A held ERROR is confirmed while the card is present: it sets the read-error flag (R18), and a block with retries left sends its request
again at once, the accumulators as they were (R27, R28, R73, R85); while the card is absent nothing is confirmed (R17). That the command
changes nothing where no ERROR is held is the model's choice (assumption log 1). -/
def Obligations.ConfirmedErrorIsRetried : Prop :=
  ∀ (p : Port) (s : State) (r : CardRequest), s.resetLow = false → (s.port p).request = some r →
    ((s.port p).present = false ∨ r.errorHeld = false → exec (.errorConfirm p) s = .next s) ∧
    ((s.port p).present = true → r.errorHeld = true →
      (∀ v, r.owner = .survey → s.survey = some v → v.port = p → v.retries < 3 →
        exec (.errorConfirm p) s =
          .next (setPort { s with survey := some { v with retries := v.retries + 1 } } p
            { s.port p with
              readError := true
              request := some ⟨match v.step with | .identify => .identify | .read _ => .read 0 64, .survey, s.cfg.cardTimeoutMs, false⟩ })) ∧
      (∀ c k, r.owner = .chunk → s.survey.any (fun v => decide (v.port = p)) = false → (s.reader p).chunk = some c →
        c.cancelled = false → (s.reader p).retries < 3 → s.clip c.clip = some k →
        exec (.errorConfirm p) s =
          .next (setReader
            (setPort s p
              { s.port p with
                readError := true
                request := some
                  ⟨.read (requestRun k.source (c.first + c.done) (c.count - c.done)).1
                    (requestRun k.source (c.first + c.done) (c.count - c.done)).2, .chunk, s.cfg.cardTimeoutMs, false⟩ })
            p { s.reader p with retries := (s.reader p).retries + 1 })) ∧
      ∀ g k, r.owner = .segment → s.survey.any (fun v => decide (v.port = p)) = false → (s.reader p).chunk = none →
        (s.reader p).segment = some g → g.cancelled = false → (s.reader p).retries < 3 → engineClip s g.engine = some k →
        exec (.errorConfirm p) s =
          .next (setReader
            (setPort s p
              { s.port p with
                readError := true
                request := some
                  ⟨.read (requestRun k.source (g.first + g.done) (g.count - g.done)).1
                    (requestRun k.source (g.first + g.done) (g.count - g.done)).2, .segment, s.cfg.cardTimeoutMs, false⟩ })
            p { s.reader p with retries := (s.reader p).retries + 1 }))

/-- A request that fails a fourth time. In a chunk of a first read (R74): the slot is freed at the tail, the clip is SOURCE_ERROR with its
checkpoint where it stood, its PENDING copies fail with cause READ_ERROR and no other copy changes, and CLIP_READ_ERROR and the COPY_STATE
notices are told. In a chunk of a recopy pass (R75): the same is told, the clip stays as it was but for its recopy set, which is emptied,
the PENDING copies of that set, which fail, and its place in the recopy list, which it leaves. In a SOURCE segment of a job that is not
paused (R133): the engine is free of the task, which is not queued again, and the source-verify state is MISMATCH, told with cause
READ_ERROR. -/
def Obligations.FourthReadErrorFailsTheClip : Prop :=
  (∀ (p : Port) (s : State) (r : CardRequest) (c : ChunkRead) (k : Clip) (j : Job), s.resetLow = false → s.TablesKeyed →
    (s.port p).request = some r → r.errorHeld = true → (s.port p).present = true → r.owner = .chunk →
    (s.reader p).chunk = some c → c.cancelled = false → 3 ≤ (s.reader p).retries →
    s.clip c.clip = some k → s.job c.job = some j → k.job = c.job → j.state ≠ .closing →
    ∃ t k' j', exec (.errorConfirm p) s = .next t ∧ t.clip c.clip = some k' ∧ t.job c.job = some j' ∧
      k'.nextBlock = k.nextBlock ∧ k'.acc = k.acc ∧ k'.digest = k.digest ∧
      t.slot c.slot = none ∧ t.freeSlots = s.freeSlots ++ [c.slot] ∧ (t.reader p).chunk = none ∧ (t.port p).readError = true ∧
      t.Told (.clipReadError c.job c.clip (c.first + c.done) (locate k.source (c.first + c.done)).1 k.label) ∧
      (∀ i, i ≠ c.clip → (t.clip i).map Clip.copies = (s.clip i).map Clip.copies) ∧
      ∀ fails : Dest → Bool,
        (∀ d, fails d = true ↔ (k.copy d).state = .pending ∧ (c.recopy = true → k.recopySet.getLsbD d.val = true)) →
        (∀ d, k'.copy d = if fails d then { k.copy d with state := .failed, cause := .readError } else k.copy d) ∧
        (∀ d, fails d = true → t.Told (.copyState c.job c.clip (.copy d .failed) .readError)) ∧
        (c.recopy = false → k'.sourceState = .sourceError ∧ k'.sv = k.sv) ∧
        (c.recopy = true → k'.sourceState = k.sourceState ∧ k'.recopySet = 0 ∧ k'.passMembers = 0 ∧
          j'.recopy = j.recopy.filter (fun i => decide (i ≠ c.clip)))) ∧
  ∀ (p : Port) (s : State) (r : CardRequest) (g : Segment) (u : Task) (h : Nat) (k : Clip) (j : Job), s.resetLow = false →
    s.TablesKeyed → (s.port p).request = some r → r.errorHeld = true → (s.port p).present = true → r.owner = .segment →
    (s.reader p).segment = some g → g.cancelled = false → 3 ≤ (s.reader p).retries → (s.engine g.engine).task = some (u, h) →
    u.target = .source → s.clip u.clip = some k → s.job h = some j → k.job = h → j.state ≠ .closing → j.paused = false →
    j.tasksIssued = true → ∃ t j' more, exec (.errorConfirm p) s = .next t ∧ t.engine g.engine = ⟨none, 0, none, .none⟩ ∧
      t.clip u.clip = some { k with sv := .mismatch } ∧ t.Told (.copyState h u.clip (.source .mismatch) .readError) ∧
      t.verifyQueue = s.verifyQueue ++ more ∧ (∀ x ∈ more, x.target = .source ∧ x.clip ≠ u.clip) ∧
      (t.reader p).segment = none ∧ (t.port p).readError = true ∧ t.slots = s.slots ∧ t.dests = s.dests ∧
      t.job h = some j' ∧ (u.clip ∈ j.order → j'.attention = true ∧ (j.sourceVerify = true → j'.clearable = false))

/-- The lamp of a port shows the first row of R23's table that holds, its red and green lines are those of R24, and an AMBER blinking lamp
toggles at each half-period; that the toggle changes nothing on a lamp that does not blink is the model's choice (assumption log 1). -/
def Obligations.SlotLampFollowsTheTable : Prop :=
  (∀ (s : State) (p : Port) (job : Option Job), job = (s.port p).job.bind s.job →
    (((s.port p).state = .fault ∨ ∃ j, job = some j ∧ j.clearable = false ∧ j.attention = true) → lampOf s p = .red) ∧
    (¬((s.port p).state = .fault ∨ ∃ j, job = some j ∧ j.clearable = false ∧ j.attention = true) →
      (((s.port p).state = .released ∨ ∃ j, job = some j ∧ j.clearable = true) → lampOf s p = .green) ∧
      (¬((s.port p).state = .released ∨ ∃ j, job = some j ∧ j.clearable = true) →
        ((∃ j, job = some j ∧ (j.paused = true ∨ j.softHold ≠ 0 ∨ j.hardHold ≠ 0)) → lampOf s p = .blinking) ∧
        (¬(∃ j, job = some j ∧ (j.paused = true ∨ j.softHold ≠ 0 ∨ j.hardHold ≠ 0)) →
          lampOf s p = if (s.port p).state = .empty ∨ (s.port p).state = .settling then .off else .amber)))) ∧
    (∀ (s : State) (p : Port), ((refresh s).port p).lamp = lampOf s p ∧
      (lampOf s p = .blinking → (s.port p).lamp ≠ .blinking → ((refresh s).port p).blinkLit = true)) ∧
    (∀ (s : State) (p : Port), s.resetLow = false →
      exec (.lampBlinkToggle p) s =
        .next (if (s.port p).lamp = .blinking then setPort s p { s.port p with blinkLit := !(s.port p).blinkLit } else s)) ∧
    ∀ lit, lampLines .red lit = (true, false) ∧ lampLines .green lit = (false, true) ∧ lampLines .amber lit = (true, true) ∧
      lampLines .off lit = (false, false) ∧ lampLines .blinking lit = (lit, lit)

/-- CARD_SURVEY is answered, and taken, as R22's table says. -/
def Obligations.CardSurveyTable : Prop :=
  ∀ (s : State) (f : Frame) (rest : List Frame) (b : Byte), s.Offers f rest → f.kind = 0x08 → f.payload = [b] →
    (8 ≤ b.toNat → exec .cardSurvey s = .next (sendFrame ⟨0x88, f.tag, [4]⟩ (s.taken f rest))) ∧
    ∀ p : Port, p.val = b.toNat →
      (((s.port p).state = .empty ∨ (s.port p).state = .settling) →
        exec .cardSurvey s = .next (sendFrame ⟨0x88, f.tag, [5]⟩ (s.taken f rest))) ∧
      (((s.port p).state = .bound ∨ (s.port p).state = .released) →
        exec .cardSurvey s = .next (sendFrame ⟨0x88, f.tag, [6]⟩ (s.taken f rest))) ∧
      ((s.port p).state = .surveying → exec .cardSurvey s = .next (sendFrame ⟨0x88, f.tag, [0]⟩ (s.taken f rest))) ∧
      (((s.port p).state = .present ∨ (s.port p).state = .identified ∨ (s.port p).state = .fault) →
        s.survey.any (fun v => decide (v.port = p)) = false →
        exec .cardSurvey s =
          .next (sendFrame ⟨0x88, f.tag, [0]⟩
            { s.taken f rest with surveyQueue := if p ∈ s.surveyQueue then s.surveyQueue else s.surveyQueue ++ [p] }))

/-- The survey of the oldest queued port starts with IDENTIFY, once the link is free (R26). An OK answer is kept and blocks 0 to 63 are
read; one that cannot be held ends the survey with cause ADAPTER, one of a card below 64 blocks with cause TOO_SMALL (R27, R28, R29). That
an answer which both cannot be held and is of a small card has cause ADAPTER is the model's reading (assumption log 11). -/
def Obligations.SurveyIdentifiesThenReads : Prop :=
  (∀ (s : State) (p : Port) (queue : List Port), s.resetLow = false → s.survey = none → s.surveyQueue = p :: queue →
    exec .surveyStart s =
      .next (refresh (setPort { s with surveyQueue := queue, survey := some ⟨p, .identify, 0⟩ } p
        { s.port p with
          state := .surveying, identity := none
          request := match (s.port p).request with
            | some r => some r
            | none => some ⟨.identify, .survey, s.cfg.cardTimeoutMs, false⟩ }))) ∧
    ∀ (s : State) (v : Survey) (ms capacity : Nat) (writeProtect : Bool) (adapterType : Byte) (label : List Byte),
      s.resetLow = false → s.survey = some v → v.step = .identify → (s.port v.port).request = some ⟨.identify, .survey, ms, false⟩ →
      (64 ≤ capacity → capacity ≤ 2 ^ 32 → label.length ≤ 24 →
        exec (.surveyIdentifyAnswer capacity writeProtect adapterType label) s =
          .next (setPort { s with survey := some ⟨v.port, .read ⟨capacity, writeProtect, adapterType, label⟩, 0⟩ } v.port
            { s.port v.port with request := some ⟨.read 0 64, .survey, s.cfg.cardTimeoutMs, false⟩ })) ∧
      ((2 ^ 32 < capacity ∨ 24 < label.length) →
        exec (.surveyIdentifyAnswer capacity writeProtect adapterType label) s =
          .next (refresh (notify (.surveyFailed v.port .adapter) (setPort { s with survey := none } v.port
            { s.port v.port with request := none, state := .fault, identity := none })))) ∧
      (capacity < 64 → label.length ≤ 24 →
        exec (.surveyIdentifyAnswer capacity writeProtect adapterType label) s =
          .next (refresh (notify (.surveyFailed v.port .tooSmall) (setPort { s with survey := none } v.port
            { s.port v.port with request := none, state := .fault, identity := none }))))

/-- The survey's READ completes (R28, R31, R93): the fingerprint is the digest of the card's first 32768 bytes; the identity is recorded
and told; a card-ABSENT job of an equal identity is bound to the port again, whichever port it is; failing that, a known fingerprint is
told. Data bytes beyond the list's end are 0 (assumption log 5). -/
def Obligations.SurveyCompletionIdentifiesOrRebinds : Prop :=
  ∀ (s : State) (v : Survey) (a : AdapterIdentity) (ms : Nat) (data : List Byte) (id : CardIdentity), s.resetLow = false →
    s.TablesKeyed → s.survey = some v → v.step = .read a → (s.port v.port).request = some ⟨.read 0 64, .survey, ms, false⟩ →
    data.length ≤ 32768 →
    id = ⟨a.capacity, a.writeProtect, a.adapterType, a.label,
      digestOf (foldBytes ⟨1, 0⟩ (data ++ List.replicate (32768 - data.length) 0))⟩ →
    ∃ t, exec (.surveyReadDone data) s = .next t ∧ t.survey = none ∧ (t.port v.port).request = none ∧
      (t.port v.port).identity = some id ∧ t.Told (.cardIdentified v.port id) ∧ t.known = s.known ∧ t.clips = s.clips ∧
      (∀ h j, s.job h = some j → j.state ≠ .closing → j.binding = none → j.identity.fingerprint = id.fingerprint →
        j.identity.capacity = id.capacity →
        (∀ h' j', s.job h' = some j' → j'.state ≠ .closing → j'.binding = none → j'.identity.fingerprint = id.fingerprint →
          j'.identity.capacity = id.capacity → h' = h) →
        (t.port v.port).state = .bound ∧ (t.port v.port).job = some h ∧ t.job h = some { j with binding := some v.port } ∧
          (t.reader v.port).blocksRead = 0 ∧ t.Told (.jobRebound h v.port)) ∧
      ((∀ h j, s.job h = some j → j.state = .closing ∨ j.binding ≠ none ∨ j.identity.fingerprint ≠ id.fingerprint ∨
          j.identity.capacity ≠ id.capacity) →
        (t.port v.port).state = .identified ∧ (t.port v.port).job = (s.port v.port).job ∧ t.jobs = s.jobs ∧
          (id.fingerprint ∈ s.known → t.Told (.cardKnown v.port id.fingerprint)))

/-- The Known-Card List (R33, R34): the query gives it oldest first, the clear empties it and gives its length, and a fingerprint joins it
only by CARD_RELEASE of a clearable job: an equal entry moves to the newest end, a full list drops its oldest entry. -/
def Obligations.KnownCardListGrowsOnlyByRelease : Prop :=
  (∀ (s : State) (f : Frame) (rest : List Frame), s.Offers f rest → f.kind = 0x30 → f.payload = [] →
    exec .knownListQuery s =
      .next (sendFrame ⟨0xB0, f.tag, 0 :: BitVec.ofNat 8 s.known.length :: s.known.flatMap (fun x => leBytes 8 x.toNat)⟩
        (s.taken f rest))) ∧
  (∀ (s : State) (f : Frame) (rest : List Frame), s.Offers f rest → f.kind = 0x31 → f.payload = [] →
    exec .knownListClear s =
      .next (sendFrame ⟨0xB1, f.tag, [0, BitVec.ofNat 8 s.known.length]⟩ { s.taken f rest with known := [] })) ∧
  ∀ (c : Instr) (s t : State), exec c s = .next t → (∀ r, c ≠ .hardReset r) → c ≠ .knownListClear →
    t.known = s.known ∨
      (c = .cardRelease ∧ ∃ h j, s.job h = some j ∧ j.clearable = true ∧ j.state ≠ .closing ∧
        (j.identity.fingerprint ∈ s.known →
          t.known = s.known.filter (fun x => decide (x ≠ j.identity.fingerprint)) ++ [j.identity.fingerprint]) ∧
        (j.identity.fingerprint ∉ s.known → s.known.length < 64 → t.known = s.known ++ [j.identity.fingerprint]) ∧
        (j.identity.fingerprint ∉ s.known → 64 ≤ s.known.length → t.known = s.known.drop 1 ++ [j.identity.fingerprint]))

/-! ### Jobs, clips and the Extent Store (R36 to R60, R146) -/

/-- JOB_OPEN (R40, R41). On an IDENTIFIED card, with its destinations ONLINE, no live job of an equal card and a free record, the lowest free
record becomes the job with the values of R36, the port is BOUND to it and leaves the survey queue, and the reply gives the handle and the
two stored values. Otherwise the first check that fails decides the reply, and nothing changes. -/
def Obligations.JobOpenMakesTheJobOrRefuses : Prop :=
  (∀ (s : State) (f : Frame) (rest : List Frame) (p : Port) (set required verify q0 q1 : Byte) (id : CardIdentity) (h : Nat),
     s.Offers f rest → f.kind = 0x10 → f.payload = [BitVec.ofNat 8 p.val, set, required, verify, q0, q1] →
     set.setWidth 4 ≠ (0 : DestSet) → verify.toNat ≤ 1 → (s.port p).state = .identified → (s.port p).identity = some id →
     (∀ d : Dest, set.getLsbD d.val = true → (s.dest d).state = .online) →
     (∀ e ∈ s.jobs, e.2.identity.fingerprint ≠ id.fingerprint ∨ e.2.identity.capacity ≠ id.capacity) →
     h < 12 → s.job h = none → (∀ i < h, (s.job i).isSome = true) →
     ∀ (copies quota members : Nat), members = ((List.range 4).filter (fun d => set.getLsbD d)).length →
       copies = max 1 (min required.toNat members) → quota = max 1 (min (q0.toNat + 256 * q1.toNat) 512) →
       exec .jobOpen s =
         .next (sendFrame
           ⟨0x90, f.tag,
             [if copies = required.toNat ∧ quota = q0.toNat + 256 * q1.toNat then 0 else 1, BitVec.ofNat 8 h, BitVec.ofNat 8 copies] ++
               leBytes 2 quota⟩
           (refresh
             { s.taken f rest with
               jobs := store s.jobs h
                 { state := .reading, binding := some p, identity := id, destSet := set.setWidth 4
                   destIds := Vector.ofFn (fun d => if set.getLsbD d.val then (s.dest d).identity else none)
                   required := copies, sourceVerify := decide (verify.toNat = 1), quota := quota, intakeFinal := false, paused := false,
                   order := [], cursor := 0, recopy := [], softHold := 0, hardHold := 0, tasksIssued := false, clearable := false,
                   attention := false, holdChanged := false }
               ports := s.ports.set p.val { s.port p with state := .bound, job := some h }
               readers := s.readers.set p.val { s.reader p with blocksRead := 0 }
               surveyQueue := s.surveyQueue.filter (fun q => decide (q ≠ p)) }))) ∧
  ∀ (s : State) (f : Frame) (rest : List Frame) (b set required verify q0 q1 : Byte),
    s.Offers f rest → f.kind = 0x10 → f.payload = [b, set, required, verify, q0, q1] →
    let answer (status : Byte) : Prop := exec .jobOpen s = .next (sendFrame ⟨0x90, f.tag, [status]⟩ (s.taken f rest))
    (8 ≤ b.toNat → answer 4) ∧
    ∀ p : Port, p.val = b.toNat →
      ((set.setWidth 4 = (0 : DestSet) ∨ 1 < verify.toNat) → answer 8) ∧
      (set.setWidth 4 ≠ (0 : DestSet) → verify.toNat ≤ 1 →
        ((s.port p).state ≠ .identified → answer 5) ∧
        ((s.port p).state = .identified →
          ((∃ d : Dest, set.getLsbD d.val = true ∧ (s.dest d).state ≠ .online) → answer 5) ∧
          ((∀ d : Dest, set.getLsbD d.val = true → (s.dest d).state = .online) → ∀ id, (s.port p).identity = some id →
            ((∃ e ∈ s.jobs, e.2.identity.fingerprint = id.fingerprint ∧ e.2.identity.capacity = id.capacity) → answer 11) ∧
            ((∀ e ∈ s.jobs, e.2.identity.fingerprint ≠ id.fingerprint ∨ e.2.identity.capacity ≠ id.capacity) →
              (∀ h < 12, (s.job h).isSome = true) → answer 7))))

/-- JOB_FINAL, JOB_PAUSE and JOB_RESUME (R36, R42, R43): BAD_HANDLE for a free record, BAD_STATE for a CLOSING job, BUSY for JOB_FINAL while a
clip of the job is BUILDING, and otherwise OK with the one field set; JOB_FINAL then applies the drained test, and a repeated JOB_PAUSE
changes nothing. JOB_PAUSE is stated here for a job none of whose SOURCE tasks an engine holds. -/
def Obligations.JobFinalPauseResume : Prop :=
  ∀ (s : State) (f : Frame) (rest : List Frame) (b : Byte) (h : Nat), s.Offers f rest → f.payload = [b] → h = b.toNat →
    (s.job h = none →
      (f.kind = 0x11 → exec .jobFinal s = .next (sendFrame ⟨0x91, f.tag, [4]⟩ (s.taken f rest))) ∧
      (f.kind = 0x12 → exec .jobPause s = .next (sendFrame ⟨0x92, f.tag, [4]⟩ (s.taken f rest))) ∧
      (f.kind = 0x13 → exec .jobResume s = .next (sendFrame ⟨0x93, f.tag, [4]⟩ (s.taken f rest)))) ∧
    ∀ j, s.job h = some j →
      (j.state = .closing →
        (f.kind = 0x11 → exec .jobFinal s = .next (sendFrame ⟨0x91, f.tag, [5]⟩ (s.taken f rest))) ∧
        (f.kind = 0x12 → exec .jobPause s = .next (sendFrame ⟨0x92, f.tag, [5]⟩ (s.taken f rest))) ∧
        (f.kind = 0x13 → exec .jobResume s = .next (sendFrame ⟨0x93, f.tag, [5]⟩ (s.taken f rest)))) ∧
      (j.state ≠ .closing →
        (f.kind = 0x11 → (∃ e ∈ s.clips, e.2.job = h ∧ e.2.sourceState = .building) →
          exec .jobFinal s = .next (sendFrame ⟨0x91, f.tag, [6]⟩ (s.taken f rest))) ∧
        (f.kind = 0x11 → (∀ e ∈ s.clips, e.2.job = h → e.2.sourceState ≠ .building) →
          exec .jobFinal s =
            .next (sendFrame ⟨0x91, f.tag, [0]⟩
              (if j.intakeFinal then s.taken f rest
               else refresh (closeJobs [h] (setJob (s.taken f rest) h { j with intakeFinal := true }))))) ∧
        (f.kind = 0x12 → (∀ e t, (s.engine e).task = some (t, h) → t.target ≠ .source) →
          exec .jobPause s =
            .next (sendFrame ⟨0x92, f.tag, [0]⟩
              (if j.paused then s.taken f rest
               else refresh (closeJobs [h] (setJob (s.taken f rest) h { j with paused := true }))))) ∧
        (f.kind = 0x13 →
          exec .jobResume s = .next (sendFrame ⟨0x93, f.tag, [0]⟩ (refresh (setJob (s.taken f rest) h { j with paused := false })))))

/-- JOB_FINAL on a READING job with nothing to read drains it in the same step and, with no clip, makes it clearable: JOB_DRAINED and
CARD_CLEARABLE are told, and join a Notice Queue that has room, on a line that is busy, in that order (R38, R144, R145, assumption log 9).
JOB_PAUSE for a job whose SOURCE task an engine holds (R135): with its segment waiting the task goes back to the head of the queue at once
and the engine is free; with it in flight the engine keeps the task until the segment ends. Where both engines give a task up, engine 0's
stands ahead. -/
def Obligations.FinalDrainsAndPauseGivesUpTasks : Prop :=
  (∀ (s : State) (f : Frame) (rest : List Frame) (b : Byte) (j : Job), s.Offers f rest → f.kind = 0x11 → f.payload = [b] →
     s.job b.toNat = some j → j.state = .reading → j.intakeFinal = false → j.order = [] → j.recopy = [] → j.clearable = false →
     (∀ e ∈ s.clips, e.2.job ≠ b.toNat) → (∀ p, ∀ c ∈ (s.reader p).chunk, c.job ≠ b.toNat) →
     ∃ t, exec .jobFinal s = .next t ∧ t.replyOut = some ⟨0x91, f.tag, [0]⟩ ∧
       t.job b.toNat =
         some { j with intakeFinal := true, state := .drained, tasksIssued := true, attention := false, clearable := true } ∧
       t.Told (.jobDrained b.toNat) ∧ t.Told (.cardClearable b.toNat j.binding) ∧
       (s.sending.isSome = true → s.notices.length ≤ 62 →
         t.notices = s.notices ++ [.jobDrained b.toNat, .cardClearable b.toNat j.binding]) ∧
       t.clips = s.clips ∧ t.verifyQueue = s.verifyQueue ∧ t.slots = s.slots) ∧
  (∀ (s : State) (f : Frame) (rest : List Frame) (b : Byte) (j : Job) (held : EngineIx → List Task), s.Offers f rest → f.kind = 0x12 →
    f.payload = [b] → s.job b.toNat = some j → j.state ≠ .closing → j.paused = false → j.tasksIssued = true →
    (∀ e,
      (held e = [] ∧ ∀ u, (s.engine e).task = some (u, b.toNat) → u.target = .source → (s.engine e).seg = .inFlight) ∨
        ∃ u, held e = [u] ∧ (s.engine e).task = some (u, b.toNat) ∧ u.target = .source ∧ (s.engine e).seg ≠ .inFlight) →
    ∃ t, exec .jobPause s = .next t ∧ t.replyOut = some ⟨0x92, f.tag, [0]⟩ ∧ (∀ j' ∈ t.job b.toNat, j'.paused = true) ∧
      t.verifyQueue = held 0 ++ held 1 ++ s.verifyQueue ∧
      ∀ e, (held e = [] → t.engine e = s.engine e) ∧
        ∀ u ∈ held e, t.engine e = ⟨none, 0, none, .none⟩ ∧ (∀ p, e ∉ (t.reader p).segWaiting) ∧
          ∀ k' ∈ t.clip u.clip, k'.sv = .queued) ∧
  ∀ (s : State) (f : Frame) (rest : List Frame) (b : Byte) (j : Job) (e : EngineIx) (task : Task), s.Offers f rest → f.kind = 0x12 →
    f.payload = [b] → s.job b.toNat = some j → j.state ≠ .closing → j.paused = false → (s.engine e).task = some (task, b.toNat) →
    task.target = .source → (∀ i, i ≠ e → ∀ u, (s.engine i).task ≠ some (u, b.toNat)) → j.tasksIssued = true →
    ∃ t, exec .jobPause s = .next t ∧ t.replyOut = some ⟨0x92, f.tag, [0]⟩ ∧
      (∀ j' ∈ t.job b.toNat, j'.paused = true) ∧
      ((s.engine e).seg = .inFlight → t.engine e = s.engine e ∧ t.verifyQueue = s.verifyQueue) ∧
      ((s.engine e).seg ≠ .inFlight →
        t.engine e = ⟨none, 0, none, .none⟩ ∧ t.verifyQueue = task :: s.verifyQueue ∧
          (∀ p, e ∉ (t.reader p).segWaiting) ∧ ∀ k' ∈ t.clip task.clip, k'.sv = .queued)

/-- JOB_ABORT (R44, R45, R64, R136): the job is CLOSING with its card ABSENT and its port IDENTIFIED, or free; its BUILDING clips are freed, its
unfinished copies are FAILED with cause ABORTED and no other copy changes; no write queue, awaiting-flush list or Verify Queue holds work
of it. -/
def Obligations.AbortEndsTheJob : Prop :=
  ∀ (s : State) (f : Frame) (rest : List Frame) (b : Byte) (j : Job), s.Offers f rest → f.kind = 0x14 → f.payload = [b] →
    s.TablesKeyed → s.job b.toNat = some j → j.state ≠ .closing →
    (∀ e u, (s.engine e).task = some (u, b.toNat) → ∀ k ∈ s.clip u.clip, k.job = b.toNat) →
    ∃ t, exec .jobAbort s = .next t ∧ t.replyOut = some ⟨0x94, f.tag, [0]⟩ ∧
      (∀ j' ∈ t.job b.toNat, j'.state = .closing ∧ j'.binding = none ∧ j'.recopy = [] ∧ j'.clearable = false ∧
        j'.attention = j.attention) ∧
      (∀ p ∈ j.binding, (t.port p).state = .identified ∧ (t.port p).job = none ∧ (t.port p).identity = (s.port p).identity) ∧
      (∀ c k, s.clip c = some k → k.job = b.toNat →
        (k.sourceState = .building → t.clip c = none) ∧
        ∀ k' ∈ t.clip c, k'.sourceState = k.sourceState ∧ k'.recopySet = 0 ∧
          (∀ d, (k'.copy d).state =
            match (k.copy d).state with
            | .pending | .written | .flushed | .verifying => .failed
            | st => st) ∧
          (∀ d, (k'.copy d).cause =
            match (k.copy d).state with
            | .pending | .written | .flushed | .verifying => .aborted
            | _ => (k.copy d).cause) ∧
          ((k.sv = .waiting ∨ k.sv = .queued) → k'.sv = .off)) ∧
      (∀ c k, s.clip c = some k → k.job ≠ b.toNat → (∀ e u, (s.engine e).task = some (u, b.toNat) → u.clip ≠ c) → t.clip c = some k) ∧
      (∀ d, ∀ n ∈ (t.dest d).writeQueue, n ∈ (s.dest d).writeQueue ∧ ∀ x ∈ s.slot n, x.job ≠ b.toNat) ∧
      (∀ d, ∀ c ∈ (t.dest d).awaiting, ∀ k ∈ t.clip c, k.job ≠ b.toNat) ∧
      (∀ u ∈ t.verifyQueue, u ∈ s.verifyQueue ∧ ∀ k ∈ t.clip u.clip, k.job ≠ b.toNat) ∧
      (∀ n x, s.slot n = some x → x.job = b.toNat → x.staged = true → x.writing = 0 → t.slot n = none) ∧
      t.known = s.known ∧ t.mem = s.mem

/-- JOB_QUERY, CLIP_QUERY and DEST_QUERY reply OK with the record as it stands, field by field, and change nothing (R48, R56, R104). That the
bits of DEST_QUERY's error byte which stand for no flag are 0 (assumption log 31), and that a field that is yes or no is sent as 1 or 0
(assumption log 33), are the model's. -/
def Obligations.QueriesReportRecords : Prop :=
  ∀ (s : State) (f : Frame) (rest : List Frame), s.Offers f rest →
    (∀ b j, f.kind = 0x15 → f.payload = [b] → s.job b.toNat = some j →
      exec .jobQuery s =
        .next (sendFrame
          ⟨0x95, f.tag,
            [0, BitVec.ofNat 8 j.state.code, BitVec.ofNat 8 ((j.binding.map Fin.val).getD 0xFF), BitVec.ofNat 8 j.intakeFinal.toNat,
              BitVec.ofNat 8 j.paused.toNat, BitVec.ofNat 8 j.clearable.toNat, BitVec.ofNat 8 j.attention.toNat,
              j.destSet.setWidth 8, BitVec.ofNat 8 j.required, BitVec.ofNat 8 j.sourceVerify.toNat] ++
              leBytes 2 j.quota ++ leBytes 2 ((s.slots.filter (fun e => decide (e.2.job = b.toNat))).length) ++
              leBytes 2 j.order.length ++ leBytes 2 j.cursor ++ leBytes 2 j.recopy.length ++
              [j.softHold.setWidth 8, j.hardHold.setWidth 8] ++
              (leBytes 5 j.identity.capacity ++ [BitVec.ofNat 8 j.identity.writeProtect.toNat, j.identity.adapterType] ++
                leBytes 1 j.identity.label.length ++ (j.identity.label.take 24 ++ List.replicate (24 - j.identity.label.length) 0) ++
                leBytes 8 j.identity.fingerprint.toNat)⟩
          (s.taken f rest))) ∧
    (∀ b0 b1 k, f.kind = 0x1C → f.payload = [b0, b1] → s.clip (b0.toNat + 256 * b1.toNat) = some k → (s.job k.job).isSome = true →
      exec .clipQuery s =
        .next (sendFrame
          ⟨0x9C, f.tag,
            0 :: (leBytes 1 k.job ++ leBytes 1 k.sourceState.code ++ leBytes 1 k.sv.code ++ leBytes 6 k.length ++ leBytes 4 k.nextBlock ++
              leBytes 8 k.digest.toNat ++ [k.recopySet.setWidth 8] ++
              allDests.flatMap (fun d => leBytes 1 (k.copy d).state.code ++ leBytes 4 (k.copy d).written ++
                [BitVec.ofNat 8 (k.copy d).retryUsed.toNat] ++ leBytes 1 (k.copy d).cause.code))⟩
          (s.taken f rest))) ∧
    ∀ (b : Byte) (d : Dest), f.kind = 0x22 → f.payload = [b] → d.val = b.toNat →
      exec .destQuery s =
        .next (sendFrame
          ⟨0xA2, f.tag,
            0 :: (leBytes 1 (s.dest d).state.code ++
              (match (s.dest d).identity with
               | some i => 1 :: leBytes 6 i.capacity ++ (i.serial.take 20 ++ List.replicate (20 - i.serial.length) 0)
               | none => List.replicate 27 0) ++
              leBytes 2 ((s.dest d).writeQueue.length + (match (s.dest d).op with | some (.write _ _ _) => 1 | _ => 0)) ++
              leBytes 2 (s.dest d).awaiting.length ++ leBytes 8 (s.dest d).blocksWritten.toNat ++
              leBytes 2 ((s.verifyQueue.filter (fun t => decide (t.target = .dest d))).length) ++ [errorByte (s.dest d)])⟩
          (s.taken f rest))

/-- CARD_RELEASE (R33, R146): NOT_CLEARABLE for a job that is not clearable, BAD_STATE for a CLOSING one; taken, the card's fingerprint joins the
Known-Card List, the bound port is RELEASED and GREEN without a job, and the job is CLOSING with its card ABSENT, or free. -/
def Obligations.ReleaseTakesClearableCard : Prop :=
  ∀ (s : State) (f : Frame) (rest : List Frame) (b : Byte) (j : Job), s.Offers f rest → f.kind = 0x16 → f.payload = [b] →
    s.job b.toNat = some j →
    (j.state = .closing → exec .cardRelease s = .next (sendFrame ⟨0x96, f.tag, [5]⟩ (s.taken f rest))) ∧
    (j.state ≠ .closing → j.clearable = false → exec .cardRelease s = .next (sendFrame ⟨0x96, f.tag, [10]⟩ (s.taken f rest))) ∧
    (j.state ≠ .closing → j.clearable = true → ∃ t, exec .cardRelease s = .next t ∧ t.replyOut = some ⟨0x96, f.tag, [0]⟩ ∧
      t.known =
        (if j.identity.fingerprint ∈ s.known then s.known.filter (fun x => decide (x ≠ j.identity.fingerprint))
         else if s.known.length < 64 then s.known else s.known.drop 1) ++ [j.identity.fingerprint] ∧
      (∀ p ∈ j.binding, (t.port p).state = .released ∧ (t.port p).job = none ∧ (t.port p).lamp = .green ∧
        (t.port p).identity = (s.port p).identity) ∧
      (t.job b.toNat = none ∨ t.job b.toNat = some { j with state := .closing, binding := none }) ∧
      (∀ q, some q ≠ j.binding → (t.port q).state = (s.port q).state ∧ (t.port q).job = (s.port q).job) ∧
      t.dests = s.dests ∧ t.slots = s.slots ∧ t.verifyQueue = s.verifyQueue ∧ t.engines = s.engines)

/-- CLIP_BEGIN makes the lowest free clip record a BUILDING clip of an OPEN job, with the values of R49 and R50; CLIP_CANCEL frees a BUILDING
clip, and with it its extents, and is refused for any other (R55, R57). -/
def Obligations.ClipBeginAndCancel : Prop :=
  (∀ (s : State) (f : Frame) (rest : List Frame) (b l0 l1 l2 l3 l4 l5 n : Byte) (label : List Byte) (j : Job) (len c : Nat),
    s.Offers f rest → f.kind = 0x18 → f.payload = [b, l0, l1, l2, l3, l4, l5, n] ++ label → label.length = n.toNat → n.toNat ≤ 32 →
    len = leNat [l0, l1, l2, l3, l4, l5] → 1 ≤ len → len ≤ 2 ^ 40 → s.job b.toNat = some j → j.state ≠ .closing → j.intakeFinal = false →
    c < 4096 → s.clip c = none → (∀ i < c, (s.clip i).isSome = true) →
    exec .clipBegin s =
      .next (sendFrame ⟨0x98, f.tag, 0 :: leBytes 2 c⟩
        { s.taken f rest with
          clips := store s.clips c
            { job := b.toNat, label := label, length := len, source := [], targets := Vector.replicate 4 [], sourceState := .building,
              nextBlock := 0, acc := ⟨1, 0⟩, digest := 0, copies := Vector.replicate 4 ⟨.none, 0, false, .none⟩, sv := .off,
              recopySet := 0, passMembers := 0 } })) ∧
  ∀ (s : State) (f : Frame) (rest : List Frame) (b0 b1 : Byte) (k : Clip), s.Offers f rest → f.kind = 0x1B → f.payload = [b0, b1] →
    s.clip (b0.toNat + 256 * b1.toNat) = some k → (s.job k.job).isSome = true →
    exec .clipCancel s =
      .next (if k.sourceState = .building then
          sendFrame ⟨0x9B, f.tag, [0]⟩ { s.taken f rest with clips := erase s.clips (b0.toNat + 256 * b1.toNat) }
        else sendFrame ⟨0x9B, f.tag, [5]⟩ (s.taken f rest))

/-- EXTENTS_ADD (R51, R52, R57): the checks in their order, each with its status and no change; taken, the extents join the end of the named list
and the reply gives the list's length and the entries now free. -/
def Obligations.ExtentsAddChecksThenAppends : Prop :=
  ∀ (s : State) (f : Frame) (rest : List Frame) (h0 h1 sel : Byte) (es : List (BitVec 48 × BitVec 32)) (c : Nat) (k : Clip) (j : Job)
    (extents : List Extent), s.Offers f rest → f.kind = 0x19 → 1 ≤ es.length → es.length ≤ 64 →
    f.payload = [h0, h1, sel, BitVec.ofNat 8 es.length] ++ es.flatMap (fun e => leBytes 6 e.1.toNat ++ leBytes 4 e.2.toNat) →
    extents = es.map (fun e => ⟨e.1.toNat, e.2.toNat⟩) → c = h0.toNat + 256 * h1.toNat →
    let answer (status : Byte) : Prop := exec .extentsAdd s = .next (sendFrame ⟨0x99, f.tag, [status]⟩ (s.taken f rest))
    (s.clip c = none → answer 4) ∧
    (s.clip c = some k → s.job k.job = some j →
      (k.sourceState ≠ .building → answer 5) ∧
      (k.sourceState = .building →
        ((4 < sel.toNat ∨ (sel.toNat < 4 ∧ j.destSet.getLsbD sel.toNat = false)) → answer 4) ∧
        (∀ t : Target, ∀ list cap : _,
          (sel.toNat = 4 ∧ t = .source ∧ list = k.source ∧ cap = j.identity.capacity) ∨
            (∃ d : Dest, d.val = sel.toNat ∧ j.destSet.getLsbD sel.toNat = true ∧ t = .dest d ∧ list = k.target d ∧
              cap = ((j.destId d).map DestIdentity.capacity).getD 0) →
          ((∃ e ∈ extents, e.count = 0) → answer 8) ∧
          ((∀ e ∈ extents, e.count ≠ 0) →
            ((∃ e ∈ extents, cap < e.start + e.count) → answer 8) ∧
            ((∀ e ∈ extents, e.start + e.count ≤ cap) →
              ((64 < list.length + extents.length ∨ extentsFree s.clips < extents.length) → answer 7) ∧
              (list.length + extents.length ≤ 64 → extents.length ≤ extentsFree s.clips →
                ∃ k' u, u = setClip (s.taken f rest) c k' ∧
                  exec .extentsAdd s =
                    .next (sendFrame
                      ⟨0x99, f.tag, 0 :: (leBytes 1 (list.length + extents.length) ++ leBytes 2 (extentsFree u.clips))⟩ u) ∧
                  (t = .source → k' = { k with source := k.source ++ extents }) ∧
                  ∀ d, t = .dest d → k' = { k with targets := k.targets.set d.val (k.target d ++ extents) }))))))

/-- CLIP_COMMIT (R53, R54): BAD_STATE unless BUILDING, LENGTH_MISMATCH unless every list of the job's media covers exactly B blocks; taken, the
clip is QUEUED at the end of its job's order list, its copies in the job's set are PENDING, and its source-verify state is WAITING or OFF. -/
def Obligations.CommitQueuesCoveredClip : Prop :=
  ∀ (s : State) (f : Frame) (rest : List Frame) (b0 b1 : Byte) (c : Nat) (k : Clip) (j : Job), s.Offers f rest → f.kind = 0x1A →
    f.payload = [b0, b1] → c = b0.toNat + 256 * b1.toNat → s.clip c = some k → s.job k.job = some j →
    (k.sourceState ≠ .building → exec .clipCommit s = .next (sendFrame ⟨0x9A, f.tag, [5]⟩ (s.taken f rest))) ∧
    (k.sourceState = .building →
      (((k.source.map Extent.count).sum ≠ (k.length + 511) / 512 ∨
          ∃ d : Dest, j.destSet.getLsbD d.val = true ∧ ((k.target d).map Extent.count).sum ≠ (k.length + 511) / 512) →
        exec .clipCommit s = .next (sendFrame ⟨0x9A, f.tag, [9]⟩ (s.taken f rest))) ∧
      ((k.source.map Extent.count).sum = (k.length + 511) / 512 →
        (∀ d : Dest, j.destSet.getLsbD d.val = true → ((k.target d).map Extent.count).sum = (k.length + 511) / 512) →
        ∃ t k' j', exec .clipCommit s = .next t ∧ t.replyOut = some ⟨0x9A, f.tag, [0]⟩ ∧ t.clip c = some k' ∧ t.job k.job = some j' ∧
          k' = { k with sourceState := .queued, copies := k'.copies, sv := if j.sourceVerify then .waiting else .off } ∧
          (∀ d, k'.copy d = if j.destSet.getLsbD d.val then ⟨.pending, 0, false, .none⟩ else k.copy d) ∧
          j' = { j with order := j.order ++ [c], clearable := j'.clearable, attention := j'.attention } ∧
          (∀ i, i ≠ c → t.clip i = s.clip i) ∧ (∀ i, i ≠ k.job → t.job i = s.job i) ∧
          t.slots = s.slots ∧ t.dests = s.dests ∧ t.verifyQueue = s.verifyQueue ∧ t.mem = s.mem))

/-- CLIP_REVERIFY (R138) of a SUSPECT copy, or of a MISMATCH not caused by a changed card, on the recorded drive: the copy is FLUSHED, cause none, no
retry used, and one task joins the tail of the Verify Queue; a source in MISMATCH with its card bound is QUEUED likewise. CLIP_RECOPY
(R139) of a MISMATCH, FAILED or SUSPECT copy of a STAGED clip with its card bound, on the recorded drive, with none of its chunks still to
be written there: the copy is PENDING afresh, its destination is in the recopy set, the clip is on the recopy list once, and a DRAINED job
is READING. -/
def Obligations.ReverifyAndRecopy : Prop :=
  (∀ (s : State) (f : Frame) (rest : List Frame) (b0 b1 sel : Byte) (c : Nat) (k : Clip) (j : Job), s.Offers f rest → f.kind = 0x1E →
     f.payload = [b0, b1, sel] → c = b0.toNat + 256 * b1.toNat → s.clip c = some k → s.job k.job = some j → j.state ≠ .closing →
     (∀ d : Dest, d.val = sel.toNat → j.destSet.getLsbD d.val = true →
       ((k.copy d).state = .suspect ∨ ((k.copy d).state = .mismatch ∧ (k.copy d).cause ≠ .sourceChanged)) → (s.dest d).state = .online →
       ((s.dest d).identity ≠ j.destId d → exec .clipReverify s = .next (sendFrame ⟨0x9E, f.tag, [12]⟩ (s.taken f rest))) ∧
       ((s.dest d).identity = j.destId d → ∃ t, exec .clipReverify s = .next t ∧ t.replyOut = some ⟨0x9E, f.tag, [0]⟩ ∧
         t.verifyQueue = s.verifyQueue ++ [⟨c, .dest d, false⟩] ∧
         t.clip c = some (k.setCopy d ⟨.flushed, (k.copy d).written, false, .none⟩) ∧ (∀ i, i ≠ c → t.clip i = s.clip i) ∧
         (∀ j' ∈ t.job k.job, j'.state = j.state) ∧ t.dests = s.dests ∧ t.slots = s.slots)) ∧
     (sel.toNat = 4 → k.sv = .mismatch → j.binding ≠ none → ∃ t, exec .clipReverify s = .next t ∧
       t.replyOut = some ⟨0x9E, f.tag, [0]⟩ ∧ t.verifyQueue = s.verifyQueue ++ [⟨c, .source, false⟩] ∧
       t.clip c = some { k with sv := .queued } ∧ (∀ i, i ≠ c → t.clip i = s.clip i) ∧ t.dests = s.dests ∧ t.slots = s.slots)) ∧
  ∀ (s : State) (f : Frame) (rest : List Frame) (b0 b1 sel : Byte) (c : Nat) (k : Clip) (j : Job) (d : Dest), s.Offers f rest →
    f.kind = 0x1D → f.payload = [b0, b1, sel] → c = b0.toNat + 256 * b1.toNat → s.clip c = some k → s.job k.job = some j →
    j.state ≠ .closing → d.val = sel.toNat → j.destSet.getLsbD d.val = true → k.sourceState = .staged →
    ((k.copy d).state = .mismatch ∨ (k.copy d).state = .failed ∨ (k.copy d).state = .suspect) → j.binding ≠ none →
    (s.dest d).state = .online →
    ((s.dest d).identity ≠ j.destId d → exec .clipRecopy s = .next (sendFrame ⟨0x9D, f.tag, [12]⟩ (s.taken f rest))) ∧
    ((s.dest d).identity = j.destId d →
      ((∃ n ∈ (s.dest d).writeQueue, ∃ x ∈ s.slot n, x.clip = c) →
        exec .clipRecopy s = .next (sendFrame ⟨0x9D, f.tag, [6]⟩ (s.taken f rest))) ∧
      ((∀ n ∈ (s.dest d).writeQueue, ∀ x ∈ s.slot n, x.clip ≠ c) → (∀ n m a, (s.dest d).op = some (.write n m a) → ∀ x ∈ s.slot n, x.clip ≠ c) →
        ∃ t j', exec .clipRecopy s = .next t ∧ t.replyOut = some ⟨0x9D, f.tag, [0]⟩ ∧
          t.clip c = some { k.setCopy d ⟨.pending, 0, false, .none⟩ with recopySet := k.recopySet ||| BitVec.ofNat 4 (2 ^ d.val) } ∧
          t.job k.job = some j' ∧ j'.state = .reading ∧ j'.recopy = (if c ∈ j.recopy then j.recopy else j.recopy ++ [c]) ∧
          j'.order = j.order ∧ j'.cursor = j.cursor ∧ (∀ i, i ≠ c → t.clip i = s.clip i) ∧ (∀ i, i ≠ k.job → t.job i = s.job i) ∧
          t.slots = s.slots ∧ t.dests = s.dests ∧ t.verifyQueue = s.verifyQueue))

/-! ### Staging and source reading (R58, R65 to R85) -/

/-- A list maps clip-relative blocks in list order (R58): block k lies in the extent whose blocks are not all used by the blocks before k, at
its start plus k less the blocks before it; a request from there never leaves that extent and has at most 2048 blocks (R71, R106). -/
def Obligations.MappingFollowsTheExtents : Prop :=
  ∀ (before after : List Extent) (e : Extent) (k left : Nat),
    (before.map Extent.count).sum ≤ k → k < (before.map Extent.count).sum + e.count →
    (locate (before ++ e :: after) k).1 = e.start + (k - (before.map Extent.count).sum) ∧
    (requestRun (before ++ e :: after) k left).1 = e.start + (k - (before.map Extent.count).sum) ∧
    (requestRun (before ++ e :: after) k left).2 =
      min 2048 (min left ((before.map Extent.count).sum + e.count - k)) ∧
    e.start ≤ (requestRun (before ++ e :: after) k left).1 ∧
    (requestRun (before ++ e :: after) k left).1 + (requestRun (before ++ e :: after) k left).2 ≤ e.start + e.count ∧
    (0 < left → 0 < (requestRun (before ++ e :: after) k left).2)

/-- The waiting set is taken afresh from the start condition (R65), which is the seven items of R69, the next chunk being the one R70 chooses. -/
def Obligations.ReaderWaitsOnItsStartCondition : Prop :=
  ∀ (s : State) (p : Port), ((refresh s).reader p).waiting = startCondition s p ∧
    (startCondition s p = true ↔
      ∃ h j, ((s.port p).state = .bound ∧ (s.port p).job = some h ∧ s.job h = some j) ∧
        (j.state = .reading ∧ j.paused = false) ∧ (j.softHold = 0 ∧ j.hardHold = 0) ∧
        (∃ (c : Nat) (recopy : Bool),
          ((j.recopy.head? = some c ∧ recopy = true) ∨
            (j.recopy = [] ∧ recopy = false ∧
              ((∃ i < j.cursor, j.order[i]? = some c ∧ clipRead s c = false ∧ ∀ i' < i, ∀ c' ∈ j.order[i']?, clipRead s c' = true) ∨
                (j.order[j.cursor]? = some c ∧ ∀ i < j.cursor, ∀ c' ∈ j.order[i]?, clipRead s c' = true)))) ∧
          ∃ (d : Dest) (id : DestIdentity),
            (if recopy then ∃ k, s.clip c = some k ∧ k.recopySet.getLsbD d.val = true else j.destSet.getLsbD d.val = true) ∧
            (s.dest d).state = .online ∧ (s.dest d).identity = some id ∧ j.destId d = some id) ∧
        (s.slots.filter (fun e => decide (e.2.job = h))).length < j.quota ∧
        ((s.port p).request = none ∧ (s.reader p).chunk = none ∧ (s.reader p).segment = none))

/-- A grant (R66) gives the head of the free-slot list to the waiting reader that comes first after the last-granted pointer, which then
names its port. The slot is FILLING with the job's next chunk (R68, R70): from the checkpoint on, or from block 0 where the grant begins a
recopy pass and takes its members (R81). The chunk's first READ is sent (R71) and the turn is SEGMENT (R84). With no free slot, or no
reader waiting, nothing is granted. -/
def Obligations.GrantStartsTheNextChunk : Prop :=
  (∀ s : State, (s.freeSlots = [] ∨ ∀ p, (s.reader p).waiting = false) → exec .slotGrant s = .next s) ∧
  ∀ (s : State) (n : Nat) (rest : List Nat) (p : Port) (turns h c : Nat) (j : Job) (k : Clip) (recopy starts : Bool),
    s.resetLow = false → s.freeSlots = n :: rest →
    1 ≤ turns → turns ≤ 8 → p.val = (s.lastGranted.val + turns) % 8 → (s.reader p).waiting = true →
    (∀ i, 1 ≤ i → i < turns → ∀ q : Port, q.val = (s.lastGranted.val + i) % 8 → (s.reader q).waiting = false) →
    (s.port p).job = some h → s.job h = some j → s.clip c = some k →
    ((j.recopy.head? = some c ∧ recopy = true ∧ starts = false) ∨
      (j.recopy = [] ∧ recopy = false ∧
        ((starts = false ∧ ∃ i < j.cursor, j.order[i]? = some c ∧ clipRead s c = false ∧
            ∀ i' < i, ∀ c' ∈ j.order[i']?, clipRead s c' = true) ∨
          (starts = true ∧ j.order[j.cursor]? = some c ∧ ∀ i < j.cursor, ∀ c' ∈ j.order[i]?, clipRead s c' = true)))) →
    (s.port p).request = none → s.survey.any (fun v => decide (v.port = p)) = false →
    ∃ (k' : Clip) (count : Nat),
      k' = (if recopy = true ∧ k.passMembers = 0 then { k with nextBlock := 0, acc := ⟨1, 0⟩, passMembers := k.recopySet } else k) ∧
      count = min 8192 ((k.length + 511) / 512 - k'.nextBlock) ∧
      exec .slotGrant s =
        .next (refresh
          { s with
            freeSlots := rest
            slots := store s.slots n
              { staged := false, job := h, clip := c, first := k'.nextBlock, count := count, pending := 0, recopy := recopy, writing := 0 }
            clips := store s.clips c k'
            jobs := store s.jobs h { j with cursor := if starts then j.cursor + 1 else j.cursor }
            readers := s.readers.set p.val
              { s.reader p with
                chunk := some
                  { slot := n, clip := c, job := h, first := k'.nextBlock, count := count, done := 0, recopy := recopy, acc := k'.acc,
                    cancelled := false }
                retries := 0, turn := .segment }
            ports := s.ports.set p.val
              { s.port p with
                request := some
                  ⟨.read (requestRun k.source k'.nextBlock count).1 (requestRun k.source k'.nextBlock count).2, .chunk,
                    s.cfg.cardTimeoutMs, false⟩ }
            lastGranted := p })

/-- A READ of a chunk that completes OK with requests left (R71, R72, R91): its data stand in the slot at the position of their blocks and no
other byte of the staging memory changes, the bytes up to L are folded, the blocks are counted, the retry count is 0, and the next READ is
sent. A chunk read that an abort or the end of its recopy pass has cancelled ends as soon as its request is answered OK or its ERROR is
confirmed (R76, R82), in a state whose tables are keyed: its slot is free, its data are in neither the slot nor the accumulators, nothing is
staged and the checkpoint stays; an OK answer still counts its blocks (assumption log 12). That the model's clock moves by the waiting time given with the command, and that
data bytes beyond the list's end are 0, are the model's choices (assumption logs 3, 5). -/
def Obligations.ChunkReadFillsTheSlot : Prop :=
  (∀ (p : Port) (data : List Byte) (waitMs : Nat) (s : State) (start count ms : Nat) (c : ChunkRead) (k : Clip), s.resetLow = false →
    (s.port p).request = some ⟨.read start count, .chunk, ms, false⟩ → (s.reader p).chunk = some c → c.cancelled = false →
    s.clip c.clip = some k → c.done + count < c.count → s.survey.any (fun v => decide (v.port = p)) = false →
    ∃ (t : State) (base : Nat) (c' : ChunkRead), exec (.chunkRequestDone p data waitMs) s = .next t ∧
      base = c.slot * 4194304 + c.done * 512 ∧
      c' = { c with
        done := c.done + count
        acc := foldStream c.acc data (min (512 * (c.first + c.done + count)) k.length - 512 * (c.first + c.done)) } ∧
      t = { s with
        now := s.now + waitMs
        mem := t.mem
        readers := s.readers.set p.val
          { s.reader p with blocksRead := (s.reader p).blocksRead + BitVec.ofNat 64 count, retries := 0, chunk := some c' }
        ports := s.ports.set p.val
          { s.port p with
            request := some
              ⟨.read (requestRun k.source (c.first + c'.done) (c.count - c'.done)).1
                (requestRun k.source (c.first + c'.done) (c.count - c'.done)).2, .chunk, s.cfg.cardTimeoutMs, false⟩ } } ∧
      (∀ i < count * 512, Memory.read t.mem (base + i) = data.getD i 0) ∧
      ∀ a, a < base ∨ base + count * 512 ≤ a → Memory.read t.mem a = Memory.read s.mem a) ∧
  ∀ (i : Instr) (p : Port) (s : State) (r : CardRequest) (c : ChunkRead) (blocks : Nat), s.resetLow = false → s.TablesKeyed →
    (s.port p).request = some r → r.owner = .chunk → (s.reader p).chunk = some c → c.cancelled = true →
    ((∃ data waitMs start, i = .chunkRequestDone p data waitMs ∧ r.errorHeld = false ∧ r.ask = .read start blocks) ∨
      (i = .errorConfirm p ∧ r.errorHeld = true ∧ (s.port p).present = true ∧ blocks = 0)) →
    ∃ t, exec i s = .next t ∧ (t.reader p).chunk = none ∧
      (t.reader p).blocksRead = (s.reader p).blocksRead + BitVec.ofNat 64 blocks ∧
      t.slot c.slot = none ∧ t.freeSlots = s.freeSlots ++ [c.slot] ∧ (∀ n, n ≠ c.slot → t.slot n = s.slot n) ∧
      t.mem = s.mem ∧ t.dests = s.dests ∧
      ∀ n k', t.clip n = some k' → ∃ k, s.clip n = some k ∧ k' = { k with sv := k'.sv }

/-- The last READ of a chunk of a first read fills its place in the slot (R71), and no other byte of the staging memory changes, and stages
the chunk (R77, R78): the destinations of the job's set that are usable and whose copies are PENDING take the slot at the tail of their
write queues; PENDING copies on the others fail with cause DEST_LOST; with none left the slot is freed. The checkpoint advances, and the
clip is READING, or, at its end, STAGED with its source digest. The monitors see the backlogs that have risen (R77, R156, R159): one that is
below, whose backlog then exceeds its threshold outside the holdoff, is above, and in SOFT or HARD holds every job that was READING and uses
its destination, the chunk's own job too, whether or not this staging drains it. Data bytes beyond the list's end are 0, and the time into
the window is read from the model's clock (assumption logs 3, 5). -/
def Obligations.LastReadStagesTheChunk : Prop :=
  ∀ (p : Port) (data : List Byte) (waitMs : Nat) (s : State) (start count ms : Nat) (c : ChunkRead) (k : Clip) (j : Job) (x : Slot)
    (acc : Acc) (usable : Dest → Bool), s.resetLow = false →
    (s.port p).request = some ⟨.read start count, .chunk, ms, false⟩ → (s.reader p).chunk = some c → c.cancelled = false →
    c.recopy = false → c.count ≤ c.done + count → s.clip c.clip = some k → s.job c.job = some j → k.job = c.job → j.state ≠ .closing →
    s.slot c.slot = some x →
    acc = foldStream c.acc data (min (512 * (c.first + c.done + count)) k.length - 512 * (c.first + c.done)) →
    (∀ d, usable d = true ↔ (s.dest d).state = .online ∧ ∃ id, (s.dest d).identity = some id ∧ j.destId d = some id) →
    ∃ t k' pending, exec (.chunkRequestDone p data waitMs) s = .next t ∧ (t.reader p).chunk = none ∧ (t.port p).request = none ∧
      (t.reader p).blocksRead = (s.reader p).blocksRead + BitVec.ofNat 64 count ∧
      (∀ i < count * 512, Memory.read t.mem (c.slot * 4194304 + c.done * 512 + i) = data.getD i 0) ∧
      (∀ a, a < c.slot * 4194304 + c.done * 512 ∨ c.slot * 4194304 + (c.done + count) * 512 ≤ a →
        Memory.read t.mem a = Memory.read s.mem a) ∧
      (∀ d : Dest, pending.getLsbD d.val =
        (j.destSet.getLsbD d.val && usable d && decide ((k.copy d).state = .pending))) ∧
      t.clip c.clip = some k' ∧ k'.nextBlock = c.first + c.count ∧ k'.acc = acc ∧
      ((k.length + 511) / 512 ≤ c.first + c.count → k'.sourceState = .staged ∧ k'.digest = BitVec.ofNat 64 (acc.b * 2 ^ 32 + acc.a)) ∧
      (c.first + c.count < (k.length + 511) / 512 → k'.sourceState = .reading ∧ k'.digest = k.digest) ∧
      (∀ d : Dest, k'.copy d =
        if j.destSet.getLsbD d.val = true ∧ usable d = false ∧ (k.copy d).state = .pending then
          { k.copy d with state := .failed, cause := .destLost }
        else k.copy d) ∧
      (∀ d : Dest, j.destSet.getLsbD d.val = true → usable d = false → (k.copy d).state = .pending →
        t.Told (.copyState c.job c.clip (.copy d .failed) .destLost)) ∧
      (pending ≠ 0#4 → t.slot c.slot = some { x with staged := true, pending := pending } ∧ t.freeSlots = s.freeSlots ∧
        ∀ d : Dest, t.dest d =
          { s.dest d with
            writeQueue := if pending.getLsbD d.val then (s.dest d).writeQueue ++ [c.slot] else (s.dest d).writeQueue }) ∧
      (pending = 0#4 → t.slot c.slot = none ∧ t.freeSlots = s.freeSlots ++ [c.slot] ∧ t.dests = s.dests) ∧
      (∀ d : Dest, pending.getLsbD d.val = true → (s.monitor d).above = false →
        128 + 96 * (s.monitor d).level < backlog (s.dest d) + 1 → (s.monitor d).holdoff ≤ s.now + waitMs - s.windowStart →
        t.monitor d =
            { s.monitor d with above := true, tripped := (s.monitor d).tripped || decide ((s.monitor d).mode ≠ .off) } ∧
          ∀ h i, s.job h = some i → i.state = .reading → i.destSet.getLsbD d.val = true → ∃ i', t.job h = some i' ∧
            ((s.monitor d).mode = .soft → i'.softHold.getLsbD d.val = true) ∧
            ((s.monitor d).mode = .hard → i'.hardHold.getLsbD d.val = true)) ∧
      (∀ n, n ≠ c.slot → t.slot n = s.slot n) ∧ t.known = s.known ∧ t.cfg = s.cfg

/-- The last chunk of a recopy pass, with every destination of the recopy set usable, ends the pass (R83): the new digest is compared with the
stored one, which is kept; where they differ each member still PENDING gets cause SOURCE_CHANGED; the members leave the recopy set, and the
clip leaves the recopy list once the set is empty. The last READ of any chunk fills its place in the slot (R71) and no other byte of the
staging memory changes. At the staging of any chunk of a pass (R77, R82) each destination of the recopy set that is not usable and whose
copy is PENDING leaves the set and the pass, its copy FAILED with cause DEST_LOST; where the pass has then lost its last member nothing is
staged, the slot is free and the checkpoint stays (assumption log 25); otherwise the members left to write take the slot and the checkpoint
moves on. Data bytes beyond the list's end are 0 (assumption log 5). -/
def Obligations.RecopyPassComparesDigests : Prop :=
  (∀ (p : Port) (data : List Byte) (waitMs : Nat) (s : State) (start count ms : Nat) (c : ChunkRead) (k : Clip) (j : Job) (acc : Acc),
    s.resetLow = false → (s.port p).request = some ⟨.read start count, .chunk, ms, false⟩ → (s.reader p).chunk = some c →
    c.cancelled = false → c.recopy = true → c.count ≤ c.done + count → s.clip c.clip = some k → s.job c.job = some j → k.job = c.job →
    j.state ≠ .closing → k.passMembers ≠ 0 → (k.length + 511) / 512 ≤ c.first + c.count →
    acc = foldStream c.acc data (min (512 * (c.first + c.done + count)) k.length - 512 * (c.first + c.done)) →
    (∀ d : Dest, k.recopySet.getLsbD d.val = true →
      (s.dest d).state = .online ∧ ∃ id, (s.dest d).identity = some id ∧ j.destId d = some id) →
    ∃ t k' j', exec (.chunkRequestDone p data waitMs) s = .next t ∧ t.clip c.clip = some k' ∧ t.job c.job = some j' ∧
      (∀ i < count * 512, Memory.read t.mem (c.slot * 4194304 + c.done * 512 + i) = data.getD i 0) ∧
      (∀ a, a < c.slot * 4194304 + c.done * 512 ∨ c.slot * 4194304 + (c.done + count) * 512 ≤ a →
        Memory.read t.mem a = Memory.read s.mem a) ∧
      k'.digest = k.digest ∧ k'.sourceState = k.sourceState ∧ k'.passMembers = 0 ∧
      (∀ d : Dest, k'.recopySet.getLsbD d.val = (k.recopySet.getLsbD d.val && !k.passMembers.getLsbD d.val)) ∧
      (BitVec.ofNat 64 (acc.b * 2 ^ 32 + acc.a) = k.digest → k'.copies = k.copies) ∧
      (BitVec.ofNat 64 (acc.b * 2 ^ 32 + acc.a) ≠ k.digest → ∀ d : Dest, k'.copy d =
        if k.passMembers.getLsbD d.val = true ∧ (k.copy d).state = .pending then { k.copy d with cause := .sourceChanged } else k.copy d) ∧
      j'.recopy = (if k'.recopySet = 0 then j.recopy.filter (fun i => decide (i ≠ c.clip)) else j.recopy) ∧
      ∀ d : Dest, (t.dest d).writeQueue =
        if k.recopySet.getLsbD d.val = true ∧ k.passMembers.getLsbD d.val = true ∧ (k.copy d).state = .pending then
          (s.dest d).writeQueue ++ [c.slot]
        else (s.dest d).writeQueue) ∧
  ∀ (p : Port) (data : List Byte) (waitMs : Nat) (s : State) (start count ms : Nat) (c : ChunkRead) (k : Clip) (j : Job) (x : Slot)
    (acc : Acc) (usable lost : Dest → Bool), s.resetLow = false →
    (s.port p).request = some ⟨.read start count, .chunk, ms, false⟩ → (s.reader p).chunk = some c → c.cancelled = false →
    c.recopy = true → c.count ≤ c.done + count → s.clip c.clip = some k → s.job c.job = some j → k.job = c.job → j.state ≠ .closing →
    s.slot c.slot = some x → k.passMembers ≠ 0 →
    acc = foldStream c.acc data (min (512 * (c.first + c.done + count)) k.length - 512 * (c.first + c.done)) →
    (∀ d, usable d = true ↔ (s.dest d).state = .online ∧ ∃ id, (s.dest d).identity = some id ∧ j.destId d = some id) →
    (∀ d, lost d = (k.recopySet.getLsbD d.val && !usable d && decide ((k.copy d).state = .pending))) →
    ∃ t k', exec (.chunkRequestDone p data waitMs) s = .next t ∧ t.clip c.clip = some k' ∧ k'.digest = k.digest ∧
      k'.sourceState = k.sourceState ∧ (t.reader p).chunk = none ∧
      (∀ i < count * 512, Memory.read t.mem (c.slot * 4194304 + c.done * 512 + i) = data.getD i 0) ∧
      (∀ a, a < c.slot * 4194304 + c.done * 512 ∨ c.slot * 4194304 + (c.done + count) * 512 ≤ a →
        Memory.read t.mem a = Memory.read s.mem a) ∧
      (∀ d, lost d = true → k'.copy d = { k.copy d with state := .failed, cause := .destLost } ∧
        k'.recopySet.getLsbD d.val = false ∧ k'.passMembers.getLsbD d.val = false ∧
        t.Told (.copyState c.job c.clip (.copy d .failed) .destLost)) ∧
      ((∀ d, k.passMembers.getLsbD d.val = true → lost d = true) →
        t.slot c.slot = none ∧ t.freeSlots = s.freeSlots ++ [c.slot] ∧ t.dests = s.dests ∧ k'.nextBlock = k.nextBlock ∧ k'.acc = k.acc ∧
          k'.passMembers = 0 ∧ ∀ d, lost d = false → k'.copy d = k.copy d ∧ k'.recopySet.getLsbD d.val = k.recopySet.getLsbD d.val) ∧
      ((∃ d, k.passMembers.getLsbD d.val = true ∧ lost d = false) → k'.nextBlock = c.first + c.count ∧ k'.acc = acc ∧
        ∃ pending : DestSet,
          (∀ d : Dest, pending.getLsbD d.val =
            (k.recopySet.getLsbD d.val && usable d && decide ((k.copy d).state = .pending) && k.passMembers.getLsbD d.val)) ∧
          (c.first + c.count < (k.length + 511) / 512 → ∀ d, lost d = false → k'.copy d = k.copy d ∧
            k'.recopySet.getLsbD d.val = k.recopySet.getLsbD d.val ∧ k'.passMembers.getLsbD d.val = k.passMembers.getLsbD d.val) ∧
          (pending ≠ 0 → t.slot c.slot = some { x with staged := true, pending := pending } ∧ t.freeSlots = s.freeSlots ∧
            ∀ d : Dest, (t.dest d).writeQueue =
              if pending.getLsbD d.val then (s.dest d).writeQueue ++ [c.slot] else (s.dest d).writeQueue) ∧
          (pending = 0 → t.slot c.slot = none ∧ t.freeSlots = s.freeSlots ++ [c.slot] ∧ t.dests = s.dests))

/-- Source-verify segments (R84, R85, R91, R126, R128): with no card read in flight and the job not paused, the oldest waiting segment starts
at its engine's next block, unless the reader waits and the turn is CHUNK; a start sets the turn to CHUNK. At a port that has just become
free the reader's joining and this decision come in either order: with the command's operand true the decision comes first, and the reader
does not count as waiting; just become free means busy until the last event at whose end the waiting set was taken afresh (assumption log
28). A READ that completes OK with blocks left is folded into the engine's accumulators and the next READ is sent; blocks read are not
counted. -/
def Obligations.SourceSegmentsShareThePort : Prop :=
  (∀ (s : State) (p : Port),
    (refresh s).use p =
      if (s.port p).request = none ∧ (s.reader p).chunk = none ∧ (s.reader p).segment = none then
        (if s.use p = .busy then .freed else .idle)
      else .busy) ∧
  (∀ (p : Port) (first : Bool) (s : State) (e : EngineIx) (rest : List EngineIx) (task : Task) (h : Nat) (k : Clip), s.resetLow = false →
    (s.reader p).segWaiting = e :: rest → (s.engine e).task = some (task, h) → s.clip task.clip = some k →
    (((s.reader p).waiting = true ∧ (s.reader p).turn = .chunk ∧ ¬(first = true ∧ s.use p = .freed)) ∨ (s.port p).request ≠ none ∨ (s.reader p).chunk ≠ none ∨
        (s.reader p).segment ≠ none ∨ (∃ j, s.job h = some j ∧ j.paused = true) →
      exec (.sourceSegmentStart ⟨p, first⟩) s = .next s) ∧
    (((s.reader p).waiting = true → (s.reader p).turn = .chunk → first = true ∧ s.use p = .freed) → (s.port p).request = none → (s.reader p).chunk = none →
      (s.reader p).segment = none → (∀ j ∈ s.job h, j.paused = false) → s.survey.any (fun v => decide (v.port = p)) = false →
      ∃ count, count = min 8192 ((k.length + 511) / 512 - (s.engine e).next) ∧
        exec (.sourceSegmentStart ⟨p, first⟩) s =
          .next (refresh
            { s with
              engines := s.engines.set e.val { s.engine e with seg := .inFlight }
              readers := s.readers.set p.val
                { s.reader p with
                  segment := some ⟨e, (s.engine e).next, count, 0, false⟩, segWaiting := rest, turn := .chunk, retries := 0 }
              ports := s.ports.set p.val
                { s.port p with
                  request := some
                    ⟨.read (requestRun k.source (s.engine e).next count).1 (requestRun k.source (s.engine e).next count).2, .segment,
                      s.cfg.cardTimeoutMs, false⟩ } }))) ∧
  ∀ (p : Port) (data : List Byte) (s : State) (start count ms : Nat) (g : Segment) (task : Task) (h : Nat) (k : Clip) (acc : Acc),
    s.resetLow = false → (s.port p).request = some ⟨.read start count, .segment, ms, false⟩ → (s.reader p).segment = some g →
    g.cancelled = false → g.done + count < g.count → (s.engine g.engine).task = some (task, h) → s.clip task.clip = some k →
    (s.engine g.engine).acc = some acc → (s.reader p).chunk = none → s.survey.any (fun v => decide (v.port = p)) = false →
    exec (.sourceSegmentRequestDone p data) s =
      .next
        { s with
          engines := s.engines.set g.engine.val
            { s.engine g.engine with
              acc := some (foldStream acc data (min (512 * (g.first + g.done + count)) k.length - 512 * (g.first + g.done))) }
          readers := s.readers.set p.val { s.reader p with segment := some { g with done := g.done + count }, retries := 0 }
          ports := s.ports.set p.val
            { s.port p with
              request := some
                ⟨.read (requestRun k.source (g.first + (g.done + count)) (g.count - (g.done + count))).1
                  (requestRun k.source (g.first + (g.done + count)) (g.count - (g.done + count))).2, .segment, s.cfg.cardTimeoutMs,
                  false⟩ } }

/-! ### Destination ports (R96 to R119) -/

/-- The link and the identification (R97, R98, R99, R103): a link that comes up sends IDENTIFY once the link is free; an identity that can be
held makes the port IDENTIFIED, any other answer, an ERROR or a timeout makes it FAILED; a link that goes down, but from ONLINE, leaves
the port ABSENT. Each change tells DEST_STATE with its reason. That a link event which the link already shows changes nothing is the
model's choice (assumption log 1). -/
def Obligations.DestinationLinkAndIdentity : Prop :=
  ∀ (d : Dest) (s : State), s.resetLow = false →
    ((s.dest d).linkUp = false →
      exec (.destLinkDown d) s = .next s ∧
      exec (.destLinkUp d) s =
        .next (notify (.destState d .identifying .linkUp) (setDest s d
          { s.dest d with
            linkUp := true, state := .identifying, identity := none
            request := match (s.dest d).request with
              | some r => some r
              | none => some ⟨.identify, false, s.cfg.destTimeoutMs, false⟩ }))) ∧
    ((s.dest d).linkUp = true →
      exec (.destLinkUp d) s = .next s ∧
      ((s.dest d).state ≠ .online →
        exec (.destLinkDown d) s =
          .next (notify (.destState d .absent .linkDown) (setDest s d
            { s.dest d with linkUp := false, request := none, identity := none, state := .absent })))) ∧
    ∀ ms again, (s.dest d).state = .identifying → (s.dest d).identity = none → (s.dest d).request = some ⟨.identify, false, ms, again⟩ →
      (∀ id : DestIdentity, 1 ≤ id.capacity → id.capacity ≤ 2 ^ 40 → id.serial.length ≤ 20 →
        exec (.destIdentifyAnswer d (some id)) s =
          .next (notify (.destState d .identified .identifyOk) (setDest s d
            { s.dest d with request := none, identity := some id, state := .identified }))) ∧
      (∀ answer : Option DestIdentity, (∀ id ∈ answer, id.capacity = 0 ∨ 2 ^ 40 < id.capacity ∨ 20 < id.serial.length) →
        exec (.destIdentifyAnswer d answer) s =
          .next (notify (.destState d .failed .identifyFailed) (setDest s d { s.dest d with request := none, state := .failed }))) ∧
      exec (.destRequestTimeout d) s =
        .next (notify (.destState d .failed .identifyFailed) (setDest s d
          { s.dest d with request := none, state := .failed, timeout := true }))

/-- DEST_ATTACH and DEST_DETACH (R100, R101, R102): the checks in order; an IDENTIFIED port goes ONLINE with its counts 0, its queues empty and its
monitor below, a FAILED one identifies its drive again; a detach without force needs no live job that uses the destination and keeps the
identity; a detach with force runs the loss procedure. -/
def Obligations.AttachAndDetach : Prop :=
  ∀ (s : State) (f : Frame) (rest : List Frame) (b : Byte), s.Offers f rest →
    (f.kind = 0x20 → f.payload = [b] → 4 ≤ b.toNat → exec .destAttach s = .next (sendFrame ⟨0xA0, f.tag, [4]⟩ (s.taken f rest))) ∧
    (∀ force, f.kind = 0x21 → f.payload = [b, force] → 4 ≤ b.toNat →
      exec .destDetach s = .next (sendFrame ⟨0xA1, f.tag, [4]⟩ (s.taken f rest))) ∧
    ∀ d : Dest, d.val = b.toNat →
      (f.kind = 0x20 → f.payload = [b] →
        (((s.dest d).state = .absent ∨ (s.dest d).state = .identifying ∨ (s.dest d).state = .online) →
          exec .destAttach s = .next (sendFrame ⟨0xA0, f.tag, [5]⟩ (s.taken f rest))) ∧
        ((s.dest d).state = .failed →
          exec .destAttach s =
            .next (sendFrame ⟨0xA0, f.tag, [0]⟩ (notify (.destState d .identifying .reidentify) (setDest (s.taken f rest) d
              { s.dest d with
                state := .identifying, identity := none
                request := match (s.dest d).request with
                  | some r => some r
                  | none => some ⟨.identify, false, s.cfg.destTimeoutMs, false⟩ })))) ∧
        ((s.dest d).state = .identified → (s.dest d).op = none →
          exec .destAttach s =
            .next (sendFrame ⟨0xA0, f.tag, [0]⟩ (refresh (notify (.destState d .online .attached)
              (setMonitor
                (setDest (s.taken f rest) d
                  { s.dest d with
                    state := .online, blocksWritten := 0, writeCount := 0, writeQueue := [], awaiting := [], segWaiting := [] })
                d { s.monitor d with above := false })))))) ∧
      ∀ force : Byte, f.kind = 0x21 → f.payload = [b, force] →
        (1 < force.toNat → exec .destDetach s = .next (sendFrame ⟨0xA1, f.tag, [8]⟩ (s.taken f rest))) ∧
        (force.toNat ≤ 1 → (s.dest d).state ≠ .online → exec .destDetach s = .next (sendFrame ⟨0xA1, f.tag, [5]⟩ (s.taken f rest))) ∧
        ((s.dest d).state = .online →
          (force.toNat = 0 → (∃ e ∈ s.jobs, e.2.destSet.getLsbD d.val = true) →
            exec .destDetach s = .next (sendFrame ⟨0xA1, f.tag, [6]⟩ (s.taken f rest))) ∧
          (force.toNat = 0 → (∀ e ∈ s.jobs, e.2.destSet.getLsbD d.val = false) →
            exec .destDetach s =
              .next (sendFrame ⟨0xA1, f.tag, [0]⟩ (refresh (notify (.destState d .identified .detached)
                (setDest (s.taken f rest) d { s.dest d with state := .identified }))))) ∧
          (force.toNat = 1 →
            exec .destDetach s = .next (sendFrame ⟨0xA1, f.tag, [0]⟩ (loseDest d .identified .forcedDetach (s.taken f rest)))))

/-- The loss procedure (R117, R118, R119) withdraws the drive from all work: the port's own work ends and its request is abandoned if the link is
up; no STAGED slot waits for it, and slots left with nothing to wait for are free; unproven copies on it fail with cause DEST_LOST and
verified ones are SUSPECT, for every live job that recorded this drive; its tasks and its holds are gone and its monitor is below. It runs
when the link of an ONLINE port goes down. -/
def Obligations.LossWithdrawsTheDrive : Prop :=
  (∀ (d : Dest) (s : State), s.resetLow = false → (s.dest d).linkUp = true → (s.dest d).state = .online → ∃ t,
    t = loseDest d .absent .linkDown (setDest s d { s.dest d with linkUp := false, request := none }) ∧
    exec (.destLinkDown d) s = .next (setDest t d { t.dest d with identity := none })) ∧
  ∀ (d : Dest) (st : DestState) (reason : DestReason) (s t : State), s.TablesKeyed → t = loseDest d st reason s →
    (t.dest d =
      { s.dest d with
        state := st, op := none, writeQueue := [], awaiting := [], segWaiting := [], writeCount := 0
        request := if (s.dest d).linkUp then (s.dest d).request.map (fun r => { r with abandoned := true }) else none }) ∧
    (∀ e, e ≠ d → t.dest e = s.dest e) ∧
    (∀ n x, s.slot n = some x → x.staged = false → t.slot n = some x) ∧
    (∀ n x, s.slot n = some x → x.staged = true →
      t.slot n =
        if x.pending &&& ~~~BitVec.ofNat 4 (2 ^ d.val) = 0 ∧ x.writing &&& ~~~BitVec.ofNat 4 (2 ^ d.val) = 0 then none
        else some
          { x with
            pending := x.pending &&& ~~~BitVec.ofNat 4 (2 ^ d.val), writing := x.writing &&& ~~~BitVec.ofNat 4 (2 ^ d.val) }) ∧
    (∀ c k k', s.clip c = some k → t.clip c = some k' →
      (∀ e, e ≠ d → k'.copy e = k.copy e) ∧ k'.sourceState = k.sourceState ∧
      ((∃ j id, s.job k.job = some j ∧ j.destSet.getLsbD d.val = true ∧ (s.dest d).identity = some id ∧ j.destId d = some id) →
        k'.copy d = match (k.copy d).state with
          | .pending | .written | .flushed | .verifying => { k.copy d with state := .failed, cause := .destLost }
          | .verified => { k.copy d with state := .suspect }
          | _ => k.copy d) ∧
      ((∀ j id, s.job k.job = some j → j.destSet.getLsbD d.val = true → (s.dest d).identity = some id → j.destId d ≠ some id) →
        k'.copy d = k.copy d)) ∧
    t.Told (.destState d st reason) ∧
    (∃ more, t.verifyQueue = s.verifyQueue.filter (fun u => decide (u.target ≠ .dest d)) ++ more ∧ ∀ u ∈ more, u.target = .source) ∧
    (∀ e, ((∃ u h, (s.engine e).task = some (u, h) ∧ u.target = .dest d) → t.engine e = ⟨none, 0, none, .none⟩) ∧
      ((∀ u h, (s.engine e).task = some (u, h) → u.target ≠ .dest d) → t.engine e = s.engine e)) ∧
    (∀ h j, t.job h = some j → j.softHold.getLsbD d.val = false ∧ j.hardHold.getLsbD d.val = false) ∧
    t.monitor d = { s.monitor d with above := false } ∧ (∀ e, e ≠ d → t.monitor e = s.monitor e) ∧
    t.mem = s.mem ∧ t.known = s.known ∧ t.cfg = s.cfg ∧ t.ports.map CardPort.state = s.ports.map CardPort.state

/-- Bridge requests (R96, R97, R108, R113, R115): the first ERROR, or timeout, of a WRITE, FLUSH or READ sets its flags and the request is sent again
at once; a FLUSH or a WRITE that fails again fails the port, with the loss procedure, and a WRITE its copy with cause WRITE_ERROR; a READ
that fails again fails its copy with cause READ_ERROR and the port stays ONLINE; the end of an abandoned request sets no flag and lets
the operation's request go out. -/
def Obligations.DestinationErrorsResentOnce : Prop :=
  ∀ (d : Dest) (s : State) (ms : Nat), s.resetLow = false →
    (∀ n m a b, (s.dest d).op = some (.write n m false) → (s.dest d).request = some ⟨.write a b, false, ms, false⟩ →
      exec (.destWriteError d) s =
        .next (setDest s d { s.dest d with writeErr := true, request := some ⟨.write a b, false, s.cfg.destTimeoutMs, true⟩ }) ∧
      exec (.destRequestTimeout d) s =
        .next (setDest s d
          { s.dest d with writeErr := true, timeout := true, request := some ⟨.write a b, false, s.cfg.destTimeoutMs, true⟩ })) ∧
    (∀ clips, (s.dest d).op = some (.flush clips) → (s.dest d).request = some ⟨.flush, false, ms, false⟩ →
      exec (.destFlushError d) s =
        .next (setDest s d { s.dest d with writeErr := true, request := some ⟨.flush, false, s.cfg.destTimeoutMs, true⟩ }) ∧
      exec (.destRequestTimeout d) s =
        .next (setDest s d
          { s.dest d with writeErr := true, timeout := true, request := some ⟨.flush, false, s.cfg.destTimeoutMs, true⟩ })) ∧
    (∀ g a b, (s.dest d).op = some (.segment g) → g.cancelled = false → (s.dest d).request = some ⟨.read a b, false, ms, false⟩ →
      exec (.destReadError d) s =
        .next (setDest s d { s.dest d with readErr := true, request := some ⟨.read a b, false, s.cfg.destTimeoutMs, true⟩ }) ∧
      exec (.destRequestTimeout d) s =
        .next (setDest s d
          { s.dest d with readErr := true, timeout := true, request := some ⟨.read a b, false, s.cfg.destTimeoutMs, true⟩ })) ∧
    (∀ clips, (s.dest d).op = some (.flush clips) → (s.dest d).request = some ⟨.flush, false, ms, true⟩ →
      exec (.destFlushError d) s =
        .next (loseDest d .failed .flushFailed (setDest s d { s.dest d with op := none, request := none, writeErr := true }))) ∧
    (∀ n m a b x k j, (s.dest d).op = some (.write n m false) → (s.dest d).request = some ⟨.write a b, false, ms, true⟩ →
      s.TablesKeyed → s.slot n = some x → s.clip x.clip = some k → s.job k.job = some j → j.state ≠ .closing →
      ∃ t k', exec (.destWriteError d) s = .next t ∧ (t.dest d).state = .failed ∧ (t.dest d).op = none ∧ (t.dest d).request = none ∧
        (t.dest d).writeErr = true ∧ (t.dest d).writeQueue = [] ∧ t.Told (.destState d .failed .writeFailed) ∧ t.clip x.clip = some k' ∧
        ((k.copy d).state = .pending → (k'.copy d).state = .failed ∧ (k'.copy d).cause = .writeError ∧
          t.Told (.copyState k.job x.clip (.copy d .failed) .writeError))) ∧
    (∀ g a b task h k j, (s.dest d).op = some (.segment g) → g.cancelled = false → (s.dest d).request = some ⟨.read a b, false, ms, true⟩ →
      (s.engine g.engine).task = some (task, h) → task.target = .dest d → s.clip task.clip = some k → s.job h = some j → h = k.job →
      j.state ≠ .closing →
      ∃ t k', exec (.destReadError d) s = .next t ∧ t.dest d = { s.dest d with op := none, request := none, readErr := true } ∧
        t.engine g.engine = ⟨none, 0, none, .none⟩ ∧ t.clip task.clip = some k' ∧
        k'.copy d = { k.copy d with state := .failed, cause := .readError } ∧ (∀ e, e ≠ d → k'.copy e = k.copy e) ∧
        t.Told (.copyState k.job task.clip (.copy d .failed) .readError) ∧
        ∃ more, t.verifyQueue = s.verifyQueue ++ more ∧ ∀ u ∈ more, u.target = .source) ∧
    ∀ r, (s.dest d).request = some r → r.abandoned = true →
      exec (.destRequestTimeout d) s = exec (.bridgeAbandonedAnswer d) s ∧
      ((s.dest d).state = .identifying →
        exec (.bridgeAbandonedAnswer d) s =
          .next (setDest s d { s.dest d with request := some ⟨.identify, false, s.cfg.destTimeoutMs, false⟩ })) ∧
      ((s.dest d).state ≠ .identifying → ((s.dest d).state = .online → (s.dest d).op = none) →
        exec (.bridgeAbandonedAnswer d) s = .next (setDest s d { s.dest d with request := none })) ∧
      ∀ n m x k, (s.dest d).state = .online → (s.dest d).op = some (.write n m false) → s.slot n = some x → s.clip x.clip = some k →
        exec (.bridgeAbandonedAnswer d) s =
          .next (setDest s d
            { s.dest d with
              request := some
                ⟨.write (requestRun (k.target d) (x.first + m) (x.count - m)).1 (requestRun (k.target d) (x.first + m) (x.count - m)).2,
                  false, s.cfg.destTimeoutMs, false⟩ })

/-- An idle ONLINE port decides (R106, R111, R116): a flush that is due starts with every copy on the list; else the head slot is written, or the
oldest waiting segment is read, a segment going first once verify_share writes in a row have started. A port that is not ONLINE or not
idle, or has nothing waiting, starts nothing. -/
def Obligations.ArbiterDecidesByItsTable : Prop :=
  ∀ (d : Dest) (s : State), s.resetLow = false →
    (((s.dest d).state ≠ .online ∨ (s.dest d).op ≠ none ∨
        ((s.dest d).writeQueue = [] ∧ (s.dest d).awaiting = [] ∧ (s.dest d).segWaiting = [])) →
      exec (.destArbiterDecide d) s = .next s) ∧
    ((s.dest d).state = .online → (s.dest d).op = none → (s.dest d).awaiting ≠ [] →
      ((s.dest d).writeQueue = [] ∨ s.cfg.flushBatch ≤ (s.dest d).awaiting.length) →
      exec (.destArbiterDecide d) s =
        .next (setDest s d
          { s.dest d with
            op := some (.flush (s.dest d).awaiting), awaiting := []
            request := match (s.dest d).request with
              | some r => some r
              | none => some ⟨.flush, false, s.cfg.destTimeoutMs, false⟩ })) ∧
    ((s.dest d).state = .online → (s.dest d).op = none → (s.dest d).request = none →
      ((s.dest d).awaiting = [] ∨ ((s.dest d).writeQueue ≠ [] ∧ (s.dest d).awaiting.length < s.cfg.flushBatch)) →
      (∀ n rest x k, (s.dest d).writeQueue = n :: rest → s.slot n = some x → s.clip x.clip = some k →
        ((s.dest d).segWaiting = [] ∨ (s.dest d).writeCount < s.cfg.verifyShare) →
        exec (.destArbiterDecide d) s =
          .next
            { s with
              slots := store s.slots n { x with writing := x.writing ||| BitVec.ofNat 4 (2 ^ d.val) }
              dests := s.dests.set d.val
                { s.dest d with
                  op := some (.write n 0 false), writeQueue := rest, writeCount := min 16 ((s.dest d).writeCount + 1)
                  request := some
                    ⟨.write (requestRun (k.target d) x.first x.count).1 (requestRun (k.target d) x.first x.count).2, false,
                      s.cfg.destTimeoutMs, false⟩ } }) ∧
      ∀ e rest task h k, (s.dest d).segWaiting = e :: rest → (s.engine e).task = some (task, h) → s.clip task.clip = some k →
        ((s.dest d).writeQueue = [] ∨ s.cfg.verifyShare ≤ (s.dest d).writeCount) →
        ∃ count, count = min 8192 ((k.length + 511) / 512 - (s.engine e).next) ∧
          exec (.destArbiterDecide d) s =
            .next
              { s with
                engines := s.engines.set e.val { s.engine e with seg := .inFlight }
                dests := s.dests.set d.val
                  { s.dest d with
                    op := some (.segment ⟨e, (s.engine e).next, count, 0, false⟩), segWaiting := rest, writeCount := 0
                    request := some
                      ⟨.read (requestRun (k.target d) (s.engine e).next count).1 (requestRun (k.target d) (s.engine e).next count).2,
                        false, s.cfg.destTimeoutMs, false⟩ } })

/-- A WRITE that completes OK (R107, R109): its blocks are counted, and the next WRITE of the chunk is sent; at the last one the copy counts a
chunk more, and at its clip's chunk count is WRITTEN on the awaiting-flush list, or MISMATCH if the card had changed; a slot with nobody
left to write it is free. The end of an aborted job's write changes no copy. A FLUSH that completes OK (R112) makes the covered copies that
are still WRITTEN FLUSHED, each with one verify task, in the order covered. -/
def Obligations.WritesAndFlushesComplete : Prop :=
  (∀ (d : Dest) (s : State) (n m a b ms : Nat) (again : Bool) (x : Slot) (k : Clip), s.resetLow = false → s.TablesKeyed →
    (s.dest d).request = some ⟨.write a b, false, ms, again⟩ → s.slot n = some x → s.clip x.clip = some k →
    ((s.dest d).op = some (.write n m false) → (s.dest d).state = .online → m + b < x.count →
      exec (.destWriteOk d) s =
        .next (setDest s d
          { s.dest d with
            op := some (.write n (m + b) false), blocksWritten := (s.dest d).blocksWritten + BitVec.ofNat 64 b
            request := some
              ⟨.write (requestRun (k.target d) (x.first + (m + b)) (x.count - (m + b))).1
                (requestRun (k.target d) (x.first + (m + b)) (x.count - (m + b))).2, false, s.cfg.destTimeoutMs, false⟩ })) ∧
    ((s.dest d).op = some (.write n m false) → x.count ≤ m + b → x.staged = true →
      ∃ (t : State) (chunks : Nat), exec (.destWriteOk d) s = .next t ∧ chunks = ((k.length + 511) / 512 + 8191) / 8192 ∧
        t.dest d =
          { s.dest d with
            op := none, request := none, blocksWritten := (s.dest d).blocksWritten + BitVec.ofNat 64 b
            awaiting :=
              if (k.copy d).state = .pending ∧ chunks ≤ (k.copy d).written + 1 ∧ (k.copy d).cause ≠ .sourceChanged then
                (s.dest d).awaiting ++ [x.clip]
              else (s.dest d).awaiting } ∧
        (∀ k' ∈ t.clip x.clip, (∀ e, e ≠ d → k'.copy e = k.copy e) ∧
          k'.copy d =
            if (k.copy d).state = .pending then
              if (k.copy d).written + 1 < chunks then { k.copy d with written := (k.copy d).written + 1 }
              else if (k.copy d).cause = .sourceChanged then
                { k.copy d with written := (k.copy d).written + 1, state := .mismatch }
              else { k.copy d with written := (k.copy d).written + 1, state := .written }
            else k.copy d) ∧
        t.slot n =
          (if x.pending &&& ~~~BitVec.ofNat 4 (2 ^ d.val) = 0 ∧ x.writing &&& ~~~BitVec.ofNat 4 (2 ^ d.val) = 0 then none
           else some
            { x with
              pending := x.pending &&& ~~~BitVec.ofNat 4 (2 ^ d.val), writing := x.writing &&& ~~~BitVec.ofNat 4 (2 ^ d.val) }) ∧
        (∀ i, i ≠ n → t.slot i = s.slot i) ∧ ∀ e, e ≠ d → t.dest e = s.dest e) ∧
    ((s.dest d).op = some (.write n m true) → ∃ t, exec (.destWriteOk d) s = .next t ∧
      t.dest d = { s.dest d with op := none, request := none, blocksWritten := (s.dest d).blocksWritten + BitVec.ofNat 64 b } ∧
      (∀ i k', t.clip i = some k' → (s.clip i).map Clip.copies = some k'.copies) ∧
      (x.staged = true → x.pending = 0 → x.writing &&& ~~~BitVec.ofNat 4 (2 ^ d.val) = 0 → t.slot n = none))) ∧
  ∀ (d : Dest) (s : State) (clips : List Nat) (ms : Nat) (again : Bool), s.resetLow = false → s.TablesKeyed →
    (s.dest d).op = some (.flush clips) → (s.dest d).request = some ⟨.flush, false, ms, again⟩ → clips.Nodup →
    ∃ t more, exec (.destFlushOk d) s = .next t ∧ t.dest d = { s.dest d with op := none, request := none } ∧
      t.verifyQueue =
        s.verifyQueue ++
          (clips.filter (fun c => (s.clip c).any (fun k => decide ((k.copy d).state = .written)))).map (fun c => ⟨c, .dest d, false⟩) ++
          more ∧
      (∀ u ∈ more, u.target = .source) ∧
      (∀ c k k', s.clip c = some k → t.clip c = some k' →
        (∀ e, e ≠ d → k'.copy e = k.copy e) ∧
        k'.copy d = if c ∈ clips ∧ (k.copy d).state = .written then { k.copy d with state := .flushed } else k.copy d) ∧
      (∀ e, e ≠ d → t.dest e = s.dest e) ∧ t.slots = s.slots

/-! ### The digest and verification (R87 to R94, R114, R121 to R140) -/

/-- The digest (R87 to R90, R92). After n words with residues a1 to an, A is 1 + a1 + ... + an and B is n + n a1 + (n - 1) a2 + ... + an, both
modulo P = 2^32 - 5. Words are four bytes, the first least significant, and a last short word is completed with zeros; a computation
stopped after whole words and resumed gives what one pass gives; the digest holds B in its upper 32 bits and A in its lower.
The data of an answer are folded up to a number of bytes; that those beyond the end of its list are 0 is the model's choice (assumption
log 5). -/
def Obligations.DigestHasClosedFormAndResumes : Prop :=
  (∀ words : List Nat, (∀ w ∈ words, w < 2 ^ 32) → ∃ acc : Acc, acc = words.foldl foldWord ⟨1, 0⟩ ∧
     (∀ w ∈ words, residue w = w % 4294967291) ∧
     acc.a = (1 + (words.map (fun w => w % 4294967291)).sum) % 4294967291 ∧
     acc.b = (words.length +
       ((List.range words.length).map (fun i => (words.length - i) * (words.getD i 0 % 4294967291))).sum) % 4294967291 ∧
     acc.a ≤ 4294967290 ∧ acc.b ≤ 4294967290) ∧
  (∀ (acc : Acc) (xs ys : List Byte), xs.length % 4 = 0 → foldBytes acc (xs ++ ys) = foldBytes (foldBytes acc xs) ys) ∧
  (∀ (acc : Acc) (xs : List Byte), acc.Reduced → xs.length % 4 ≠ 0 →
    foldBytes acc xs = foldBytes acc (xs ++ List.replicate (4 - xs.length % 4) 0)) ∧
  (∀ (acc : Acc) (b0 b1 b2 b3 : Byte), foldBytes acc [b0, b1, b2, b3] =
    foldWord acc (b0.toNat + 256 * b1.toNat + 65536 * b2.toNat + 16777216 * b3.toNat)) ∧
  (∀ (acc : Acc) (data : List Byte) (n : Nat), acc.Reduced →
    foldStream acc data n = foldBytes acc ((List.range n).map (fun i => data.getD i 0))) ∧
  ∀ acc : Acc, acc.Reduced → (digestOf acc).extractLsb' 32 32 = BitVec.ofNat 32 acc.b ∧
    (digestOf acc).extractLsb' 0 32 = BitVec.ofNat 32 acc.a

/-- A free engine, engine 0 before engine 1, takes the oldest eligible task of the queue (R124, R125): its target is VERIFYING, its
accumulators start afresh at block 0, and its first segment waits at the destination's port or at the bound card port (R126, R127, R128).
With no free engine, or no eligible task, nothing is taken. -/
def Obligations.FreeEngineTakesOldestEligibleTask : Prop :=
  ∀ (s : State), s.resetLow = false →
    (((∀ e, (s.engine e).task ≠ none) ∨ ∀ u ∈ s.verifyQueue, eligible s u = false) → exec .engineTakeTask s = .next s) ∧
    (∀ u k j, s.clip u.clip = some k → s.job k.job = some j →
      (eligible s u = true ↔
        match u.target with
        | .dest d => (s.dest d).state = .online ∧ ∃ id, (s.dest d).identity = some id ∧ j.destId d = some id
        | .source => j.binding ≠ none ∧ j.paused = false)) ∧
    ∀ (e : EngineIx) (older younger : List Task) (u : Task) (k : Clip) (j : Job), (s.engine e).task = none →
      (e = 1 → (s.engine 0).task ≠ none) → s.verifyQueue = older ++ u :: younger → (∀ x ∈ older, eligible s x = false) →
      eligible s u = true → s.clip u.clip = some k → s.job k.job = some j → (u.target = .source → j.tasksIssued = true) →
      ∃ t k' more, exec .engineTakeTask s = .next t ∧ t.engine e = ⟨some (u, k.job), 0, some ⟨1, 0⟩, .waiting⟩ ∧
        (∀ i, i ≠ e → t.engine i = s.engine i) ∧ t.verifyQueue = older ++ younger ++ more ∧ (∀ x ∈ more, x.target = .source) ∧
        t.clip u.clip = some k' ∧
        (∀ d, u.target = .dest d →
          k'.copy d = { k.copy d with state := .verifying } ∧ (∀ i, i ≠ d → k'.copy i = k.copy i) ∧
          t.dest d = { s.dest d with segWaiting := (s.dest d).segWaiting ++ [e] } ∧ ∀ i, i ≠ d → t.dest i = s.dest i) ∧
        ∀ p, u.target = .source → j.binding = some p →
          k'.sv = .verifying ∧ k'.copies = k.copies ∧ (t.reader p).segWaiting = (s.reader p).segWaiting ++ [e] ∧ t.dests = s.dests

/-- A verify READ that completes OK is folded and the next READ is sent; at the end of a segment that is not the last, the engine's next block
advances and its next segment waits (R91, R114, R126, R127). When the last segment completes, the digest read back is compared with the
clip's source digest (R129) and the engine is free. Equal: the copy is VERIFIED with no cause, or the source MATCHED (R130). Unequal: with
verify_retry 1 the first time, back to FLUSHED or QUEUED with the task at the tail, marked; else MISMATCH, a copy's cause DIGEST (R131). -/
def Obligations.VerifySegmentsFoldAndCompare : Prop :=
  (∀ (d : Dest) (data : List Byte) (s : State) (start count ms : Nat) (again : Bool) (g : Segment) (u : Task) (h : Nat) (k : Clip)
     (acc acc' : Acc), s.resetLow = false → (s.dest d).op = some (.segment g) → g.cancelled = false →
     (s.dest d).request = some ⟨.read start count, false, ms, again⟩ → (s.engine g.engine).task = some (u, h) → u.target = .dest d →
     s.clip u.clip = some k → (s.engine g.engine).acc = some acc →
     acc' = foldStream acc data (min (512 * (g.first + g.done + count)) k.length - 512 * (g.first + g.done)) →
     (g.done + count < g.count → (s.dest d).state = .online →
       exec (.destReadOk d data) s =
         .next
           { s with
             engines := s.engines.set g.engine.val { s.engine g.engine with acc := some acc' }
             dests := s.dests.set d.val
               { s.dest d with
                 op := some (.segment { g with done := g.done + count })
                 request := some
                   ⟨.read (requestRun (k.target d) (g.first + (g.done + count)) (g.count - (g.done + count))).1
                     (requestRun (k.target d) (g.first + (g.done + count)) (g.count - (g.done + count))).2, false, s.cfg.destTimeoutMs,
                     false⟩ } }) ∧
     (g.count ≤ g.done + count → (s.engine g.engine).next + g.count < (k.length + 511) / 512 →
       exec (.destReadOk d data) s =
         .next (refresh
           { s with
             engines := s.engines.set g.engine.val ⟨some (u, h), (s.engine g.engine).next + g.count, some acc', .waiting⟩
             dests := s.dests.set d.val
               { s.dest d with op := none, request := none, segWaiting := (s.dest d).segWaiting ++ [g.engine] } }))) ∧
  ∀ (i : Instr) (data : List Byte) (s : State) (start count ms : Nat) (g : Segment) (u : Task) (h : Nat) (k : Clip) (j : Job)
    (acc : Acc) (same : Bool), s.resetLow = false → g.cancelled = false → (s.engine g.engine).task = some (u, h) →
    s.clip u.clip = some k → s.job h = some j → k.job = h → j.state ≠ .closing → (s.engine g.engine).acc = some acc →
    g.count ≤ g.done + count → (k.length + 511) / 512 ≤ (s.engine g.engine).next + g.count →
    ((∃ d again, i = .destReadOk d data ∧ u.target = .dest d ∧ (s.dest d).op = some (.segment g) ∧
        (s.dest d).request = some ⟨.read start count, false, ms, again⟩) ∨
      (∃ p, i = .sourceSegmentRequestDone p data ∧ u.target = .source ∧ (s.reader p).segment = some g ∧
        (s.port p).request = some ⟨.read start count, .segment, ms, false⟩ ∧ j.paused = false ∧ j.tasksIssued = true)) →
    (same = true ↔
      digestOf (foldStream acc data (min (512 * (g.first + g.done + count)) k.length - 512 * (g.first + g.done))) = k.digest) →
    ∃ t k' more, exec i s = .next t ∧ t.engine g.engine = ⟨none, 0, none, .none⟩ ∧ t.clip u.clip = some k' ∧ k'.digest = k.digest ∧
      (∀ x ∈ more, x.target = .source) ∧
      (same = true → t.verifyQueue = s.verifyQueue ++ more ∧
        (∀ d, u.target = .dest d → k'.copy d = { k.copy d with state := .verified, cause := .none } ∧
          (∀ e, e ≠ d → k'.copy e = k.copy e) ∧ t.Told (.copyState h u.clip (.copy d .verified) .none)) ∧
        (u.target = .source → k'.sv = .matched ∧ k'.copies = k.copies ∧ t.Told (.copyState h u.clip (.source .matched) .none))) ∧
      (same = false → u.retry = false → s.cfg.verifyRetry = 1 →
        t.verifyQueue = s.verifyQueue ++ [{ u with retry := true }] ++ more ∧
        (∀ d, u.target = .dest d → k'.copy d = { k.copy d with state := .flushed, retryUsed := true }) ∧
        (u.target = .source → k'.sv = .queued ∧ k'.copies = k.copies)) ∧
      (same = false → (u.retry = true ∨ s.cfg.verifyRetry ≠ 1) → t.verifyQueue = s.verifyQueue ++ more ∧
        (∀ d, u.target = .dest d → k'.copy d = { k.copy d with state := .mismatch, cause := .digest } ∧
          (∀ e, e ≠ d → k'.copy e = k.copy e) ∧ t.Told (.copyState h u.clip (.copy d .mismatch) .digest)) ∧
        (u.target = .source → k'.sv = .mismatch ∧ k'.copies = k.copies ∧ t.Told (.copyState h u.clip (.source .mismatch) .digest)))

/-! ### Pressure Monitors, holds and the Pace Timer (R153 to R171) -/

/-- MONITOR_SET (R155) stores the settings, level and holdoff_ms brought to their limits, takes the above state afresh and lets go every
hold of the destination; HOLD_RESUME (R160) lets go its hard holds alone; a job that is held no more has its hold-changed flag set (R163).
When a monitor sees the backlog (R156 to R159) the above state follows it; an upward crossing less than holdoff_ms into the window is
ignored; one that is not sets the tripped flag and, in SOFT and HARD, holds every READING job that uses the destination; its notice is as
the mode and the edge mode say. In an event that changes backlogs the monitors see them before the tests at its end, and their notices
come after those of the tests, in increasing destination number (R77, R158, assumption log 9). The time into the window is read from the
model's clock (assumption log 3). -/
def Obligations.MonitorsActOnTheBacklog : Prop :=
  (∀ (s : State) (f : Frame) (rest : List Frame) (b : Byte), s.Offers f rest →
     (∀ m l e ho : Byte, f.kind = 0x28 → f.payload = [b, m, l, e, ho] →
       (4 ≤ b.toNat → exec .monitorSet s = .next (sendFrame ⟨0xA8, f.tag, [4]⟩ (s.taken f rest))) ∧
       (b.toNat < 4 → (4 ≤ m.toNat ∨ 4 ≤ e.toNat) → exec .monitorSet s = .next (sendFrame ⟨0xA8, f.tag, [8]⟩ (s.taken f rest))) ∧
       (∀ (d : Dest) (mode : MonitorMode) (edge : EdgeMode), d.val = b.toNat →
         [MonitorMode.off, .notify, .soft, .hard][m.toNat]? = some mode → [EdgeMode.none, .rise, .fall, .both][e.toNat]? = some edge →
         ∃ level top holdoff : Nat, level = min l.toNat 7 ∧ top = min s.cfg.paceWindowMs s.windowPeriod ∧
           holdoff = (if top ≤ ho.toNat then top - 1 else ho.toNat) ∧
           exec .monitorSet s =
             .next (sendFrame
               ⟨0xA8, f.tag,
                 [if level = l.toNat ∧ holdoff = ho.toNat then 0 else 1, BitVec.ofNat 8 level, BitVec.ofNat 8 holdoff]⟩
               (refresh
                 { s.taken f rest with
                   monitors := s.monitors.set d.val
                     { mode := mode, level := level, edge := edge, holdoff := holdoff
                       above := decide (128 + 96 * level < backlog (s.dest d)), tripped := (s.monitor d).tripped }
                   jobs := s.jobs.map (fun x => (x.1,
                     { x.2 with
                       softHold := x.2.softHold &&& ~~~BitVec.ofNat 4 (2 ^ d.val)
                       hardHold := x.2.hardHold &&& ~~~BitVec.ofNat 4 (2 ^ d.val)
                       holdChanged := x.2.holdChanged ||
                         (decide (x.2.softHold ≠ 0 ∨ x.2.hardHold ≠ 0) &&
                           decide (x.2.softHold &&& ~~~BitVec.ofNat 4 (2 ^ d.val) = 0 ∧
                             x.2.hardHold &&& ~~~BitVec.ofNat 4 (2 ^ d.val) = 0)) })) })))) ∧
     (f.kind = 0x29 → f.payload = [b] →
       (4 ≤ b.toNat → exec .holdResume s = .next (sendFrame ⟨0xA9, f.tag, [4]⟩ (s.taken f rest))) ∧
       ∀ d : Dest, d.val = b.toNat →
         exec .holdResume s =
           .next (sendFrame ⟨0xA9, f.tag, [0]⟩
             (refresh
               { s.taken f rest with
                 jobs := s.jobs.map (fun x => (x.1,
                   { x.2 with
                     hardHold := x.2.hardHold &&& ~~~BitVec.ofNat 4 (2 ^ d.val)
                     holdChanged := x.2.holdChanged ||
                       (decide (x.2.softHold ≠ 0 ∨ x.2.hardHold ≠ 0) &&
                         decide (x.2.softHold = 0 ∧ x.2.hardHold &&& ~~~BitVec.ofNat 4 (2 ^ d.val) = 0)) })) })))) ∧
  (∀ (s : State) (d : Dest) (m : Monitor) (n : Nat), m = s.monitor d → n = backlog (s.dest d) →
    ((m.above = true ↔ 128 + 96 * m.level < n) → seeBacklog s d = s ∧ crossingNews s d = []) ∧
    (m.above = false → 128 + 96 * m.level < n → s.now - s.windowStart < m.holdoff →
      seeBacklog s d = setMonitor s d { m with above := true } ∧ crossingNews s d = []) ∧
    (m.above = true → n ≤ 128 + 96 * m.level →
      seeBacklog s d = setMonitor s d { m with above := false } ∧
      crossingNews s d = if m.mode ≠ .off ∧ (m.edge = .fall ∨ m.edge = .both) then [.monitorCrossing d true n] else []) ∧
    (m.above = false → 128 + 96 * m.level < n → m.holdoff ≤ s.now - s.windowStart →
      seeBacklog s d =
        { s with
          monitors := s.monitors.set d.val { m with above := true, tripped := m.tripped || decide (m.mode ≠ .off) }
          jobs := s.jobs.map (fun x =>
            if x.2.state = .reading ∧ x.2.destSet.getLsbD d.val = true then
              (x.1,
                { x.2 with
                  softHold := if m.mode = .soft then x.2.softHold ||| BitVec.ofNat 4 (2 ^ d.val) else x.2.softHold
                  hardHold := if m.mode = .hard then x.2.hardHold ||| BitVec.ofNat 4 (2 ^ d.val) else x.2.hardHold
                  holdChanged := x.2.holdChanged ||
                    (decide (m.mode = .soft ∨ m.mode = .hard) && decide (x.2.softHold = 0 ∧ x.2.hardHold = 0)) })
            else x) } ∧
      crossingNews s d = if m.mode ≠ .off ∧ (m.edge = .rise ∨ m.edge = .both) then [.monitorCrossing d false n] else [])) ∧
  ∀ (hs : List Nat) (s : State),
    closeSeen hs s =
      (crossingNews s 0 ++ crossingNews s 1 ++ crossingNews s 2 ++ crossingNews s 3).foldl (fun t n => notify n t)
        (closeJobs hs (seeBacklog (seeBacklog (seeBacklog (seeBacklog s 0) 1) 2) 3))

/-- An expiry of the Pace Timer (R153, R154, R159, R168, R169, R170): the next window begins with the stored period; a monitor in SOFT holds the READING
jobs that use its destination while the backlog is above its threshold and lets its soft holds go otherwise; the reporter counts, and at
report_interval queues a report, or loses it while 64 notices wait. Where a report is queued the command names the monitors that act before
it (R171, assumption log 15): the report shows each job as they leave it and clears its hold-changed flag, and the flag is set again where
the other monitors then change the job. The flag follows the net passage on each side of the report (assumption log 27). -/
def Obligations.PaceExpiryActs : Prop :=
  ∀ (before : DestSet) (s : State), s.resetLow = false → s.LineServed → ∃ t, exec (.paceTimerExpiry before) s = .next t ∧
    t.windowCount = (s.windowCount + 1) % 65536 ∧ t.windowStart = s.windowStart + s.windowPeriod ∧ t.windowPeriod = s.cfg.paceWindowMs ∧
    (∀ d, t.monitor d =
      { s.monitor d with
        holdoff := if s.cfg.paceWindowMs ≤ (s.monitor d).holdoff then s.cfg.paceWindowMs - 1 else (s.monitor d).holdoff }) ∧
    (∀ h j, s.job h = some j → ∃ j', t.job h = some j' ∧
      j' = { j with softHold := j'.softHold, holdChanged := j'.holdChanged } ∧
      (∀ d : Dest, j'.softHold.getLsbD d.val =
        if (s.monitor d).mode = .soft then
          if 128 + 96 * (s.monitor d).level < backlog (s.dest d) then
            j.softHold.getLsbD d.val || (decide (j.state = .reading) && j.destSet.getLsbD d.val)
          else false
        else j.softHold.getLsbD d.val) ∧
      ∀ mid : DestSet, (∀ d : Dest, mid.getLsbD d.val = if before.getLsbD d.val then j'.softHold.getLsbD d.val else j.softHold.getLsbD d.val) →
        (j'.holdChanged = true ↔
          if 1 ≤ s.cfg.reportInterval ∧ s.cfg.reportInterval ≤ s.expiryCount + 1 ∧ s.notices.length < 64 then
            ¬((j'.softHold ≠ 0 ∨ j.hardHold ≠ 0) ↔ (mid ≠ 0 ∨ j.hardHold ≠ 0))
          else
            j.holdChanged = true ∨ ¬((j'.softHold ≠ 0 ∨ j.hardHold ≠ 0) ↔ (j.softHold ≠ 0 ∨ j.hardHold ≠ 0)))) ∧
    (s.cfg.reportInterval = 0 → t.expiryCount = 0 ∧ t.notices = s.notices ∧ t.missed = s.missed) ∧
    (s.expiryCount + 1 < s.cfg.reportInterval → t.expiryCount = s.expiryCount + 1 ∧ t.notices = s.notices ∧ t.missed = s.missed) ∧
    (1 ≤ s.cfg.reportInterval → s.cfg.reportInterval ≤ s.expiryCount + 1 → t.expiryCount = 0 ∧
      (64 ≤ s.notices.length → t.notices = s.notices ∧ t.missed = s.missed ||| 0x80000000#32) ∧
      (s.notices.length < 64 → t.missed = 0 ∧ ∃ r, t.Told (.progress r) ∧ r.windowCount = t.windowCount ∧ r.slotsUsed = s.slots.length ∧
        r.missed = s.missed ∧
        r.ports.map (fun x => (x.state, x.job, x.blocksRead)) =
          allPorts.map (fun p => ((s.port p).state, (s.port p).job, (s.reader p).blocksRead)) ∧
        (∀ (p : Port) (h : Nat) (j j' : Job) (mid : DestSet), (s.port p).job = some h → s.job h = some j → t.job h = some j' →
          (∀ d : Dest, mid.getLsbD d.val = if before.getLsbD d.val then j'.softHold.getLsbD d.val else j.softHold.getLsbD d.val) →
          ∃ x, r.ports[p.val]? = some x ∧ x.paused = j.paused ∧ (x.held = true ↔ mid ≠ 0 ∨ j.hardHold ≠ 0) ∧
            (x.holdChanged = true ↔
              j.holdChanged = true ∨ ¬((mid ≠ 0 ∨ j.hardHold ≠ 0) ↔ (j.softHold ≠ 0 ∨ j.hardHold ≠ 0)))) ∧
        r.dests.map (fun x => (x.state, x.backlog, x.blocksWritten, x.tasks)) =
          allDests.map (fun d => ((s.dest d).state, backlog (s.dest d), (s.dest d).blocksWritten,
            (s.verifyQueue.filter (fun u => decide (u.target = .dest d))).length)))) ∧
    t.dests = s.dests ∧ t.clips = s.clips ∧ t.slots = s.slots ∧ t.verifyQueue = s.verifyQueue ∧ t.known = s.known ∧ t.mem = s.mem

/-! ### What every command keeps -/

/-- Every command keeps the staging memory in its canonical form, the job and clip tables keyed by rising handles below 12 and 4096 (R36, R49), and
every accumulator in 0 to P - 1 (R89). The canonical form is the model's own (assumption log 6). -/
def Obligations.EveryCommandKeepsForms : Prop :=
  ∀ (c : Instr) (s t : State), exec c s = .next t →
    (Memory.wf s.mem = true → Memory.wf t.mem = true) ∧ (s.TablesKeyed → t.TablesKeyed) ∧ (s.AccsReduced → t.AccsReduced)

/-- Every command keeps the capacities of the queues and lists (R5, R25, R33, R165), the ranges of settings, counts and monitors (R11, R116, R153 to
R155, R168), and the outbound line never free while a reply or a notice waits (R8). -/
def Obligations.EveryCommandKeepsBounds : Prop :=
  ∀ (c : Instr) (s t : State), exec c s = .next t →
    (s.WithinCapacity → t.WithinCapacity) ∧ (s.InRange → t.InRange) ∧ (s.LineServed → t.LineServed)

/-- Every command keeps the account of the slots (R61, R62, R71): each of the 1024 is on the free-slot list once or in use under one record, and each
chunk read in flight has a FILLING slot of its own. -/
def Obligations.EveryCommandKeepsSlotsAccounted : Prop :=
  ∀ (c : Instr) (s t : State), exec c s = .next t → s.SlotsAccounted → t.SlotsAccounted

/-- After every command each lamp shows R23's colour, each reader is in the waiting set exactly while its start condition holds (R65), and
each monitor's above state says exactly whether its destination's backlog exceeds the threshold 128 + 96 * level (R156), if it was so
before; a port whose link is down stays ABSENT with nothing on the link (R98, R103); and the request on a card port's link stays one of a
read or survey in progress there, or an abandoned one (R15). The premises keep out the states no run reaches: tables keyed, every listed
clip a committed clip of its job, every request owned. The record of how a port stands is the model's own (assumption log 28). -/
def Obligations.EveryCommandKeepsLampsAndWaitingSet : Prop :=
  ∀ (c : Instr) (s t : State), exec c s = .next t → s.TablesKeyed → s.WorkOwned → s.LinksOwned → s.InputsFollowed →
    t.LinksOwned ∧ t.InputsFollowed

/-- After every command each READING or DRAINED job is clearable exactly when R144 says so and wants attention exactly when R143 says so, if it was so
before (R145): no change of an input goes without its evaluation. -/
def Obligations.EveryCommandKeepsAccountsCurrent : Prop :=
  ∀ (c : Instr) (s t : State), exec c s = .next t → s.TablesKeyed → s.WorkOwned → s.AccountsCurrent → t.WorkOwned ∧ t.AccountsCurrent

/-- The block right after reset is a sound state: every form, bound and account that the commands keep holds of it. -/
def Obligations.ResetIsSound : Prop :=
  Memory.wf State.reset.mem = true ∧ State.reset.TablesKeyed ∧ State.reset.AccsReduced ∧ State.reset.WithinCapacity ∧ State.reset.InRange ∧
    State.reset.LineServed ∧ State.reset.SlotsAccounted ∧ State.reset.InputsFollowed ∧ State.reset.LinksOwned ∧ State.reset.WorkOwned ∧
    State.reset.AccountsCurrent

/-- A sticky flag, once set, stays set through every command but FLAGS_CLEAR and the resets (R4, R18, R97, R158); and the settings change only by
CONFIG_SET and at a hard reset (R11, R14). -/
def Obligations.FlagsStickAndSettingsStay : Prop :=
  ∀ (c : Instr) (s t : State), exec c s = .next t → (∀ r, c ≠ .hardReset r) →
    (c ≠ .configSet → t.cfg = s.cfg) ∧
    (c ≠ .flagsClear → (s.resetPending = true → c ≠ .softReset ∧ c ≠ .frameSendEnd) →
      ((s.linkFlags.parity = true → t.linkFlags.parity = true) ∧ (s.linkFlags.framing = true → t.linkFlags.framing = true) ∧
        (s.linkFlags.check = true → t.linkFlags.check = true) ∧ (s.linkFlags.gap = true → t.linkFlags.gap = true) ∧
        (s.linkFlags.overrun = true → t.linkFlags.overrun = true)) ∧
      (∀ p, (s.port p).readError = true → (t.port p).readError = true) ∧
      ∀ d, ((s.dest d).writeErr = true → (t.dest d).writeErr = true) ∧ ((s.dest d).readErr = true → (t.dest d).readErr = true) ∧
        ((s.dest d).timeout = true → (t.dest d).timeout = true) ∧ ((s.monitor d).tripped = true → (t.monitor d).tripped = true))

/-- The life of a job (R36, R37, R38, R44, R47, R139, R146): outside resets, what JOB_OPEN recorded never changes; a job is DRAINED only with its
intake final, every clip read and nothing to recopy; it leaves DRAINED for READING only by CLIP_RECOPY; it is CLOSING, or gone, only by
JOB_ABORT or CARD_RELEASE; and a CLOSING job stays so, its clearable and attention fields fixed. -/
def Obligations.JobLifeFollowsItsStates : Prop :=
  ∀ (c : Instr) (s t : State) (h : Nat) (j : Job), exec c s = .next t → s.TablesKeyed → s.WorkOwned → (∀ r, c ≠ .hardReset r) →
    (s.resetPending = true → c ≠ .softReset ∧ c ≠ .frameSendEnd) → s.job h = some j →
    (t.job h = none → j.state = .closing ∨ c = .jobAbort ∨ c = .cardRelease) ∧
    ∀ j', t.job h = some j' →
      (j'.identity = j.identity ∧ j'.destSet = j.destSet ∧ j'.destIds = j.destIds ∧ j'.required = j.required ∧
        j'.sourceVerify = j.sourceVerify ∧ j'.quota = j.quota) ∧
      (j'.order = j.order ∨ (c = .clipCommit ∧ ∃ i, j'.order = j.order ++ [i])) ∧
      (j.state = .closing → j'.state = .closing ∧ j'.clearable = j.clearable ∧ j'.attention = j.attention) ∧
      (j.state = .drained → j'.state = .reading → c = .clipRecopy) ∧
      (j.state = .reading → j'.state = .drained → j'.intakeFinal = true ∧ j'.recopy = [] ∧ ∀ i ∈ j'.order, clipRead t i = true) ∧
      (j.state ≠ .closing → j'.state = .closing → c = .jobAbort ∨ c = .cardRelease)

/-- A copy becomes VERIFIED only by the completion of a read-back (R130): some engine held a task for that clip and destination, its segment's READ was
answered OK, and the accumulators with that READ's data folded in give the clip's source digest, in all 64 bits (R94). -/
def Obligations.VerifiedOnlyByEqualReadBack : Prop :=
  ∀ (i : Instr) (s t : State) (c : Nat) (k k' : Clip) (d : Dest), exec i s = .next t → s.TablesKeyed → s.clip c = some k →
    t.clip c = some k' → (k'.copy d).state = .verified → (k.copy d).state ≠ .verified →
    ∃ (g : Segment) (u : Task) (h : Nat) (acc : Acc) (data : List Byte) (start count ms : Nat),
      (s.engine g.engine).task = some (u, h) ∧ u.clip = c ∧ u.target = .dest d ∧ (s.engine g.engine).acc = some acc ∧
      g.cancelled = false ∧ g.count ≤ g.done + count ∧
      digestOf (foldStream acc data (min (512 * (g.first + g.done + count)) k.length - 512 * (g.first + g.done))) = k.digest ∧
      ((∃ d' again, i = .destReadOk d' data ∧ (s.dest d').op = some (.segment g) ∧
          (s.dest d').request = some ⟨.read start count, false, ms, again⟩) ∨
        ∃ p, i = .sourceSegmentRequestDone p data ∧ (s.reader p).segment = some g ∧
          (s.port p).request = some ⟨.read start count, .segment, ms, false⟩)
end

