-- ==== Sys2Proof/Laws/Digest.lean ====
section
/-! SUPPORT. The digest's folds: accumulators stay reduced (R89), and an answer written down without its trailing zero bytes folds as the
whole answer does (assumption log 5). -/

namespace Sys2Proof.Machine

open Sys2Proof

theorem addOnce_lt {x y : Nat} (hx : x < Config.digestModulus) (hy : y < Config.digestModulus) :
    addOnce x y < Config.digestModulus := by
  unfold addOnce
  by_cases h : Config.digestModulus ≤ x + y
  · rw [if_pos h]; omega
  · rw [if_neg h]; omega

/-- One subtraction of P reduces a sum of two reduced numbers (R89). -/
theorem addOnce_eq_mod {x y : Nat} (hx : x < Config.digestModulus) (hy : y < Config.digestModulus) :
    addOnce x y = (x + y) % Config.digestModulus := by
  unfold addOnce
  by_cases h : Config.digestModulus ≤ x + y
  · rw [if_pos h, Nat.mod_eq_sub_mod h, Nat.mod_eq_of_lt (by omega)]
  · rw [if_neg h, Nat.mod_eq_of_lt (by omega)]

theorem residue_lt {w : Nat} (h : w < 2 ^ 32) : residue w < Config.digestModulus := by
  unfold residue
  by_cases hw : Config.digestModulus ≤ w
  · rw [if_pos hw]
    have : Config.digestModulus = 4294967291 := rfl
    omega
  · rw [if_neg hw]; omega

theorem foldWord_reduced {acc : Acc} (h : acc.Reduced) {w : Nat} (hw : w < 2 ^ 32) : (foldWord acc w).Reduced := by
  have ha := addOnce_lt h.1 (residue_lt hw)
  exact ⟨ha, addOnce_lt h.2 ha⟩

theorem leNat_lt (bs : List Byte) : leNat bs < 256 ^ bs.length := by
  induction bs with
  | nil => simp [leNat]
  | cons b bs ih =>
    have := b.isLt
    simp only [leNat, List.length_cons, Nat.pow_succ]
    omega

theorem leNat_word_lt {bs : List Byte} (h : bs.length ≤ 4) : leNat bs < 2 ^ 32 := by
  have h1 := leNat_lt bs
  have h2 : 256 ^ bs.length ≤ 256 ^ 4 := Nat.pow_le_pow_right (by decide) h
  omega

theorem foldBytes_reduced {acc : Acc} (h : acc.Reduced) (bs : List Byte) : (foldBytes acc bs).Reduced := by
  induction acc, bs using foldBytes.induct with
  | case1 acc b0 b1 b2 b3 rest ih =>
    rw [foldBytes]
    exact ih (foldWord_reduced h (leNat_word_lt (by simp)))
  | case2 acc => simpa [foldBytes] using h
  | case3 acc bs h4 h0 =>
    rw [foldBytes.eq_3 _ _ h4 h0]
    refine foldWord_reduced h (leNat_word_lt ?_)
    match bs, h4 with
    | [], _ => simp
    | [_], _ => simp
    | [_, _], _ => simp
    | [_, _, _], _ => simp
    | b0 :: b1 :: b2 :: b3 :: rest, h4 => exact absurd rfl (h4 b0 b1 b2 b3 rest)

theorem foldZeros_reduced {acc : Acc} (h : acc.Reduced) (n : Nat) : (foldZeros acc n).Reduced := by
  unfold foldZeros
  split
  · exact h
  · exact ⟨h.1, Nat.mod_lt _ (by decide)⟩

/-- Folding an answer's data keeps the accumulators reduced. -/
theorem foldStream_reduced {acc : Acc} (h : acc.Reduced) (data : List Byte) (n : Nat) : (foldStream acc data n).Reduced :=
  foldZeros_reduced (foldBytes_reduced h _) _

theorem start_reduced : Acc.start.Reduced := by decide

/-- `n + 1` words of value 0 are one such word and then `n`. -/
theorem foldZeros_succ {acc : Acc} (h : acc.Reduced) (n : Nat) : foldZeros acc (n + 1) = foldZeros (foldWord acc 0) n := by
  obtain ⟨ha, hb⟩ := h
  have h0 : foldWord acc 0 = ⟨acc.a, (acc.b + acc.a) % Config.digestModulus⟩ := by
    have hr : residue 0 = 0 := by decide
    have e : addOnce acc.a 0 = acc.a := by
      rw [addOnce_eq_mod ha (by decide), Nat.add_zero, Nat.mod_eq_of_lt ha]
    simp only [foldWord, hr, e, addOnce_eq_mod hb ha]
  rw [h0]
  unfold foldZeros
  rw [if_neg (by omega)]
  split
  · subst_vars
    simp
  · simp only [Acc.mk.injEq, true_and]
    rw [Nat.mod_add_mod]
    congr 1
    ring

/-- A run of zero bytes folds as its words of value 0. -/
theorem foldBytes_zeros {acc : Acc} (h : acc.Reduced) (m : Nat) :
    foldBytes acc (List.replicate m 0) = foldZeros acc (wordsOf m) := by
  induction m using Nat.strongRecOn generalizing acc with
  | _ m ih =>
    match m, ih with
    | 0, _ => simp [foldBytes, foldZeros, wordsOf]
    | 1, _ =>
      rw [show wordsOf 1 = 0 + 1 from rfl, foldZeros_succ h]
      simp [foldBytes, foldZeros, leNat]
    | 2, _ =>
      rw [show wordsOf 2 = 0 + 1 from rfl, foldZeros_succ h]
      simp [foldBytes, foldZeros, leNat, List.replicate]
    | 3, _ =>
      rw [show wordsOf 3 = 0 + 1 from rfl, foldZeros_succ h]
      simp [foldBytes, foldZeros, leNat, List.replicate]
    | m + 4, ih =>
      have hw : wordsOf (m + 4) = wordsOf m + 1 := by simp only [wordsOf]; omega
      rw [hw, foldZeros_succ h, ← ih m (by omega) (foldWord_reduced h (by decide))]
      simp [List.replicate_succ, foldBytes, leNat]

/-- Zero bytes after a last word of one to three bytes complete it, and fold as words of value 0 beyond it. -/
theorem foldBytes_short_zeros {acc : Acc} (h : acc.Reduced) (ys : List Byte) (h1 : 1 ≤ ys.length) (h3 : ys.length ≤ 3) (m : Nat) :
    foldBytes acc (ys ++ List.replicate m 0) = foldZeros (foldWord acc (leNat ys)) (wordsOf (ys.length + m) - 1) := by
  have hr := foldWord_reduced h (leNat_word_lt (show ys.length ≤ 4 by omega))
  rcases Nat.lt_or_ge m (4 - ys.length) with hm | hm
  · rw [show wordsOf (ys.length + m) - 1 = 0 by unfold wordsOf; omega, foldZeros, if_pos rfl]
    rcases ys with _ | ⟨a, _ | ⟨b, _ | ⟨c, _ | ⟨d, ys⟩⟩⟩⟩
    · simp at h1
    all_goals simp only [List.length_cons, List.length_nil] at hm h3
    · interval_cases m <;> simp [foldBytes, leNat, List.replicate]
    · interval_cases m <;> simp [foldBytes, leNat, List.replicate]
    · interval_cases m
      simp [foldBytes, leNat]
    · omega
  · obtain ⟨k, rfl⟩ : ∃ k, m = 4 - ys.length + k := ⟨m - (4 - ys.length), by omega⟩
    rw [show wordsOf (ys.length + (4 - ys.length + k)) - 1 = wordsOf k by unfold wordsOf; omega, ← foldBytes_zeros hr,
      List.replicate_add]
    rcases ys with _ | ⟨a, _ | ⟨b, _ | ⟨c, _ | ⟨d, ys⟩⟩⟩⟩
    · simp at h1
    · simp [foldBytes, leNat, List.replicate]
    · simp [foldBytes, leNat, List.replicate]
    · simp [foldBytes, leNat]
    · simp only [List.length_cons] at h3
      omega

/-- Zero bytes after a stream fold as the words of value 0 that they add; those that complete its last word add none. -/
theorem foldBytes_append_zeros {acc : Acc} (h : acc.Reduced) (xs : List Byte) (m : Nat) :
    foldBytes acc (xs ++ List.replicate m 0) = foldZeros (foldBytes acc xs) (wordsOf (xs.length + m) - wordsOf xs.length) := by
  induction acc, xs using foldBytes.induct with
  | case1 acc b0 b1 b2 b3 rest ih =>
    have hw : wordsOf ((b0 :: b1 :: b2 :: b3 :: rest).length + m) - wordsOf (b0 :: b1 :: b2 :: b3 :: rest).length =
        wordsOf (rest.length + m) - wordsOf rest.length := by
      unfold wordsOf
      simp only [List.length_cons]
      omega
    rw [hw]
    simp only [List.cons_append, foldBytes]
    exact ih (foldWord_reduced h (leNat_word_lt (by simp)))
  | case2 acc =>
    simp only [List.nil_append, List.length_nil, Nat.zero_add, foldBytes]
    rw [foldBytes_zeros h]
    rfl
  | case3 acc bs h4 h0 =>
    rw [foldBytes.eq_3 _ _ h4 h0]
    have l1 : 1 ≤ bs.length := by
      cases bs
      · exact absurd rfl h0
      · simp
    have l3 : bs.length ≤ 3 := by
      match bs, h4 with
      | [], _ => simp
      | [_], _ => simp
      | [_, _], _ => simp
      | [_, _, _], _ => simp
      | b0 :: b1 :: b2 :: b3 :: rest, h4 => exact absurd rfl (h4 b0 b1 b2 b3 rest)
    rw [foldBytes_short_zeros h bs l1 l3, show wordsOf bs.length = 1 by unfold wordsOf; omega]

/-- The fold of an answer is the fold of its whole data: the bytes given, and zeros beyond their end. -/
theorem foldStream_eq {acc : Acc} (h : acc.Reduced) (data : List Byte) (n : Nat) :
    foldStream acc data n = foldBytes acc (data.take n ++ List.replicate (n - (data.take n).length) 0) := by
  have hl : (data.take n).length ≤ n := by simp
  rw [foldStream, foldBytes_append_zeros h, show (data.take n).length + (n - (data.take n).length) = n by omega]

end Sys2Proof.Machine
end

