-- ==== Sys2Proof/Laws/Memory.lean ====
section
/-! SUPPORT. The staging DRAM's canonical form: every memory operation keeps it, both resets have it, and a write is read back. -/

namespace Sys2Proof.Machine

open Sys2Proof

/-- The canonical form, said at once. -/
theorem wf_iff (m : List Host.Cell) :
    Memory.wf m = true ↔ m.Pairwise (fun c e => c.1 < e.1) ∧ ∀ c ∈ m, c.2 ≠ Memory.unlisted := by
  induction m with
  | nil => simp [Memory.wf]
  | cons c rest ih =>
    cases rest with
    | nil => simp [Memory.wf]
    | cons e rest =>
      rw [Memory.wf, Bool.and_eq_true, Bool.and_eq_true, ih]
      simp only [decide_eq_true_eq, List.pairwise_cons, List.mem_cons, forall_eq_or_imp]
      constructor
      · rintro ⟨⟨h1, h2⟩, ⟨h3, h4⟩, h5, h6⟩
        exact ⟨⟨⟨h2, fun x hx => Nat.lt_trans h2 (h3 x hx)⟩, h3, h4⟩, h1, h5, h6⟩
      · rintro ⟨⟨⟨h2, _⟩, h3, h4⟩, h1, h5, h6⟩
        exact ⟨⟨h1, h2⟩, ⟨h3, h4⟩, h5, h6⟩

/-- The cells of a run lie in the run and hold no byte that an unlisted address reads as. -/
theorem mem_cells {a : Nat} {bs : List Byte} {c : Host.Cell} (h : c ∈ Memory.cells a bs) :
    a ≤ c.1 ∧ c.1 < a + bs.length ∧ c.2 ≠ Memory.unlisted := by
  induction bs generalizing a with
  | nil => simp [Memory.cells] at h
  | cons b bs ih =>
    simp only [Memory.cells] at h
    split at h
    · obtain ⟨h1, h2, h3⟩ := ih h
      simp only [List.length_cons]
      exact ⟨by omega, by omega, h3⟩
    · rename_i hb
      rcases List.mem_cons.1 h with rfl | h
      · simp [hb]
      · obtain ⟨h1, h2, h3⟩ := ih h
        simp only [List.length_cons]
        exact ⟨by omega, by omega, h3⟩

/-- The cells of a run have strictly rising addresses. -/
theorem pairwise_cells (a : Nat) (bs : List Byte) : (Memory.cells a bs).Pairwise (fun c e => c.1 < e.1) := by
  induction bs generalizing a with
  | nil => simp [Memory.cells]
  | cons b bs ih =>
    simp only [Memory.cells]
    split
    · exact ih _
    · refine List.pairwise_cons.2 ⟨fun e he => ?_, ih _⟩
      have := (mem_cells he).1
      simp only
      omega

/-- A write keeps the canonical form. -/
theorem wf_write {m : List Host.Cell} (h : Memory.wf m = true) (a len : Nat) (data : List Byte) :
    Memory.wf (Memory.write m a len data) = true := by
  rw [wf_iff] at h ⊢
  obtain ⟨hs, hn⟩ := h
  have hlen : (data.take len).length ≤ len := by simp
  constructor
  · simp only [Memory.write]
    refine List.pairwise_append.2 ⟨List.pairwise_append.2 ⟨hs.filter _, pairwise_cells _ _, ?_⟩, hs.filter _, ?_⟩
    · intro x hx y hy
      have := (mem_cells hy).1
      have := (List.mem_filter.1 hx).2
      simp only [decide_eq_true_eq] at this
      omega
    · intro x hx y hy
      have hy := (List.mem_filter.1 hy).2
      simp only [decide_eq_true_eq] at hy
      rcases List.mem_append.1 hx with hx | hx
      · have := (List.mem_filter.1 hx).2
        simp only [decide_eq_true_eq] at this
        omega
      · have := (mem_cells hx).2.1
        omega
  · intro c hc
    simp only [Memory.write, List.mem_append] at hc
    rcases hc with (hc | hc) | hc
    · exact hn c (List.mem_filter.1 hc).1
    · exact (mem_cells hc).2.2
    · exact hn c (List.mem_filter.1 hc).1

/-- Reading a list of cells joined to another: the first list decides where it holds the address. -/
theorem read_append (m n : List Host.Cell) (x : Nat) :
    Memory.read (m ++ n) x = if x ∈ m.map Prod.fst then Memory.read m x else Memory.read n x := by
  induction m with
  | nil => simp
  | cons c m ih =>
    by_cases hc : c.1 = x
    · simp [Memory.read, hc]
    · simp [Memory.read, hc, ih, Ne.symm hc]

/-- An address that no cell lists reads as an unlisted address does. -/
theorem read_of_not_mem {m : List Host.Cell} {x : Nat} (h : x ∉ m.map Prod.fst) : Memory.read m x = Memory.unlisted := by
  induction m with
  | nil => rfl
  | cons c m ih =>
    simp only [List.map_cons, List.mem_cons, not_or] at h
    simp [Memory.read, Ne.symm h.1, ih h.2]

/-- The cells of a run read as its bytes, and as unlisted elsewhere. -/
theorem read_cells (a : Nat) (bs : List Byte) (x : Nat) :
    Memory.read (Memory.cells a bs) x = if a ≤ x then bs.getD (x - a) Memory.unlisted else Memory.unlisted := by
  induction bs generalizing a with
  | nil => simp [Memory.cells, Memory.read]
  | cons b bs ih =>
    have step : (if a + 1 ≤ x then bs.getD (x - (a + 1)) Memory.unlisted else Memory.unlisted) =
        if a < x then (b :: bs).getD (x - a) Memory.unlisted else Memory.unlisted := by
      by_cases h : a < x
      · obtain ⟨k, rfl⟩ : ∃ k, x = a + 1 + k := ⟨x - (a + 1), by omega⟩
        rw [if_pos (by omega), if_pos (by omega), show a + 1 + k - a = k + 1 by omega, show a + 1 + k - (a + 1) = k by omega]
        rfl
      · rw [if_neg (by omega), if_neg h]
    simp only [Memory.cells]
    split
    · rename_i hb
      rw [ih, step]
      rcases Nat.lt_trichotomy a x with h | h | h
      · rw [if_pos h, if_pos (by omega)]
      · subst h
        simp [hb]
      · rw [if_neg (by omega), if_neg (by omega)]
    · rw [Memory.read]
      by_cases h : a = x
      · subst h
        simp
      · rw [if_neg h, ih, step]
        by_cases hx : a < x
        · rw [if_pos hx, if_pos (by omega)]
        · rw [if_neg hx, if_neg (by omega)]

/-- A filtered list reads as the whole list at an address the filter keeps, and as unlisted at one it drops. -/
theorem read_filter (m : List Host.Cell) (keep : Nat → Bool) (x : Nat) :
    Memory.read (m.filter (fun c => keep c.1)) x = if keep x then Memory.read m x else Memory.unlisted := by
  induction m with
  | nil => simp [Memory.read]
  | cons c m ih =>
    by_cases hk : keep c.1 = true
    · by_cases hc : c.1 = x
      · subst hc
        simp [Memory.read, hk]
      · simp [hk, Memory.read, hc, ih]
    · by_cases hc : c.1 = x
      · subst hc
        simp [hk, ih]
      · simp [hk, Memory.read, hc, ih]

/-- A write is read back in its run (0 beyond the end of the data), and leaves every other address. -/
theorem read_write (m : List Host.Cell) (a len : Nat) (data : List Byte) (x : Nat) :
    Memory.read (Memory.write m a len data) x =
      if a ≤ x ∧ x < a + len then data.getD (x - a) Memory.unlisted else Memory.read m x := by
  have hl := read_filter m (fun y => decide (y < a)) x
  have hr := read_filter m (fun y => decide (a + len ≤ y)) x
  have hc := read_cells a (data.take len) x
  have cellsIn : x ∈ (Memory.cells a (data.take len)).map Prod.fst → a ≤ x ∧ x < a + len := by
    intro h
    obtain ⟨c, hm, rfl⟩ := List.mem_map.1 h
    have := mem_cells hm
    have : (data.take len).length ≤ len := by simp
    omega
  have lowIn : x ∈ (m.filter (fun c => decide (c.1 < a))).map Prod.fst → x < a := by
    intro h
    obtain ⟨c, hm, rfl⟩ := List.mem_map.1 h
    simpa using (List.mem_filter.1 hm).2
  rw [Memory.write, List.append_assoc, read_append, read_append (Memory.cells a (data.take len))]
  by_cases h1 : x < a
  · have no : ¬(a ≤ x ∧ x < a + len) := by omega
    rw [if_neg no, if_neg fun h => no (cellsIn h)]
    by_cases hx : x ∈ (m.filter (fun c => decide (c.1 < a))).map Prod.fst
    · rw [if_pos hx, hl, if_pos (by simpa using h1)]
    · rw [if_neg hx, hr, if_neg (by simp; omega)]
      refine (read_of_not_mem fun h => hx ?_).symm
      obtain ⟨c, hm, rfl⟩ := List.mem_map.1 h
      exact List.mem_map.2 ⟨c, List.mem_filter.2 ⟨hm, by simpa using h1⟩, rfl⟩
  · rw [if_neg fun h => h1 (lowIn h)]
    by_cases h2 : x < a + len
    · rw [if_pos (show a ≤ x ∧ x < a + len by omega)]
      have same : (data.take len).getD (x - a) Memory.unlisted = data.getD (x - a) Memory.unlisted := by
        simp [List.getD, show x - a < len by omega]
      by_cases hx : x ∈ (Memory.cells a (data.take len)).map Prod.fst
      · rw [if_pos hx, hc, if_pos (by omega), same]
      · have none : (data.take len).getD (x - a) Memory.unlisted = Memory.unlisted := by
          have := (read_of_not_mem hx).symm.trans hc
          rw [if_pos (by omega)] at this
          exact this.symm
        rw [if_neg hx, hr, if_neg (by simp; omega), ← same, none]
    · have no : ¬(a ≤ x ∧ x < a + len) := by omega
      rw [if_neg no, if_neg fun h => no (cellsIn h), hr, if_pos (by simp; omega)]

/-- Both resets leave the DRAM in canonical form. -/
theorem wf_reset : Memory.wf State.reset.mem = true := rfl

end Sys2Proof.Machine
end

