-- ==== Sys2Proof/Laws/State.lean ====
section
/-! SUPPORT. One lemma per field (and per record accessor) per update of State, true by unfolding, so that no later proof unfolds a record
update; and what each update's own record reads as afterwards. -/

namespace Sys2Proof.Machine

open Sys2Proof

variable (s : State)

/-! ### setPort -/

@[simp] theorem setPort_resetLow (p : Port) (x : CardPort) : (setPort s p x).resetLow = s.resetLow := rfl
@[simp] theorem setPort_rate (p : Port) (x : CardPort) : (setPort s p x).rate = s.rate := rfl
@[simp] theorem setPort_rx (p : Port) (x : CardPort) : (setPort s p x).rx = s.rx := rfl
@[simp] theorem setPort_inbound (p : Port) (x : CardPort) : (setPort s p x).inbound = s.inbound := rfl
@[simp] theorem setPort_dispatch (p : Port) (x : CardPort) : (setPort s p x).dispatch = s.dispatch := rfl
@[simp] theorem setPort_waitingReply (p : Port) (x : CardPort) : (setPort s p x).waitingReply = s.waitingReply := rfl
@[simp] theorem setPort_sending (p : Port) (x : CardPort) : (setPort s p x).sending = s.sending := rfl
@[simp] theorem setPort_resetPending (p : Port) (x : CardPort) : (setPort s p x).resetPending = s.resetPending := rfl
@[simp] theorem setPort_linkFlags (p : Port) (x : CardPort) : (setPort s p x).linkFlags = s.linkFlags := rfl
@[simp] theorem setPort_cfg (p : Port) (x : CardPort) : (setPort s p x).cfg = s.cfg := rfl
@[simp] theorem setPort_surveyQueue (p : Port) (x : CardPort) : (setPort s p x).surveyQueue = s.surveyQueue := rfl
@[simp] theorem setPort_survey (p : Port) (x : CardPort) : (setPort s p x).survey = s.survey := rfl
@[simp] theorem setPort_known (p : Port) (x : CardPort) : (setPort s p x).known = s.known := rfl
@[simp] theorem setPort_jobs (p : Port) (x : CardPort) : (setPort s p x).jobs = s.jobs := rfl
@[simp] theorem setPort_clips (p : Port) (x : CardPort) : (setPort s p x).clips = s.clips := rfl
@[simp] theorem setPort_slots (p : Port) (x : CardPort) : (setPort s p x).slots = s.slots := rfl
@[simp] theorem setPort_freeSlots (p : Port) (x : CardPort) : (setPort s p x).freeSlots = s.freeSlots := rfl
@[simp] theorem setPort_lastGranted (p : Port) (x : CardPort) : (setPort s p x).lastGranted = s.lastGranted := rfl
@[simp] theorem setPort_mem (p : Port) (x : CardPort) : (setPort s p x).mem = s.mem := rfl
@[simp] theorem setPort_readers (p : Port) (x : CardPort) : (setPort s p x).readers = s.readers := rfl
@[simp] theorem setPort_portUse (p : Port) (x : CardPort) : (setPort s p x).portUse = s.portUse := rfl
@[simp] theorem setPort_dests (p : Port) (x : CardPort) : (setPort s p x).dests = s.dests := rfl
@[simp] theorem setPort_verifyQueue (p : Port) (x : CardPort) : (setPort s p x).verifyQueue = s.verifyQueue := rfl
@[simp] theorem setPort_engines (p : Port) (x : CardPort) : (setPort s p x).engines = s.engines := rfl
@[simp] theorem setPort_windowPeriod (p : Port) (x : CardPort) : (setPort s p x).windowPeriod = s.windowPeriod := rfl
@[simp] theorem setPort_windowStart (p : Port) (x : CardPort) : (setPort s p x).windowStart = s.windowStart := rfl
@[simp] theorem setPort_windowCount (p : Port) (x : CardPort) : (setPort s p x).windowCount = s.windowCount := rfl
@[simp] theorem setPort_monitors (p : Port) (x : CardPort) : (setPort s p x).monitors = s.monitors := rfl
@[simp] theorem setPort_notices (p : Port) (x : CardPort) : (setPort s p x).notices = s.notices := rfl
@[simp] theorem setPort_missed (p : Port) (x : CardPort) : (setPort s p x).missed = s.missed := rfl
@[simp] theorem setPort_expiryCount (p : Port) (x : CardPort) : (setPort s p x).expiryCount = s.expiryCount := rfl
@[simp] theorem setPort_now (p : Port) (x : CardPort) : (setPort s p x).now = s.now := rfl
@[simp] theorem setPort_pending (p : Port) (x : CardPort) : (setPort s p x).pending = s.pending := rfl
@[simp] theorem setPort_reader (p : Port) (x : CardPort) (p' : Port) : (setPort s p x).reader p' = s.reader p' := rfl
@[simp] theorem setPort_use (p : Port) (x : CardPort) (p' : Port) : (setPort s p x).use p' = s.use p' := rfl
@[simp] theorem setPort_dest (p : Port) (x : CardPort) (d' : Dest) : (setPort s p x).dest d' = s.dest d' := rfl
@[simp] theorem setPort_engine (p : Port) (x : CardPort) (e' : EngineIx) : (setPort s p x).engine e' = s.engine e' := rfl
@[simp] theorem setPort_monitor (p : Port) (x : CardPort) (d' : Dest) : (setPort s p x).monitor d' = s.monitor d' := rfl
@[simp] theorem setPort_job (p : Port) (x : CardPort) (h' : Nat) : (setPort s p x).job h' = s.job h' := rfl
@[simp] theorem setPort_clip (p : Port) (x : CardPort) (c' : Nat) : (setPort s p x).clip c' = s.clip c' := rfl
@[simp] theorem setPort_slot (p : Port) (x : CardPort) (n' : Nat) : (setPort s p x).slot n' = s.slot n' := rfl

/-! ### setReader -/

@[simp] theorem setReader_resetLow (p : Port) (x : Reader) : (setReader s p x).resetLow = s.resetLow := rfl
@[simp] theorem setReader_rate (p : Port) (x : Reader) : (setReader s p x).rate = s.rate := rfl
@[simp] theorem setReader_rx (p : Port) (x : Reader) : (setReader s p x).rx = s.rx := rfl
@[simp] theorem setReader_inbound (p : Port) (x : Reader) : (setReader s p x).inbound = s.inbound := rfl
@[simp] theorem setReader_dispatch (p : Port) (x : Reader) : (setReader s p x).dispatch = s.dispatch := rfl
@[simp] theorem setReader_waitingReply (p : Port) (x : Reader) : (setReader s p x).waitingReply = s.waitingReply := rfl
@[simp] theorem setReader_sending (p : Port) (x : Reader) : (setReader s p x).sending = s.sending := rfl
@[simp] theorem setReader_resetPending (p : Port) (x : Reader) : (setReader s p x).resetPending = s.resetPending := rfl
@[simp] theorem setReader_linkFlags (p : Port) (x : Reader) : (setReader s p x).linkFlags = s.linkFlags := rfl
@[simp] theorem setReader_cfg (p : Port) (x : Reader) : (setReader s p x).cfg = s.cfg := rfl
@[simp] theorem setReader_ports (p : Port) (x : Reader) : (setReader s p x).ports = s.ports := rfl
@[simp] theorem setReader_surveyQueue (p : Port) (x : Reader) : (setReader s p x).surveyQueue = s.surveyQueue := rfl
@[simp] theorem setReader_survey (p : Port) (x : Reader) : (setReader s p x).survey = s.survey := rfl
@[simp] theorem setReader_known (p : Port) (x : Reader) : (setReader s p x).known = s.known := rfl
@[simp] theorem setReader_jobs (p : Port) (x : Reader) : (setReader s p x).jobs = s.jobs := rfl
@[simp] theorem setReader_clips (p : Port) (x : Reader) : (setReader s p x).clips = s.clips := rfl
@[simp] theorem setReader_slots (p : Port) (x : Reader) : (setReader s p x).slots = s.slots := rfl
@[simp] theorem setReader_freeSlots (p : Port) (x : Reader) : (setReader s p x).freeSlots = s.freeSlots := rfl
@[simp] theorem setReader_lastGranted (p : Port) (x : Reader) : (setReader s p x).lastGranted = s.lastGranted := rfl
@[simp] theorem setReader_mem (p : Port) (x : Reader) : (setReader s p x).mem = s.mem := rfl
@[simp] theorem setReader_portUse (p : Port) (x : Reader) : (setReader s p x).portUse = s.portUse := rfl
@[simp] theorem setReader_dests (p : Port) (x : Reader) : (setReader s p x).dests = s.dests := rfl
@[simp] theorem setReader_verifyQueue (p : Port) (x : Reader) : (setReader s p x).verifyQueue = s.verifyQueue := rfl
@[simp] theorem setReader_engines (p : Port) (x : Reader) : (setReader s p x).engines = s.engines := rfl
@[simp] theorem setReader_windowPeriod (p : Port) (x : Reader) : (setReader s p x).windowPeriod = s.windowPeriod := rfl
@[simp] theorem setReader_windowStart (p : Port) (x : Reader) : (setReader s p x).windowStart = s.windowStart := rfl
@[simp] theorem setReader_windowCount (p : Port) (x : Reader) : (setReader s p x).windowCount = s.windowCount := rfl
@[simp] theorem setReader_monitors (p : Port) (x : Reader) : (setReader s p x).monitors = s.monitors := rfl
@[simp] theorem setReader_notices (p : Port) (x : Reader) : (setReader s p x).notices = s.notices := rfl
@[simp] theorem setReader_missed (p : Port) (x : Reader) : (setReader s p x).missed = s.missed := rfl
@[simp] theorem setReader_expiryCount (p : Port) (x : Reader) : (setReader s p x).expiryCount = s.expiryCount := rfl
@[simp] theorem setReader_now (p : Port) (x : Reader) : (setReader s p x).now = s.now := rfl
@[simp] theorem setReader_pending (p : Port) (x : Reader) : (setReader s p x).pending = s.pending := rfl
@[simp] theorem setReader_port (p : Port) (x : Reader) (p' : Port) : (setReader s p x).port p' = s.port p' := rfl
@[simp] theorem setReader_use (p : Port) (x : Reader) (p' : Port) : (setReader s p x).use p' = s.use p' := rfl
@[simp] theorem setReader_dest (p : Port) (x : Reader) (d' : Dest) : (setReader s p x).dest d' = s.dest d' := rfl
@[simp] theorem setReader_engine (p : Port) (x : Reader) (e' : EngineIx) : (setReader s p x).engine e' = s.engine e' := rfl
@[simp] theorem setReader_monitor (p : Port) (x : Reader) (d' : Dest) : (setReader s p x).monitor d' = s.monitor d' := rfl
@[simp] theorem setReader_job (p : Port) (x : Reader) (h' : Nat) : (setReader s p x).job h' = s.job h' := rfl
@[simp] theorem setReader_clip (p : Port) (x : Reader) (c' : Nat) : (setReader s p x).clip c' = s.clip c' := rfl
@[simp] theorem setReader_slot (p : Port) (x : Reader) (n' : Nat) : (setReader s p x).slot n' = s.slot n' := rfl

/-! ### setDest -/

@[simp] theorem setDest_resetLow (d : Dest) (x : DestPort) : (setDest s d x).resetLow = s.resetLow := rfl
@[simp] theorem setDest_rate (d : Dest) (x : DestPort) : (setDest s d x).rate = s.rate := rfl
@[simp] theorem setDest_rx (d : Dest) (x : DestPort) : (setDest s d x).rx = s.rx := rfl
@[simp] theorem setDest_inbound (d : Dest) (x : DestPort) : (setDest s d x).inbound = s.inbound := rfl
@[simp] theorem setDest_dispatch (d : Dest) (x : DestPort) : (setDest s d x).dispatch = s.dispatch := rfl
@[simp] theorem setDest_waitingReply (d : Dest) (x : DestPort) : (setDest s d x).waitingReply = s.waitingReply := rfl
@[simp] theorem setDest_sending (d : Dest) (x : DestPort) : (setDest s d x).sending = s.sending := rfl
@[simp] theorem setDest_resetPending (d : Dest) (x : DestPort) : (setDest s d x).resetPending = s.resetPending := rfl
@[simp] theorem setDest_linkFlags (d : Dest) (x : DestPort) : (setDest s d x).linkFlags = s.linkFlags := rfl
@[simp] theorem setDest_cfg (d : Dest) (x : DestPort) : (setDest s d x).cfg = s.cfg := rfl
@[simp] theorem setDest_ports (d : Dest) (x : DestPort) : (setDest s d x).ports = s.ports := rfl
@[simp] theorem setDest_surveyQueue (d : Dest) (x : DestPort) : (setDest s d x).surveyQueue = s.surveyQueue := rfl
@[simp] theorem setDest_survey (d : Dest) (x : DestPort) : (setDest s d x).survey = s.survey := rfl
@[simp] theorem setDest_known (d : Dest) (x : DestPort) : (setDest s d x).known = s.known := rfl
@[simp] theorem setDest_jobs (d : Dest) (x : DestPort) : (setDest s d x).jobs = s.jobs := rfl
@[simp] theorem setDest_clips (d : Dest) (x : DestPort) : (setDest s d x).clips = s.clips := rfl
@[simp] theorem setDest_slots (d : Dest) (x : DestPort) : (setDest s d x).slots = s.slots := rfl
@[simp] theorem setDest_freeSlots (d : Dest) (x : DestPort) : (setDest s d x).freeSlots = s.freeSlots := rfl
@[simp] theorem setDest_lastGranted (d : Dest) (x : DestPort) : (setDest s d x).lastGranted = s.lastGranted := rfl
@[simp] theorem setDest_mem (d : Dest) (x : DestPort) : (setDest s d x).mem = s.mem := rfl
@[simp] theorem setDest_readers (d : Dest) (x : DestPort) : (setDest s d x).readers = s.readers := rfl
@[simp] theorem setDest_portUse (d : Dest) (x : DestPort) : (setDest s d x).portUse = s.portUse := rfl
@[simp] theorem setDest_verifyQueue (d : Dest) (x : DestPort) : (setDest s d x).verifyQueue = s.verifyQueue := rfl
@[simp] theorem setDest_engines (d : Dest) (x : DestPort) : (setDest s d x).engines = s.engines := rfl
@[simp] theorem setDest_windowPeriod (d : Dest) (x : DestPort) : (setDest s d x).windowPeriod = s.windowPeriod := rfl
@[simp] theorem setDest_windowStart (d : Dest) (x : DestPort) : (setDest s d x).windowStart = s.windowStart := rfl
@[simp] theorem setDest_windowCount (d : Dest) (x : DestPort) : (setDest s d x).windowCount = s.windowCount := rfl
@[simp] theorem setDest_monitors (d : Dest) (x : DestPort) : (setDest s d x).monitors = s.monitors := rfl
@[simp] theorem setDest_notices (d : Dest) (x : DestPort) : (setDest s d x).notices = s.notices := rfl
@[simp] theorem setDest_missed (d : Dest) (x : DestPort) : (setDest s d x).missed = s.missed := rfl
@[simp] theorem setDest_expiryCount (d : Dest) (x : DestPort) : (setDest s d x).expiryCount = s.expiryCount := rfl
@[simp] theorem setDest_now (d : Dest) (x : DestPort) : (setDest s d x).now = s.now := rfl
@[simp] theorem setDest_pending (d : Dest) (x : DestPort) : (setDest s d x).pending = s.pending := rfl
@[simp] theorem setDest_port (d : Dest) (x : DestPort) (p' : Port) : (setDest s d x).port p' = s.port p' := rfl
@[simp] theorem setDest_reader (d : Dest) (x : DestPort) (p' : Port) : (setDest s d x).reader p' = s.reader p' := rfl
@[simp] theorem setDest_use (d : Dest) (x : DestPort) (p' : Port) : (setDest s d x).use p' = s.use p' := rfl
@[simp] theorem setDest_engine (d : Dest) (x : DestPort) (e' : EngineIx) : (setDest s d x).engine e' = s.engine e' := rfl
@[simp] theorem setDest_monitor (d : Dest) (x : DestPort) (d' : Dest) : (setDest s d x).monitor d' = s.monitor d' := rfl
@[simp] theorem setDest_job (d : Dest) (x : DestPort) (h' : Nat) : (setDest s d x).job h' = s.job h' := rfl
@[simp] theorem setDest_clip (d : Dest) (x : DestPort) (c' : Nat) : (setDest s d x).clip c' = s.clip c' := rfl
@[simp] theorem setDest_slot (d : Dest) (x : DestPort) (n' : Nat) : (setDest s d x).slot n' = s.slot n' := rfl

/-! ### setEngine -/

@[simp] theorem setEngine_resetLow (e : EngineIx) (x : Engine) : (setEngine s e x).resetLow = s.resetLow := rfl
@[simp] theorem setEngine_rate (e : EngineIx) (x : Engine) : (setEngine s e x).rate = s.rate := rfl
@[simp] theorem setEngine_rx (e : EngineIx) (x : Engine) : (setEngine s e x).rx = s.rx := rfl
@[simp] theorem setEngine_inbound (e : EngineIx) (x : Engine) : (setEngine s e x).inbound = s.inbound := rfl
@[simp] theorem setEngine_dispatch (e : EngineIx) (x : Engine) : (setEngine s e x).dispatch = s.dispatch := rfl
@[simp] theorem setEngine_waitingReply (e : EngineIx) (x : Engine) : (setEngine s e x).waitingReply = s.waitingReply := rfl
@[simp] theorem setEngine_sending (e : EngineIx) (x : Engine) : (setEngine s e x).sending = s.sending := rfl
@[simp] theorem setEngine_resetPending (e : EngineIx) (x : Engine) : (setEngine s e x).resetPending = s.resetPending := rfl
@[simp] theorem setEngine_linkFlags (e : EngineIx) (x : Engine) : (setEngine s e x).linkFlags = s.linkFlags := rfl
@[simp] theorem setEngine_cfg (e : EngineIx) (x : Engine) : (setEngine s e x).cfg = s.cfg := rfl
@[simp] theorem setEngine_ports (e : EngineIx) (x : Engine) : (setEngine s e x).ports = s.ports := rfl
@[simp] theorem setEngine_surveyQueue (e : EngineIx) (x : Engine) : (setEngine s e x).surveyQueue = s.surveyQueue := rfl
@[simp] theorem setEngine_survey (e : EngineIx) (x : Engine) : (setEngine s e x).survey = s.survey := rfl
@[simp] theorem setEngine_known (e : EngineIx) (x : Engine) : (setEngine s e x).known = s.known := rfl
@[simp] theorem setEngine_jobs (e : EngineIx) (x : Engine) : (setEngine s e x).jobs = s.jobs := rfl
@[simp] theorem setEngine_clips (e : EngineIx) (x : Engine) : (setEngine s e x).clips = s.clips := rfl
@[simp] theorem setEngine_slots (e : EngineIx) (x : Engine) : (setEngine s e x).slots = s.slots := rfl
@[simp] theorem setEngine_freeSlots (e : EngineIx) (x : Engine) : (setEngine s e x).freeSlots = s.freeSlots := rfl
@[simp] theorem setEngine_lastGranted (e : EngineIx) (x : Engine) : (setEngine s e x).lastGranted = s.lastGranted := rfl
@[simp] theorem setEngine_mem (e : EngineIx) (x : Engine) : (setEngine s e x).mem = s.mem := rfl
@[simp] theorem setEngine_readers (e : EngineIx) (x : Engine) : (setEngine s e x).readers = s.readers := rfl
@[simp] theorem setEngine_portUse (e : EngineIx) (x : Engine) : (setEngine s e x).portUse = s.portUse := rfl
@[simp] theorem setEngine_dests (e : EngineIx) (x : Engine) : (setEngine s e x).dests = s.dests := rfl
@[simp] theorem setEngine_verifyQueue (e : EngineIx) (x : Engine) : (setEngine s e x).verifyQueue = s.verifyQueue := rfl
@[simp] theorem setEngine_windowPeriod (e : EngineIx) (x : Engine) : (setEngine s e x).windowPeriod = s.windowPeriod := rfl
@[simp] theorem setEngine_windowStart (e : EngineIx) (x : Engine) : (setEngine s e x).windowStart = s.windowStart := rfl
@[simp] theorem setEngine_windowCount (e : EngineIx) (x : Engine) : (setEngine s e x).windowCount = s.windowCount := rfl
@[simp] theorem setEngine_monitors (e : EngineIx) (x : Engine) : (setEngine s e x).monitors = s.monitors := rfl
@[simp] theorem setEngine_notices (e : EngineIx) (x : Engine) : (setEngine s e x).notices = s.notices := rfl
@[simp] theorem setEngine_missed (e : EngineIx) (x : Engine) : (setEngine s e x).missed = s.missed := rfl
@[simp] theorem setEngine_expiryCount (e : EngineIx) (x : Engine) : (setEngine s e x).expiryCount = s.expiryCount := rfl
@[simp] theorem setEngine_now (e : EngineIx) (x : Engine) : (setEngine s e x).now = s.now := rfl
@[simp] theorem setEngine_pending (e : EngineIx) (x : Engine) : (setEngine s e x).pending = s.pending := rfl
@[simp] theorem setEngine_port (e : EngineIx) (x : Engine) (p' : Port) : (setEngine s e x).port p' = s.port p' := rfl
@[simp] theorem setEngine_reader (e : EngineIx) (x : Engine) (p' : Port) : (setEngine s e x).reader p' = s.reader p' := rfl
@[simp] theorem setEngine_use (e : EngineIx) (x : Engine) (p' : Port) : (setEngine s e x).use p' = s.use p' := rfl
@[simp] theorem setEngine_dest (e : EngineIx) (x : Engine) (d' : Dest) : (setEngine s e x).dest d' = s.dest d' := rfl
@[simp] theorem setEngine_monitor (e : EngineIx) (x : Engine) (d' : Dest) : (setEngine s e x).monitor d' = s.monitor d' := rfl
@[simp] theorem setEngine_job (e : EngineIx) (x : Engine) (h' : Nat) : (setEngine s e x).job h' = s.job h' := rfl
@[simp] theorem setEngine_clip (e : EngineIx) (x : Engine) (c' : Nat) : (setEngine s e x).clip c' = s.clip c' := rfl
@[simp] theorem setEngine_slot (e : EngineIx) (x : Engine) (n' : Nat) : (setEngine s e x).slot n' = s.slot n' := rfl

/-! ### setMonitor -/

@[simp] theorem setMonitor_resetLow (d : Dest) (x : Monitor) : (setMonitor s d x).resetLow = s.resetLow := rfl
@[simp] theorem setMonitor_rate (d : Dest) (x : Monitor) : (setMonitor s d x).rate = s.rate := rfl
@[simp] theorem setMonitor_rx (d : Dest) (x : Monitor) : (setMonitor s d x).rx = s.rx := rfl
@[simp] theorem setMonitor_inbound (d : Dest) (x : Monitor) : (setMonitor s d x).inbound = s.inbound := rfl
@[simp] theorem setMonitor_dispatch (d : Dest) (x : Monitor) : (setMonitor s d x).dispatch = s.dispatch := rfl
@[simp] theorem setMonitor_waitingReply (d : Dest) (x : Monitor) : (setMonitor s d x).waitingReply = s.waitingReply := rfl
@[simp] theorem setMonitor_sending (d : Dest) (x : Monitor) : (setMonitor s d x).sending = s.sending := rfl
@[simp] theorem setMonitor_resetPending (d : Dest) (x : Monitor) : (setMonitor s d x).resetPending = s.resetPending := rfl
@[simp] theorem setMonitor_linkFlags (d : Dest) (x : Monitor) : (setMonitor s d x).linkFlags = s.linkFlags := rfl
@[simp] theorem setMonitor_cfg (d : Dest) (x : Monitor) : (setMonitor s d x).cfg = s.cfg := rfl
@[simp] theorem setMonitor_ports (d : Dest) (x : Monitor) : (setMonitor s d x).ports = s.ports := rfl
@[simp] theorem setMonitor_surveyQueue (d : Dest) (x : Monitor) : (setMonitor s d x).surveyQueue = s.surveyQueue := rfl
@[simp] theorem setMonitor_survey (d : Dest) (x : Monitor) : (setMonitor s d x).survey = s.survey := rfl
@[simp] theorem setMonitor_known (d : Dest) (x : Monitor) : (setMonitor s d x).known = s.known := rfl
@[simp] theorem setMonitor_jobs (d : Dest) (x : Monitor) : (setMonitor s d x).jobs = s.jobs := rfl
@[simp] theorem setMonitor_clips (d : Dest) (x : Monitor) : (setMonitor s d x).clips = s.clips := rfl
@[simp] theorem setMonitor_slots (d : Dest) (x : Monitor) : (setMonitor s d x).slots = s.slots := rfl
@[simp] theorem setMonitor_freeSlots (d : Dest) (x : Monitor) : (setMonitor s d x).freeSlots = s.freeSlots := rfl
@[simp] theorem setMonitor_lastGranted (d : Dest) (x : Monitor) : (setMonitor s d x).lastGranted = s.lastGranted := rfl
@[simp] theorem setMonitor_mem (d : Dest) (x : Monitor) : (setMonitor s d x).mem = s.mem := rfl
@[simp] theorem setMonitor_readers (d : Dest) (x : Monitor) : (setMonitor s d x).readers = s.readers := rfl
@[simp] theorem setMonitor_portUse (d : Dest) (x : Monitor) : (setMonitor s d x).portUse = s.portUse := rfl
@[simp] theorem setMonitor_dests (d : Dest) (x : Monitor) : (setMonitor s d x).dests = s.dests := rfl
@[simp] theorem setMonitor_verifyQueue (d : Dest) (x : Monitor) : (setMonitor s d x).verifyQueue = s.verifyQueue := rfl
@[simp] theorem setMonitor_engines (d : Dest) (x : Monitor) : (setMonitor s d x).engines = s.engines := rfl
@[simp] theorem setMonitor_windowPeriod (d : Dest) (x : Monitor) : (setMonitor s d x).windowPeriod = s.windowPeriod := rfl
@[simp] theorem setMonitor_windowStart (d : Dest) (x : Monitor) : (setMonitor s d x).windowStart = s.windowStart := rfl
@[simp] theorem setMonitor_windowCount (d : Dest) (x : Monitor) : (setMonitor s d x).windowCount = s.windowCount := rfl
@[simp] theorem setMonitor_notices (d : Dest) (x : Monitor) : (setMonitor s d x).notices = s.notices := rfl
@[simp] theorem setMonitor_missed (d : Dest) (x : Monitor) : (setMonitor s d x).missed = s.missed := rfl
@[simp] theorem setMonitor_expiryCount (d : Dest) (x : Monitor) : (setMonitor s d x).expiryCount = s.expiryCount := rfl
@[simp] theorem setMonitor_now (d : Dest) (x : Monitor) : (setMonitor s d x).now = s.now := rfl
@[simp] theorem setMonitor_pending (d : Dest) (x : Monitor) : (setMonitor s d x).pending = s.pending := rfl
@[simp] theorem setMonitor_port (d : Dest) (x : Monitor) (p' : Port) : (setMonitor s d x).port p' = s.port p' := rfl
@[simp] theorem setMonitor_reader (d : Dest) (x : Monitor) (p' : Port) : (setMonitor s d x).reader p' = s.reader p' := rfl
@[simp] theorem setMonitor_use (d : Dest) (x : Monitor) (p' : Port) : (setMonitor s d x).use p' = s.use p' := rfl
@[simp] theorem setMonitor_dest (d : Dest) (x : Monitor) (d' : Dest) : (setMonitor s d x).dest d' = s.dest d' := rfl
@[simp] theorem setMonitor_engine (d : Dest) (x : Monitor) (e' : EngineIx) : (setMonitor s d x).engine e' = s.engine e' := rfl
@[simp] theorem setMonitor_job (d : Dest) (x : Monitor) (h' : Nat) : (setMonitor s d x).job h' = s.job h' := rfl
@[simp] theorem setMonitor_clip (d : Dest) (x : Monitor) (c' : Nat) : (setMonitor s d x).clip c' = s.clip c' := rfl
@[simp] theorem setMonitor_slot (d : Dest) (x : Monitor) (n' : Nat) : (setMonitor s d x).slot n' = s.slot n' := rfl

/-! ### setJob -/

@[simp] theorem setJob_resetLow (h : Nat) (j : Job) : (setJob s h j).resetLow = s.resetLow := rfl
@[simp] theorem setJob_rate (h : Nat) (j : Job) : (setJob s h j).rate = s.rate := rfl
@[simp] theorem setJob_rx (h : Nat) (j : Job) : (setJob s h j).rx = s.rx := rfl
@[simp] theorem setJob_inbound (h : Nat) (j : Job) : (setJob s h j).inbound = s.inbound := rfl
@[simp] theorem setJob_dispatch (h : Nat) (j : Job) : (setJob s h j).dispatch = s.dispatch := rfl
@[simp] theorem setJob_waitingReply (h : Nat) (j : Job) : (setJob s h j).waitingReply = s.waitingReply := rfl
@[simp] theorem setJob_sending (h : Nat) (j : Job) : (setJob s h j).sending = s.sending := rfl
@[simp] theorem setJob_resetPending (h : Nat) (j : Job) : (setJob s h j).resetPending = s.resetPending := rfl
@[simp] theorem setJob_linkFlags (h : Nat) (j : Job) : (setJob s h j).linkFlags = s.linkFlags := rfl
@[simp] theorem setJob_cfg (h : Nat) (j : Job) : (setJob s h j).cfg = s.cfg := rfl
@[simp] theorem setJob_ports (h : Nat) (j : Job) : (setJob s h j).ports = s.ports := rfl
@[simp] theorem setJob_surveyQueue (h : Nat) (j : Job) : (setJob s h j).surveyQueue = s.surveyQueue := rfl
@[simp] theorem setJob_survey (h : Nat) (j : Job) : (setJob s h j).survey = s.survey := rfl
@[simp] theorem setJob_known (h : Nat) (j : Job) : (setJob s h j).known = s.known := rfl
@[simp] theorem setJob_clips (h : Nat) (j : Job) : (setJob s h j).clips = s.clips := rfl
@[simp] theorem setJob_slots (h : Nat) (j : Job) : (setJob s h j).slots = s.slots := rfl
@[simp] theorem setJob_freeSlots (h : Nat) (j : Job) : (setJob s h j).freeSlots = s.freeSlots := rfl
@[simp] theorem setJob_lastGranted (h : Nat) (j : Job) : (setJob s h j).lastGranted = s.lastGranted := rfl
@[simp] theorem setJob_mem (h : Nat) (j : Job) : (setJob s h j).mem = s.mem := rfl
@[simp] theorem setJob_readers (h : Nat) (j : Job) : (setJob s h j).readers = s.readers := rfl
@[simp] theorem setJob_portUse (h : Nat) (j : Job) : (setJob s h j).portUse = s.portUse := rfl
@[simp] theorem setJob_dests (h : Nat) (j : Job) : (setJob s h j).dests = s.dests := rfl
@[simp] theorem setJob_verifyQueue (h : Nat) (j : Job) : (setJob s h j).verifyQueue = s.verifyQueue := rfl
@[simp] theorem setJob_engines (h : Nat) (j : Job) : (setJob s h j).engines = s.engines := rfl
@[simp] theorem setJob_windowPeriod (h : Nat) (j : Job) : (setJob s h j).windowPeriod = s.windowPeriod := rfl
@[simp] theorem setJob_windowStart (h : Nat) (j : Job) : (setJob s h j).windowStart = s.windowStart := rfl
@[simp] theorem setJob_windowCount (h : Nat) (j : Job) : (setJob s h j).windowCount = s.windowCount := rfl
@[simp] theorem setJob_monitors (h : Nat) (j : Job) : (setJob s h j).monitors = s.monitors := rfl
@[simp] theorem setJob_notices (h : Nat) (j : Job) : (setJob s h j).notices = s.notices := rfl
@[simp] theorem setJob_missed (h : Nat) (j : Job) : (setJob s h j).missed = s.missed := rfl
@[simp] theorem setJob_expiryCount (h : Nat) (j : Job) : (setJob s h j).expiryCount = s.expiryCount := rfl
@[simp] theorem setJob_now (h : Nat) (j : Job) : (setJob s h j).now = s.now := rfl
@[simp] theorem setJob_pending (h : Nat) (j : Job) : (setJob s h j).pending = s.pending := rfl
@[simp] theorem setJob_port (h : Nat) (j : Job) (p' : Port) : (setJob s h j).port p' = s.port p' := rfl
@[simp] theorem setJob_reader (h : Nat) (j : Job) (p' : Port) : (setJob s h j).reader p' = s.reader p' := rfl
@[simp] theorem setJob_use (h : Nat) (j : Job) (p' : Port) : (setJob s h j).use p' = s.use p' := rfl
@[simp] theorem setJob_dest (h : Nat) (j : Job) (d' : Dest) : (setJob s h j).dest d' = s.dest d' := rfl
@[simp] theorem setJob_engine (h : Nat) (j : Job) (e' : EngineIx) : (setJob s h j).engine e' = s.engine e' := rfl
@[simp] theorem setJob_monitor (h : Nat) (j : Job) (d' : Dest) : (setJob s h j).monitor d' = s.monitor d' := rfl
@[simp] theorem setJob_clip (h : Nat) (j : Job) (c' : Nat) : (setJob s h j).clip c' = s.clip c' := rfl
@[simp] theorem setJob_slot (h : Nat) (j : Job) (n' : Nat) : (setJob s h j).slot n' = s.slot n' := rfl

/-! ### setClip -/

@[simp] theorem setClip_resetLow (c : Nat) (k : Clip) : (setClip s c k).resetLow = s.resetLow := rfl
@[simp] theorem setClip_rate (c : Nat) (k : Clip) : (setClip s c k).rate = s.rate := rfl
@[simp] theorem setClip_rx (c : Nat) (k : Clip) : (setClip s c k).rx = s.rx := rfl
@[simp] theorem setClip_inbound (c : Nat) (k : Clip) : (setClip s c k).inbound = s.inbound := rfl
@[simp] theorem setClip_dispatch (c : Nat) (k : Clip) : (setClip s c k).dispatch = s.dispatch := rfl
@[simp] theorem setClip_waitingReply (c : Nat) (k : Clip) : (setClip s c k).waitingReply = s.waitingReply := rfl
@[simp] theorem setClip_sending (c : Nat) (k : Clip) : (setClip s c k).sending = s.sending := rfl
@[simp] theorem setClip_resetPending (c : Nat) (k : Clip) : (setClip s c k).resetPending = s.resetPending := rfl
@[simp] theorem setClip_linkFlags (c : Nat) (k : Clip) : (setClip s c k).linkFlags = s.linkFlags := rfl
@[simp] theorem setClip_cfg (c : Nat) (k : Clip) : (setClip s c k).cfg = s.cfg := rfl
@[simp] theorem setClip_ports (c : Nat) (k : Clip) : (setClip s c k).ports = s.ports := rfl
@[simp] theorem setClip_surveyQueue (c : Nat) (k : Clip) : (setClip s c k).surveyQueue = s.surveyQueue := rfl
@[simp] theorem setClip_survey (c : Nat) (k : Clip) : (setClip s c k).survey = s.survey := rfl
@[simp] theorem setClip_known (c : Nat) (k : Clip) : (setClip s c k).known = s.known := rfl
@[simp] theorem setClip_jobs (c : Nat) (k : Clip) : (setClip s c k).jobs = s.jobs := rfl
@[simp] theorem setClip_slots (c : Nat) (k : Clip) : (setClip s c k).slots = s.slots := rfl
@[simp] theorem setClip_freeSlots (c : Nat) (k : Clip) : (setClip s c k).freeSlots = s.freeSlots := rfl
@[simp] theorem setClip_lastGranted (c : Nat) (k : Clip) : (setClip s c k).lastGranted = s.lastGranted := rfl
@[simp] theorem setClip_mem (c : Nat) (k : Clip) : (setClip s c k).mem = s.mem := rfl
@[simp] theorem setClip_readers (c : Nat) (k : Clip) : (setClip s c k).readers = s.readers := rfl
@[simp] theorem setClip_portUse (c : Nat) (k : Clip) : (setClip s c k).portUse = s.portUse := rfl
@[simp] theorem setClip_dests (c : Nat) (k : Clip) : (setClip s c k).dests = s.dests := rfl
@[simp] theorem setClip_verifyQueue (c : Nat) (k : Clip) : (setClip s c k).verifyQueue = s.verifyQueue := rfl
@[simp] theorem setClip_engines (c : Nat) (k : Clip) : (setClip s c k).engines = s.engines := rfl
@[simp] theorem setClip_windowPeriod (c : Nat) (k : Clip) : (setClip s c k).windowPeriod = s.windowPeriod := rfl
@[simp] theorem setClip_windowStart (c : Nat) (k : Clip) : (setClip s c k).windowStart = s.windowStart := rfl
@[simp] theorem setClip_windowCount (c : Nat) (k : Clip) : (setClip s c k).windowCount = s.windowCount := rfl
@[simp] theorem setClip_monitors (c : Nat) (k : Clip) : (setClip s c k).monitors = s.monitors := rfl
@[simp] theorem setClip_notices (c : Nat) (k : Clip) : (setClip s c k).notices = s.notices := rfl
@[simp] theorem setClip_missed (c : Nat) (k : Clip) : (setClip s c k).missed = s.missed := rfl
@[simp] theorem setClip_expiryCount (c : Nat) (k : Clip) : (setClip s c k).expiryCount = s.expiryCount := rfl
@[simp] theorem setClip_now (c : Nat) (k : Clip) : (setClip s c k).now = s.now := rfl
@[simp] theorem setClip_pending (c : Nat) (k : Clip) : (setClip s c k).pending = s.pending := rfl
@[simp] theorem setClip_port (c : Nat) (k : Clip) (p' : Port) : (setClip s c k).port p' = s.port p' := rfl
@[simp] theorem setClip_reader (c : Nat) (k : Clip) (p' : Port) : (setClip s c k).reader p' = s.reader p' := rfl
@[simp] theorem setClip_use (c : Nat) (k : Clip) (p' : Port) : (setClip s c k).use p' = s.use p' := rfl
@[simp] theorem setClip_dest (c : Nat) (k : Clip) (d' : Dest) : (setClip s c k).dest d' = s.dest d' := rfl
@[simp] theorem setClip_engine (c : Nat) (k : Clip) (e' : EngineIx) : (setClip s c k).engine e' = s.engine e' := rfl
@[simp] theorem setClip_monitor (c : Nat) (k : Clip) (d' : Dest) : (setClip s c k).monitor d' = s.monitor d' := rfl
@[simp] theorem setClip_job (c : Nat) (k : Clip) (h' : Nat) : (setClip s c k).job h' = s.job h' := rfl
@[simp] theorem setClip_slot (c : Nat) (k : Clip) (n' : Nat) : (setClip s c k).slot n' = s.slot n' := rfl

/-! ### setSlot -/

@[simp] theorem setSlot_resetLow (n : Nat) (x : Slot) : (setSlot s n x).resetLow = s.resetLow := rfl
@[simp] theorem setSlot_rate (n : Nat) (x : Slot) : (setSlot s n x).rate = s.rate := rfl
@[simp] theorem setSlot_rx (n : Nat) (x : Slot) : (setSlot s n x).rx = s.rx := rfl
@[simp] theorem setSlot_inbound (n : Nat) (x : Slot) : (setSlot s n x).inbound = s.inbound := rfl
@[simp] theorem setSlot_dispatch (n : Nat) (x : Slot) : (setSlot s n x).dispatch = s.dispatch := rfl
@[simp] theorem setSlot_waitingReply (n : Nat) (x : Slot) : (setSlot s n x).waitingReply = s.waitingReply := rfl
@[simp] theorem setSlot_sending (n : Nat) (x : Slot) : (setSlot s n x).sending = s.sending := rfl
@[simp] theorem setSlot_resetPending (n : Nat) (x : Slot) : (setSlot s n x).resetPending = s.resetPending := rfl
@[simp] theorem setSlot_linkFlags (n : Nat) (x : Slot) : (setSlot s n x).linkFlags = s.linkFlags := rfl
@[simp] theorem setSlot_cfg (n : Nat) (x : Slot) : (setSlot s n x).cfg = s.cfg := rfl
@[simp] theorem setSlot_ports (n : Nat) (x : Slot) : (setSlot s n x).ports = s.ports := rfl
@[simp] theorem setSlot_surveyQueue (n : Nat) (x : Slot) : (setSlot s n x).surveyQueue = s.surveyQueue := rfl
@[simp] theorem setSlot_survey (n : Nat) (x : Slot) : (setSlot s n x).survey = s.survey := rfl
@[simp] theorem setSlot_known (n : Nat) (x : Slot) : (setSlot s n x).known = s.known := rfl
@[simp] theorem setSlot_jobs (n : Nat) (x : Slot) : (setSlot s n x).jobs = s.jobs := rfl
@[simp] theorem setSlot_clips (n : Nat) (x : Slot) : (setSlot s n x).clips = s.clips := rfl
@[simp] theorem setSlot_freeSlots (n : Nat) (x : Slot) : (setSlot s n x).freeSlots = s.freeSlots := rfl
@[simp] theorem setSlot_lastGranted (n : Nat) (x : Slot) : (setSlot s n x).lastGranted = s.lastGranted := rfl
@[simp] theorem setSlot_mem (n : Nat) (x : Slot) : (setSlot s n x).mem = s.mem := rfl
@[simp] theorem setSlot_readers (n : Nat) (x : Slot) : (setSlot s n x).readers = s.readers := rfl
@[simp] theorem setSlot_portUse (n : Nat) (x : Slot) : (setSlot s n x).portUse = s.portUse := rfl
@[simp] theorem setSlot_dests (n : Nat) (x : Slot) : (setSlot s n x).dests = s.dests := rfl
@[simp] theorem setSlot_verifyQueue (n : Nat) (x : Slot) : (setSlot s n x).verifyQueue = s.verifyQueue := rfl
@[simp] theorem setSlot_engines (n : Nat) (x : Slot) : (setSlot s n x).engines = s.engines := rfl
@[simp] theorem setSlot_windowPeriod (n : Nat) (x : Slot) : (setSlot s n x).windowPeriod = s.windowPeriod := rfl
@[simp] theorem setSlot_windowStart (n : Nat) (x : Slot) : (setSlot s n x).windowStart = s.windowStart := rfl
@[simp] theorem setSlot_windowCount (n : Nat) (x : Slot) : (setSlot s n x).windowCount = s.windowCount := rfl
@[simp] theorem setSlot_monitors (n : Nat) (x : Slot) : (setSlot s n x).monitors = s.monitors := rfl
@[simp] theorem setSlot_notices (n : Nat) (x : Slot) : (setSlot s n x).notices = s.notices := rfl
@[simp] theorem setSlot_missed (n : Nat) (x : Slot) : (setSlot s n x).missed = s.missed := rfl
@[simp] theorem setSlot_expiryCount (n : Nat) (x : Slot) : (setSlot s n x).expiryCount = s.expiryCount := rfl
@[simp] theorem setSlot_now (n : Nat) (x : Slot) : (setSlot s n x).now = s.now := rfl
@[simp] theorem setSlot_pending (n : Nat) (x : Slot) : (setSlot s n x).pending = s.pending := rfl
@[simp] theorem setSlot_port (n : Nat) (x : Slot) (p' : Port) : (setSlot s n x).port p' = s.port p' := rfl
@[simp] theorem setSlot_reader (n : Nat) (x : Slot) (p' : Port) : (setSlot s n x).reader p' = s.reader p' := rfl
@[simp] theorem setSlot_use (n : Nat) (x : Slot) (p' : Port) : (setSlot s n x).use p' = s.use p' := rfl
@[simp] theorem setSlot_dest (n : Nat) (x : Slot) (d' : Dest) : (setSlot s n x).dest d' = s.dest d' := rfl
@[simp] theorem setSlot_engine (n : Nat) (x : Slot) (e' : EngineIx) : (setSlot s n x).engine e' = s.engine e' := rfl
@[simp] theorem setSlot_monitor (n : Nat) (x : Slot) (d' : Dest) : (setSlot s n x).monitor d' = s.monitor d' := rfl
@[simp] theorem setSlot_job (n : Nat) (x : Slot) (h' : Nat) : (setSlot s n x).job h' = s.job h' := rfl
@[simp] theorem setSlot_clip (n : Nat) (x : Slot) (c' : Nat) : (setSlot s n x).clip c' = s.clip c' := rfl

/-! ### freeSlot -/

@[simp] theorem freeSlot_resetLow (n : Nat) : (freeSlot n s).resetLow = s.resetLow := rfl
@[simp] theorem freeSlot_rate (n : Nat) : (freeSlot n s).rate = s.rate := rfl
@[simp] theorem freeSlot_rx (n : Nat) : (freeSlot n s).rx = s.rx := rfl
@[simp] theorem freeSlot_inbound (n : Nat) : (freeSlot n s).inbound = s.inbound := rfl
@[simp] theorem freeSlot_dispatch (n : Nat) : (freeSlot n s).dispatch = s.dispatch := rfl
@[simp] theorem freeSlot_waitingReply (n : Nat) : (freeSlot n s).waitingReply = s.waitingReply := rfl
@[simp] theorem freeSlot_sending (n : Nat) : (freeSlot n s).sending = s.sending := rfl
@[simp] theorem freeSlot_resetPending (n : Nat) : (freeSlot n s).resetPending = s.resetPending := rfl
@[simp] theorem freeSlot_linkFlags (n : Nat) : (freeSlot n s).linkFlags = s.linkFlags := rfl
@[simp] theorem freeSlot_cfg (n : Nat) : (freeSlot n s).cfg = s.cfg := rfl
@[simp] theorem freeSlot_ports (n : Nat) : (freeSlot n s).ports = s.ports := rfl
@[simp] theorem freeSlot_surveyQueue (n : Nat) : (freeSlot n s).surveyQueue = s.surveyQueue := rfl
@[simp] theorem freeSlot_survey (n : Nat) : (freeSlot n s).survey = s.survey := rfl
@[simp] theorem freeSlot_known (n : Nat) : (freeSlot n s).known = s.known := rfl
@[simp] theorem freeSlot_jobs (n : Nat) : (freeSlot n s).jobs = s.jobs := rfl
@[simp] theorem freeSlot_clips (n : Nat) : (freeSlot n s).clips = s.clips := rfl
@[simp] theorem freeSlot_lastGranted (n : Nat) : (freeSlot n s).lastGranted = s.lastGranted := rfl
@[simp] theorem freeSlot_mem (n : Nat) : (freeSlot n s).mem = s.mem := rfl
@[simp] theorem freeSlot_readers (n : Nat) : (freeSlot n s).readers = s.readers := rfl
@[simp] theorem freeSlot_portUse (n : Nat) : (freeSlot n s).portUse = s.portUse := rfl
@[simp] theorem freeSlot_dests (n : Nat) : (freeSlot n s).dests = s.dests := rfl
@[simp] theorem freeSlot_verifyQueue (n : Nat) : (freeSlot n s).verifyQueue = s.verifyQueue := rfl
@[simp] theorem freeSlot_engines (n : Nat) : (freeSlot n s).engines = s.engines := rfl
@[simp] theorem freeSlot_windowPeriod (n : Nat) : (freeSlot n s).windowPeriod = s.windowPeriod := rfl
@[simp] theorem freeSlot_windowStart (n : Nat) : (freeSlot n s).windowStart = s.windowStart := rfl
@[simp] theorem freeSlot_windowCount (n : Nat) : (freeSlot n s).windowCount = s.windowCount := rfl
@[simp] theorem freeSlot_monitors (n : Nat) : (freeSlot n s).monitors = s.monitors := rfl
@[simp] theorem freeSlot_notices (n : Nat) : (freeSlot n s).notices = s.notices := rfl
@[simp] theorem freeSlot_missed (n : Nat) : (freeSlot n s).missed = s.missed := rfl
@[simp] theorem freeSlot_expiryCount (n : Nat) : (freeSlot n s).expiryCount = s.expiryCount := rfl
@[simp] theorem freeSlot_now (n : Nat) : (freeSlot n s).now = s.now := rfl
@[simp] theorem freeSlot_pending (n : Nat) : (freeSlot n s).pending = s.pending := rfl
@[simp] theorem freeSlot_port (n : Nat) (p' : Port) : (freeSlot n s).port p' = s.port p' := rfl
@[simp] theorem freeSlot_reader (n : Nat) (p' : Port) : (freeSlot n s).reader p' = s.reader p' := rfl
@[simp] theorem freeSlot_use (n : Nat) (p' : Port) : (freeSlot n s).use p' = s.use p' := rfl
@[simp] theorem freeSlot_dest (n : Nat) (d' : Dest) : (freeSlot n s).dest d' = s.dest d' := rfl
@[simp] theorem freeSlot_engine (n : Nat) (e' : EngineIx) : (freeSlot n s).engine e' = s.engine e' := rfl
@[simp] theorem freeSlot_monitor (n : Nat) (d' : Dest) : (freeSlot n s).monitor d' = s.monitor d' := rfl
@[simp] theorem freeSlot_job (n : Nat) (h' : Nat) : (freeSlot n s).job h' = s.job h' := rfl
@[simp] theorem freeSlot_clip (n : Nat) (c' : Nat) : (freeSlot n s).clip c' = s.clip c' := rfl

/-! ### refresh -/

@[simp] theorem refresh_resetLow : (refresh s).resetLow = s.resetLow := rfl
@[simp] theorem refresh_rate : (refresh s).rate = s.rate := rfl
@[simp] theorem refresh_rx : (refresh s).rx = s.rx := rfl
@[simp] theorem refresh_inbound : (refresh s).inbound = s.inbound := rfl
@[simp] theorem refresh_dispatch : (refresh s).dispatch = s.dispatch := rfl
@[simp] theorem refresh_waitingReply : (refresh s).waitingReply = s.waitingReply := rfl
@[simp] theorem refresh_sending : (refresh s).sending = s.sending := rfl
@[simp] theorem refresh_resetPending : (refresh s).resetPending = s.resetPending := rfl
@[simp] theorem refresh_linkFlags : (refresh s).linkFlags = s.linkFlags := rfl
@[simp] theorem refresh_cfg : (refresh s).cfg = s.cfg := rfl
@[simp] theorem refresh_surveyQueue : (refresh s).surveyQueue = s.surveyQueue := rfl
@[simp] theorem refresh_survey : (refresh s).survey = s.survey := rfl
@[simp] theorem refresh_known : (refresh s).known = s.known := rfl
@[simp] theorem refresh_jobs : (refresh s).jobs = s.jobs := rfl
@[simp] theorem refresh_clips : (refresh s).clips = s.clips := rfl
@[simp] theorem refresh_slots : (refresh s).slots = s.slots := rfl
@[simp] theorem refresh_freeSlots : (refresh s).freeSlots = s.freeSlots := rfl
@[simp] theorem refresh_lastGranted : (refresh s).lastGranted = s.lastGranted := rfl
@[simp] theorem refresh_mem : (refresh s).mem = s.mem := rfl
@[simp] theorem refresh_dests : (refresh s).dests = s.dests := rfl
@[simp] theorem refresh_verifyQueue : (refresh s).verifyQueue = s.verifyQueue := rfl
@[simp] theorem refresh_engines : (refresh s).engines = s.engines := rfl
@[simp] theorem refresh_windowPeriod : (refresh s).windowPeriod = s.windowPeriod := rfl
@[simp] theorem refresh_windowStart : (refresh s).windowStart = s.windowStart := rfl
@[simp] theorem refresh_windowCount : (refresh s).windowCount = s.windowCount := rfl
@[simp] theorem refresh_monitors : (refresh s).monitors = s.monitors := rfl
@[simp] theorem refresh_notices : (refresh s).notices = s.notices := rfl
@[simp] theorem refresh_missed : (refresh s).missed = s.missed := rfl
@[simp] theorem refresh_expiryCount : (refresh s).expiryCount = s.expiryCount := rfl
@[simp] theorem refresh_now : (refresh s).now = s.now := rfl
@[simp] theorem refresh_pending : (refresh s).pending = s.pending := rfl
@[simp] theorem refresh_dest (d' : Dest) : (refresh s).dest d' = s.dest d' := rfl
@[simp] theorem refresh_engine (e' : EngineIx) : (refresh s).engine e' = s.engine e' := rfl
@[simp] theorem refresh_monitor (d' : Dest) : (refresh s).monitor d' = s.monitor d' := rfl
@[simp] theorem refresh_job (h' : Nat) : (refresh s).job h' = s.job h' := rfl
@[simp] theorem refresh_clip (c' : Nat) : (refresh s).clip c' = s.clip c' := rfl
@[simp] theorem refresh_slot (n' : Nat) : (refresh s).slot n' = s.slot n' := rfl

/-! ### What an update's own record reads as -/

@[simp] theorem setPort_port_self (p : Port) (x : CardPort) : (setPort s p x).port p = x := by
  simp [State.port, setPort]
theorem setPort_port_of_ne {p q : Port} (h : q ≠ p) (x : CardPort) : (setPort s p x).port q = s.port q := by
  have : p.val ≠ q.val := fun e => h (Fin.ext e.symm)
  simp [State.port, setPort, this]
@[simp] theorem setReader_reader_self (p : Port) (x : Reader) : (setReader s p x).reader p = x := by
  simp [State.reader, setReader]
theorem setReader_reader_of_ne {p q : Port} (h : q ≠ p) (x : Reader) : (setReader s p x).reader q = s.reader q := by
  have : p.val ≠ q.val := fun e => h (Fin.ext e.symm)
  simp [State.reader, setReader, this]
@[simp] theorem setDest_dest_self (d : Dest) (x : DestPort) : (setDest s d x).dest d = x := by
  simp [State.dest, setDest]
theorem setDest_dest_of_ne {d e : Dest} (h : e ≠ d) (x : DestPort) : (setDest s d x).dest e = s.dest e := by
  have : d.val ≠ e.val := fun i => h (Fin.ext i.symm)
  simp [State.dest, setDest, this]
@[simp] theorem setEngine_engine_self (e : EngineIx) (x : Engine) : (setEngine s e x).engine e = x := by
  simp [State.engine, setEngine]
theorem setEngine_engine_of_ne {e f : EngineIx} (h : f ≠ e) (x : Engine) : (setEngine s e x).engine f = s.engine f := by
  have : e.val ≠ f.val := fun i => h (Fin.ext i.symm)
  simp [State.engine, setEngine, this]
@[simp] theorem setMonitor_monitor_self (d : Dest) (x : Monitor) : (setMonitor s d x).monitor d = x := by
  simp [State.monitor, setMonitor]
theorem setMonitor_monitor_of_ne {d e : Dest} (h : e ≠ d) (x : Monitor) : (setMonitor s d x).monitor e = s.monitor e := by
  have : d.val ≠ e.val := fun i => h (Fin.ext i.symm)
  simp [State.monitor, setMonitor, this]

/-! ### Tables -/

/-- A stored record reads back. -/
@[simp] theorem lookup_store_self {α : Type} (t : Table α) (k : Nat) (a : α) : lookup (store t k a) k = some a := by
  induction t with
  | nil => simp [store, lookup]
  | cons e rest ih =>
    obtain ⟨h, b⟩ := e
    simp only [store]
    split
    · simp [lookup]
    · split
      · simp [lookup]
      · rename_i hn
        simp [lookup, hn, ih]

/-- Storing a record leaves every other number's record. -/
theorem lookup_store_of_ne {α : Type} (t : Table α) {k j : Nat} (h : j ≠ k) (a : α) : lookup (store t k a) j = lookup t j := by
  induction t with
  | nil => simp [store, lookup, Ne.symm h]
  | cons e rest ih =>
    obtain ⟨i, b⟩ := e
    simp only [store]
    split
    · simp [lookup, Ne.symm h]
    · split
      · rename_i hi
        subst hi
        simp [lookup, Ne.symm h]
      · simp [lookup, ih]

/-- A freed number has no record. -/
@[simp] theorem lookup_erase_self {α : Type} (t : Table α) (k : Nat) : lookup (erase t k) k = none := by
  induction t with
  | nil => rfl
  | cons e rest ih =>
    obtain ⟨i, b⟩ := e
    by_cases hi : i = k
    · simpa [erase, hi] using ih
    · have : erase ((i, b) :: rest) k = (i, b) :: erase rest k := by simp [erase, hi]
      simp [this, lookup, hi, ih]

/-- Freeing a number leaves every other record. -/
theorem lookup_erase_of_ne {α : Type} (t : Table α) {k j : Nat} (h : j ≠ k) : lookup (erase t k) j = lookup t j := by
  induction t with
  | nil => rfl
  | cons e rest ih =>
    obtain ⟨i, b⟩ := e
    by_cases hi : i = k
    · subst hi
      have : erase ((i, b) :: rest) i = erase rest i := by simp [erase]
      simp [this, lookup, Ne.symm h, ih]
    · have : erase ((i, b) :: rest) k = (i, b) :: erase rest k := by simp [erase, hi]
      simp [this, lookup, ih]

/-- Changing every record in place changes what each number reads as. -/
theorem lookup_map {α : Type} (f : Nat → α → α) (t : Table α) (k : Nat) :
    lookup (t.map (fun e => (e.1, f e.1 e.2))) k = (lookup t k).map (f k) := by
  induction t with
  | nil => rfl
  | cons e rest ih =>
    obtain ⟨i, b⟩ := e
    by_cases hi : i = k
    · simp [lookup, hi]
    · simp [lookup, hi, ih]

@[simp] theorem setJob_job_self (h : Nat) (j : Job) : (setJob s h j).job h = some j := lookup_store_self _ _ _
theorem setJob_job_of_ne {h i : Nat} (hi : i ≠ h) (j : Job) : (setJob s h j).job i = s.job i := lookup_store_of_ne _ hi _
@[simp] theorem setClip_clip_self (c : Nat) (k : Clip) : (setClip s c k).clip c = some k := lookup_store_self _ _ _
theorem setClip_clip_of_ne {c i : Nat} (hi : i ≠ c) (k : Clip) : (setClip s c k).clip i = s.clip i := lookup_store_of_ne _ hi _
@[simp] theorem setSlot_slot_self (n : Nat) (x : Slot) : (setSlot s n x).slot n = some x := lookup_store_self _ _ _
theorem setSlot_slot_of_ne {n i : Nat} (hi : i ≠ n) (x : Slot) : (setSlot s n x).slot i = s.slot i := lookup_store_of_ne _ hi _

/-- The lowest free number is free, lies in its range, and every number below it is in use (R36, R49). -/
theorem firstFree_spec {α : Type} (t : Table α) (n k m : Nat) (h : firstFree t n k = some m) :
    lookup t m = none ∧ k ≤ m ∧ m < k + n ∧ ∀ i, k ≤ i → i < m → (lookup t i).isSome = true := by
  induction n generalizing k with
  | zero => simp [firstFree] at h
  | succ n ih =>
    simp only [firstFree] at h
    split at h
    · rename_i hk
      obtain rfl : k = m := by simpa using h
      exact ⟨by simpa using hk, Nat.le_refl _, by omega, fun i h1 h2 => by omega⟩
    · rename_i hk
      obtain ⟨h1, h2, h3, h4⟩ := ih (k + 1) h
      refine ⟨h1, by omega, by omega, fun i hi hm => ?_⟩
      by_cases e : i = k
      · subst e
        cases hl : lookup t i <;> simp_all
      · exact h4 i (by omega) hm

end Sys2Proof.Machine
end

