-- ==== Sys2Proof/Laws/Ops.lean ====
section
/-! SUPPORT. What each shared operation can do, said once: the outbound line, the Notice Queue, dispatch, and the fields that each operation
on records may change. -/

namespace Sys2Proof.Machine

open Sys2Proof

variable (s : State)

/-! ### The outbound line (R8) -/

/-- The arbiter changes the line, the waiting reply and the Notice Queue alone. -/
theorem pump_frame :
    pump s = { s with sending := (pump s).sending, waitingReply := (pump s).waitingReply, notices := (pump s).notices } := by
  unfold pump
  split
  · rfl
  · split
    · rfl
    · split <;> rfl

/-- A busy line is left as it is. -/
theorem pump_busy (h : s.sending.isSome = true) : pump s = s := by
  unfold pump
  split
  · rfl
  · simp_all

/-- A free line takes the waiting reply. -/
theorem pump_reply {r : Frame} (h : s.sending = none) (hr : s.waitingReply = some r) :
    pump s = { s with sending := some r, waitingReply := none } := by
  simp [pump, h, hr]

/-- A free line with no waiting reply takes the oldest notice. -/
theorem pump_notice {n : Notice} {rest : List Notice} (h : s.sending = none) (hr : s.waitingReply = none)
    (hn : s.notices = n :: rest) : pump s = { s with sending := some n.frame, notices := rest } := by
  simp [pump, h, hr, hn]

/-- A free line with nothing waiting stays idle. -/
theorem pump_idle (hr : s.waitingReply = none) (hn : s.notices = []) : pump s = s := by
  unfold pump
  split <;> simp_all

/-- After the arbiter has chosen, the line is busy or nothing waits. -/
theorem pump_served : (pump s).sending.isSome = true ∨ ((pump s).waitingReply = none ∧ (pump s).notices = []) := by
  unfold pump
  split
  · simp_all
  · split
    · simp
    · split <;> simp_all

/-- A notice joins the queue or is lost; nothing else changes (R165). -/
theorem enqueue_cases (n : Notice) :
    (s.notices.length < 64 ∧ enqueue n s = { s with notices := s.notices ++ [n] }) ∨
      (64 ≤ s.notices.length ∧ enqueue n s = { s with missed := missKind s.missed n }) := by
  unfold enqueue Config.noticeEntries
  split
  · exact .inl ⟨‹_›, rfl⟩
  · exact .inr ⟨by omega, rfl⟩

/-- Queuing a notice changes the line, the waiting reply, the queue and the missed-kind set alone. -/
theorem notify_frame (n : Notice) :
    notify n s = { s with sending := (notify n s).sending, waitingReply := (notify n s).waitingReply,
                          notices := (notify n s).notices, missed := (notify n s).missed } := by
  unfold notify
  rcases enqueue_cases s n with ⟨_, h⟩ | ⟨_, h⟩ <;> rw [h, pump_frame]

/-- On a busy line a notice is queued or lost, and no more. -/
theorem notify_busy (n : Notice) (h : s.sending.isSome = true) : notify n s = enqueue n s := by
  refine pump_busy _ ?_
  rcases enqueue_cases s n with ⟨_, e⟩ | ⟨_, e⟩ <;> simpa [e] using h

/-- Every notice's KIND lies in 0x40 to 0x5F (R166). -/
theorem kind_range (n : Notice) : 64 ≤ n.kind ∧ n.kind < 96 := by cases n <;> simp [Notice.kind]

/-- The KIND of a lost notice is in the missed-kind set (R166). -/
theorem missKind_self (missed : BitVec 32) (n : Notice) : (missKind missed n).getLsbD (n.kind - 0x40) = true := by
  have h := kind_range n
  have hk : n.kind - 64 < 32 := by omega
  have : (BitVec.ofNat 32 (2 ^ (n.kind - 64))).getLsbD (n.kind - 64) = true := by
    rw [BitVec.getLsbD_ofNat, Nat.testBit_two_pow_self]
    simp [hk]
  simp only [missKind, BitVec.getLsbD_or, this, Bool.or_true]

/-- A queued notice waits, is on the line, or is in the missed-kind set. -/
theorem notify_told (n : Notice) : (notify n s).Told n := by
  rcases enqueue_cases s n with ⟨_, h⟩ | ⟨_, h⟩
  · simp only [notify, h, pump]
    split
    · exact .inl (by simp)
    · split
      · exact .inl (by simp)
      · split
        · rename_i hc
          have hm : n ∈ s.notices ++ [n] := by simp
          rw [hc, List.mem_cons] at hm
          rcases hm with rfl | hm
          · exact .inr (.inl rfl)
          · exact .inl hm
        · simp_all
  · refine .inr (.inr ?_)
    have : (notify n s).missed = missKind s.missed n := by
      rw [notify, h, pump_frame]
    rw [this]
    exact missKind_self _ _

/-- Forming a reply changes the line, the waiting reply, dispatch and the queue alone. -/
theorem sendFrame_frame (r : Frame) :
    sendFrame r s = { s with dispatch := none, sending := (sendFrame r s).sending, waitingReply := (sendFrame r s).waitingReply,
                             notices := (sendFrame r s).notices } := by
  unfold sendFrame
  rw [pump_frame]

/-- A reply that has been formed waits, or is on the line (R6, R8). -/
@[simp] theorem sendFrame_replyOut (r : Frame) : (sendFrame r s).replyOut = some r := by
  unfold sendFrame State.replyOut pump
  cases s.sending <;> simp

/-- The request has been released (R6). -/
@[simp] theorem sendFrame_dispatch (r : Frame) : (sendFrame r s).dispatch = none := by
  rw [sendFrame_frame]

/-- A reply that is formed leaves the Notice Queue as it is: a free line takes the reply, not a notice (R8). -/
@[simp] theorem sendFrame_notices (r : Frame) : (sendFrame r s).notices = s.notices := by
  unfold sendFrame pump
  cases s.sending <;> simp

/-! ### The fields that `pump` leaves -/

@[simp] theorem pump_resetLow : (pump s).resetLow = s.resetLow := by rw [pump_frame]
@[simp] theorem pump_rate : (pump s).rate = s.rate := by rw [pump_frame]
@[simp] theorem pump_rx : (pump s).rx = s.rx := by rw [pump_frame]
@[simp] theorem pump_inbound : (pump s).inbound = s.inbound := by rw [pump_frame]
@[simp] theorem pump_dispatch : (pump s).dispatch = s.dispatch := by rw [pump_frame]
@[simp] theorem pump_resetPending : (pump s).resetPending = s.resetPending := by rw [pump_frame]
@[simp] theorem pump_linkFlags : (pump s).linkFlags = s.linkFlags := by rw [pump_frame]
@[simp] theorem pump_cfg : (pump s).cfg = s.cfg := by rw [pump_frame]
@[simp] theorem pump_ports : (pump s).ports = s.ports := by rw [pump_frame]
@[simp] theorem pump_surveyQueue : (pump s).surveyQueue = s.surveyQueue := by rw [pump_frame]
@[simp] theorem pump_survey : (pump s).survey = s.survey := by rw [pump_frame]
@[simp] theorem pump_known : (pump s).known = s.known := by rw [pump_frame]
@[simp] theorem pump_jobs : (pump s).jobs = s.jobs := by rw [pump_frame]
@[simp] theorem pump_clips : (pump s).clips = s.clips := by rw [pump_frame]
@[simp] theorem pump_slots : (pump s).slots = s.slots := by rw [pump_frame]
@[simp] theorem pump_freeSlots : (pump s).freeSlots = s.freeSlots := by rw [pump_frame]
@[simp] theorem pump_lastGranted : (pump s).lastGranted = s.lastGranted := by rw [pump_frame]
@[simp] theorem pump_mem : (pump s).mem = s.mem := by rw [pump_frame]
@[simp] theorem pump_readers : (pump s).readers = s.readers := by rw [pump_frame]
@[simp] theorem pump_portUse : (pump s).portUse = s.portUse := by rw [pump_frame]
@[simp] theorem pump_dests : (pump s).dests = s.dests := by rw [pump_frame]
@[simp] theorem pump_verifyQueue : (pump s).verifyQueue = s.verifyQueue := by rw [pump_frame]
@[simp] theorem pump_engines : (pump s).engines = s.engines := by rw [pump_frame]
@[simp] theorem pump_windowPeriod : (pump s).windowPeriod = s.windowPeriod := by rw [pump_frame]
@[simp] theorem pump_windowStart : (pump s).windowStart = s.windowStart := by rw [pump_frame]
@[simp] theorem pump_windowCount : (pump s).windowCount = s.windowCount := by rw [pump_frame]
@[simp] theorem pump_monitors : (pump s).monitors = s.monitors := by rw [pump_frame]
@[simp] theorem pump_missed : (pump s).missed = s.missed := by rw [pump_frame]
@[simp] theorem pump_expiryCount : (pump s).expiryCount = s.expiryCount := by rw [pump_frame]
@[simp] theorem pump_now : (pump s).now = s.now := by rw [pump_frame]
@[simp] theorem pump_pending : (pump s).pending = s.pending := by rw [pump_frame]
@[simp] theorem pump_port (p : Port) : (pump s).port p = s.port p := by rw [pump_frame]; rfl
@[simp] theorem pump_reader (p : Port) : (pump s).reader p = s.reader p := by rw [pump_frame]; rfl
@[simp] theorem pump_use (p : Port) : (pump s).use p = s.use p := by rw [pump_frame]; rfl
@[simp] theorem pump_dest (d : Dest) : (pump s).dest d = s.dest d := by rw [pump_frame]; rfl
@[simp] theorem pump_engine (e : EngineIx) : (pump s).engine e = s.engine e := by rw [pump_frame]; rfl
@[simp] theorem pump_monitor (d : Dest) : (pump s).monitor d = s.monitor d := by rw [pump_frame]; rfl
@[simp] theorem pump_job (h : Nat) : (pump s).job h = s.job h := by rw [pump_frame]; rfl
@[simp] theorem pump_clip (c : Nat) : (pump s).clip c = s.clip c := by rw [pump_frame]; rfl
@[simp] theorem pump_slot (n : Nat) : (pump s).slot n = s.slot n := by rw [pump_frame]; rfl

/-! ### The fields that `notify` leaves -/

@[simp] theorem notify_resetLow (m : Notice) : (notify m s).resetLow = s.resetLow := by rw [notify_frame]
@[simp] theorem notify_rate (m : Notice) : (notify m s).rate = s.rate := by rw [notify_frame]
@[simp] theorem notify_rx (m : Notice) : (notify m s).rx = s.rx := by rw [notify_frame]
@[simp] theorem notify_inbound (m : Notice) : (notify m s).inbound = s.inbound := by rw [notify_frame]
@[simp] theorem notify_dispatch (m : Notice) : (notify m s).dispatch = s.dispatch := by rw [notify_frame]
@[simp] theorem notify_resetPending (m : Notice) : (notify m s).resetPending = s.resetPending := by rw [notify_frame]
@[simp] theorem notify_linkFlags (m : Notice) : (notify m s).linkFlags = s.linkFlags := by rw [notify_frame]
@[simp] theorem notify_cfg (m : Notice) : (notify m s).cfg = s.cfg := by rw [notify_frame]
@[simp] theorem notify_ports (m : Notice) : (notify m s).ports = s.ports := by rw [notify_frame]
@[simp] theorem notify_surveyQueue (m : Notice) : (notify m s).surveyQueue = s.surveyQueue := by rw [notify_frame]
@[simp] theorem notify_survey (m : Notice) : (notify m s).survey = s.survey := by rw [notify_frame]
@[simp] theorem notify_known (m : Notice) : (notify m s).known = s.known := by rw [notify_frame]
@[simp] theorem notify_jobs (m : Notice) : (notify m s).jobs = s.jobs := by rw [notify_frame]
@[simp] theorem notify_clips (m : Notice) : (notify m s).clips = s.clips := by rw [notify_frame]
@[simp] theorem notify_slots (m : Notice) : (notify m s).slots = s.slots := by rw [notify_frame]
@[simp] theorem notify_freeSlots (m : Notice) : (notify m s).freeSlots = s.freeSlots := by rw [notify_frame]
@[simp] theorem notify_lastGranted (m : Notice) : (notify m s).lastGranted = s.lastGranted := by rw [notify_frame]
@[simp] theorem notify_mem (m : Notice) : (notify m s).mem = s.mem := by rw [notify_frame]
@[simp] theorem notify_readers (m : Notice) : (notify m s).readers = s.readers := by rw [notify_frame]
@[simp] theorem notify_portUse (m : Notice) : (notify m s).portUse = s.portUse := by rw [notify_frame]
@[simp] theorem notify_dests (m : Notice) : (notify m s).dests = s.dests := by rw [notify_frame]
@[simp] theorem notify_verifyQueue (m : Notice) : (notify m s).verifyQueue = s.verifyQueue := by rw [notify_frame]
@[simp] theorem notify_engines (m : Notice) : (notify m s).engines = s.engines := by rw [notify_frame]
@[simp] theorem notify_windowPeriod (m : Notice) : (notify m s).windowPeriod = s.windowPeriod := by rw [notify_frame]
@[simp] theorem notify_windowStart (m : Notice) : (notify m s).windowStart = s.windowStart := by rw [notify_frame]
@[simp] theorem notify_windowCount (m : Notice) : (notify m s).windowCount = s.windowCount := by rw [notify_frame]
@[simp] theorem notify_monitors (m : Notice) : (notify m s).monitors = s.monitors := by rw [notify_frame]
@[simp] theorem notify_expiryCount (m : Notice) : (notify m s).expiryCount = s.expiryCount := by rw [notify_frame]
@[simp] theorem notify_now (m : Notice) : (notify m s).now = s.now := by rw [notify_frame]
@[simp] theorem notify_pending (m : Notice) : (notify m s).pending = s.pending := by rw [notify_frame]
@[simp] theorem notify_port (m : Notice) (p : Port) : (notify m s).port p = s.port p := by rw [notify_frame]; rfl
@[simp] theorem notify_reader (m : Notice) (p : Port) : (notify m s).reader p = s.reader p := by rw [notify_frame]; rfl
@[simp] theorem notify_use (m : Notice) (p : Port) : (notify m s).use p = s.use p := by rw [notify_frame]; rfl
@[simp] theorem notify_dest (m : Notice) (d : Dest) : (notify m s).dest d = s.dest d := by rw [notify_frame]; rfl
@[simp] theorem notify_engine (m : Notice) (e : EngineIx) : (notify m s).engine e = s.engine e := by rw [notify_frame]; rfl
@[simp] theorem notify_monitor (m : Notice) (d : Dest) : (notify m s).monitor d = s.monitor d := by rw [notify_frame]; rfl
@[simp] theorem notify_job (m : Notice) (h : Nat) : (notify m s).job h = s.job h := by rw [notify_frame]; rfl
@[simp] theorem notify_clip (m : Notice) (c : Nat) : (notify m s).clip c = s.clip c := by rw [notify_frame]; rfl
@[simp] theorem notify_slot (m : Notice) (n : Nat) : (notify m s).slot n = s.slot n := by rw [notify_frame]; rfl

/-! ### The fields that `sendFrame` leaves -/

@[simp] theorem sendFrame_resetLow (r : Frame) : (sendFrame r s).resetLow = s.resetLow := by rw [sendFrame_frame]
@[simp] theorem sendFrame_rate (r : Frame) : (sendFrame r s).rate = s.rate := by rw [sendFrame_frame]
@[simp] theorem sendFrame_rx (r : Frame) : (sendFrame r s).rx = s.rx := by rw [sendFrame_frame]
@[simp] theorem sendFrame_inbound (r : Frame) : (sendFrame r s).inbound = s.inbound := by rw [sendFrame_frame]
@[simp] theorem sendFrame_resetPending (r : Frame) : (sendFrame r s).resetPending = s.resetPending := by rw [sendFrame_frame]
@[simp] theorem sendFrame_linkFlags (r : Frame) : (sendFrame r s).linkFlags = s.linkFlags := by rw [sendFrame_frame]
@[simp] theorem sendFrame_cfg (r : Frame) : (sendFrame r s).cfg = s.cfg := by rw [sendFrame_frame]
@[simp] theorem sendFrame_ports (r : Frame) : (sendFrame r s).ports = s.ports := by rw [sendFrame_frame]
@[simp] theorem sendFrame_surveyQueue (r : Frame) : (sendFrame r s).surveyQueue = s.surveyQueue := by rw [sendFrame_frame]
@[simp] theorem sendFrame_survey (r : Frame) : (sendFrame r s).survey = s.survey := by rw [sendFrame_frame]
@[simp] theorem sendFrame_known (r : Frame) : (sendFrame r s).known = s.known := by rw [sendFrame_frame]
@[simp] theorem sendFrame_jobs (r : Frame) : (sendFrame r s).jobs = s.jobs := by rw [sendFrame_frame]
@[simp] theorem sendFrame_clips (r : Frame) : (sendFrame r s).clips = s.clips := by rw [sendFrame_frame]
@[simp] theorem sendFrame_slots (r : Frame) : (sendFrame r s).slots = s.slots := by rw [sendFrame_frame]
@[simp] theorem sendFrame_freeSlots (r : Frame) : (sendFrame r s).freeSlots = s.freeSlots := by rw [sendFrame_frame]
@[simp] theorem sendFrame_lastGranted (r : Frame) : (sendFrame r s).lastGranted = s.lastGranted := by rw [sendFrame_frame]
@[simp] theorem sendFrame_mem (r : Frame) : (sendFrame r s).mem = s.mem := by rw [sendFrame_frame]
@[simp] theorem sendFrame_readers (r : Frame) : (sendFrame r s).readers = s.readers := by rw [sendFrame_frame]
@[simp] theorem sendFrame_portUse (r : Frame) : (sendFrame r s).portUse = s.portUse := by rw [sendFrame_frame]
@[simp] theorem sendFrame_dests (r : Frame) : (sendFrame r s).dests = s.dests := by rw [sendFrame_frame]
@[simp] theorem sendFrame_verifyQueue (r : Frame) : (sendFrame r s).verifyQueue = s.verifyQueue := by rw [sendFrame_frame]
@[simp] theorem sendFrame_engines (r : Frame) : (sendFrame r s).engines = s.engines := by rw [sendFrame_frame]
@[simp] theorem sendFrame_windowPeriod (r : Frame) : (sendFrame r s).windowPeriod = s.windowPeriod := by rw [sendFrame_frame]
@[simp] theorem sendFrame_windowStart (r : Frame) : (sendFrame r s).windowStart = s.windowStart := by rw [sendFrame_frame]
@[simp] theorem sendFrame_windowCount (r : Frame) : (sendFrame r s).windowCount = s.windowCount := by rw [sendFrame_frame]
@[simp] theorem sendFrame_monitors (r : Frame) : (sendFrame r s).monitors = s.monitors := by rw [sendFrame_frame]
@[simp] theorem sendFrame_missed (r : Frame) : (sendFrame r s).missed = s.missed := by rw [sendFrame_frame]
@[simp] theorem sendFrame_expiryCount (r : Frame) : (sendFrame r s).expiryCount = s.expiryCount := by rw [sendFrame_frame]
@[simp] theorem sendFrame_now (r : Frame) : (sendFrame r s).now = s.now := by rw [sendFrame_frame]
@[simp] theorem sendFrame_pending (r : Frame) : (sendFrame r s).pending = s.pending := by rw [sendFrame_frame]
@[simp] theorem sendFrame_port (r : Frame) (p : Port) : (sendFrame r s).port p = s.port p := by rw [sendFrame_frame]; rfl
@[simp] theorem sendFrame_reader (r : Frame) (p : Port) : (sendFrame r s).reader p = s.reader p := by rw [sendFrame_frame]; rfl
@[simp] theorem sendFrame_use (r : Frame) (p : Port) : (sendFrame r s).use p = s.use p := by rw [sendFrame_frame]; rfl
@[simp] theorem sendFrame_dest (r : Frame) (d : Dest) : (sendFrame r s).dest d = s.dest d := by rw [sendFrame_frame]; rfl
@[simp] theorem sendFrame_engine (r : Frame) (e : EngineIx) : (sendFrame r s).engine e = s.engine e := by rw [sendFrame_frame]; rfl
@[simp] theorem sendFrame_monitor (r : Frame) (d : Dest) : (sendFrame r s).monitor d = s.monitor d := by rw [sendFrame_frame]; rfl
@[simp] theorem sendFrame_job (r : Frame) (h : Nat) : (sendFrame r s).job h = s.job h := by rw [sendFrame_frame]; rfl
@[simp] theorem sendFrame_clip (r : Frame) (c : Nat) : (sendFrame r s).clip c = s.clip c := by rw [sendFrame_frame]; rfl
@[simp] theorem sendFrame_slot (r : Frame) (n : Nat) : (sendFrame r s).slot n = s.slot n := by rw [sendFrame_frame]; rfl

/-! ### Dispatch (R6) -/

/-- With dispatch not ready, or a frame of another KIND (or none) at the head, a request's command does nothing. -/
theorem serve_idle {α : Type} (kind : Byte) (fields : List Byte → Option α) (owner : α → State → Reply × State)
    (h : dispatchReady s = false ∨ ∀ f ∈ s.inbound.head?, f.kind ≠ kind) : serve kind fields owner s = s := by
  unfold serve
  split
  · split
    · rename_i hr f rest hi
      rcases h with h | h
      · simp_all
      · rw [if_neg (h f (by simp [hi]))]
    · rfl
  · rfl

/-- A request whose length fits is answered by its owner. -/
theorem serve_taken {α : Type} {s : State} {kind : Byte} {fields : List Byte → Option α} {owner : α → State → Reply × State} {f : Frame}
    {rest : List Frame} {a : α} (h : s.Offers f rest) (hk : f.kind = kind) (ha : fields f.payload = some a) :
    serve kind fields owner s =
      sendFrame (replyFrame f (owner a (s.taken f rest)).1) (owner a (s.taken f rest)).2 := by
  obtain ⟨h1, h2⟩ := h
  simp [serve, h1, h2, hk, ha, State.taken]

/-- A request of a wrong length is answered BAD_LENGTH. -/
theorem serve_badLength {α : Type} {s : State} {kind : Byte} {fields : List Byte → Option α} {owner : α → State → Reply × State} {f : Frame}
    {rest : List Frame} (h : s.Offers f rest) (hk : f.kind = kind) (ha : fields f.payload = none) :
    serve kind fields owner s = sendFrame (replyFrame f (statusOnly .badLength)) (s.taken f rest) := by
  obtain ⟨h1, h2⟩ := h
  simp [serve, h1, h2, hk, ha, State.taken]

/-! ### Which fields the operations on records may change -/

theorem modJob_frame (h : Nat) (f : Job → Job) : ∃ jobs, modJob h f s = { s with jobs := jobs } := by
  unfold modJob
  split
  · exact ⟨_, rfl⟩
  · exact ⟨s.jobs, rfl⟩

theorem modClip_frame (c : Nat) (f : Clip → Clip) : ∃ clips, modClip c f s = { s with clips := clips } := by
  unfold modClip
  split
  · exact ⟨_, rfl⟩
  · exact ⟨s.clips, rfl⟩

theorem modSlot_frame (n : Nat) (f : Slot → Slot) : ∃ slots, modSlot n f s = { s with slots := slots } := by
  unfold modSlot
  split
  · exact ⟨_, rfl⟩
  · exact ⟨s.slots, rfl⟩

/-- What a record changed in place reads as. -/
theorem modJob_job (h : Nat) (f : Job → Job) (i : Nat) :
    (modJob h f s).job i = if i = h then (s.job h).map f else s.job i := by
  unfold modJob
  by_cases e : i = h
  · subst e
    cases hj : s.job i <;> simp [hj]
  · cases hj : s.job h <;> simp [setJob_job_of_ne, e]

theorem modClip_clip (c : Nat) (f : Clip → Clip) (i : Nat) :
    (modClip c f s).clip i = if i = c then (s.clip c).map f else s.clip i := by
  unfold modClip
  by_cases e : i = c
  · subst e
    cases hj : s.clip i <;> simp [hj]
  · cases hj : s.clip c <;> simp [setClip_clip_of_ne, e]

theorem modSlot_slot (n : Nat) (f : Slot → Slot) (i : Nat) :
    (modSlot n f s).slot i = if i = n then (s.slot n).map f else s.slot i := by
  unfold modSlot
  by_cases e : i = n
  · subst e
    cases hj : s.slot i <;> simp [hj]
  · cases hj : s.slot n <;> simp [setSlot_slot_of_ne, e]

theorem cardSend_frame (p : Port) (o : CardOwner) (ask : Option CardAsk) : ∃ ports, cardSend p o ask s = { s with ports := ports } := by
  unfold cardSend
  split
  · exact ⟨_, rfl⟩
  · exact ⟨s.ports, rfl⟩

theorem cardKick_frame (p : Port) : ∃ ports, cardKick p s = { s with ports := ports } := by
  unfold cardKick
  split
  · exact ⟨s.ports, rfl⟩
  · split
    · exact cardSend_frame s _ _ _
    · split
      · exact cardSend_frame s _ _ _
      · split
        · exact cardSend_frame s _ _ _
        · exact ⟨s.ports, rfl⟩

theorem abandonCard_frame (p : Port) : ∃ ports, abandonCard p s = { s with ports := ports } := by
  unfold abandonCard
  split
  · split <;> exact ⟨_, rfl⟩
  · exact ⟨s.ports, rfl⟩

theorem bridgeSend_frame (d : Dest) (ask : Option BridgeAsk) (r : Bool) : ∃ dests, bridgeSend d ask r s = { s with dests := dests } := by
  unfold bridgeSend
  split
  · exact ⟨_, rfl⟩
  · exact ⟨s.dests, rfl⟩

theorem bridgeKick_frame (d : Dest) : ∃ dests, bridgeKick d s = { s with dests := dests } := by
  unfold bridgeKick
  split
  · exact ⟨s.dests, rfl⟩
  · split
    · exact bridgeSend_frame s _ _ _
    · split
      · exact bridgeSend_frame s _ _ _
      · exact ⟨s.dests, rfl⟩
    · exact ⟨s.dests, rfl⟩

theorem freeIfDone_frame (n : Nat) : ∃ slots free, freeIfDone n s = { s with slots := slots, freeSlots := free } := by
  unfold freeIfDone
  split
  · split
    · exact ⟨_, _, rfl⟩
    · exact ⟨s.slots, s.freeSlots, rfl⟩
  · exact ⟨s.slots, s.freeSlots, rfl⟩

theorem leaveRecopyList_frame (c : Nat) : ∃ jobs, leaveRecopyList c s = { s with jobs := jobs } := by
  unfold leaveRecopyList
  split
  · split
    · exact modJob_frame s _ _
    · exact ⟨s.jobs, rfl⟩
  · exact ⟨s.jobs, rfl⟩

theorem leaveRecopy_frame (c : Nat) (d : Dest) :
    ∃ clips readers jobs, leaveRecopy c d s = { s with clips := clips, readers := readers, jobs := jobs } := by
  unfold leaveRecopy
  split
  · split
    · dsimp only
      split
      · obtain ⟨jobs, h⟩ := leaveRecopyList_frame (cancelPass c (setClip s c _)) c
        exact ⟨_, _, jobs, h⟩
      · obtain ⟨jobs, h⟩ := leaveRecopyList_frame (setClip s c _) c
        exact ⟨_, s.readers, jobs, h⟩
    · exact ⟨s.clips, s.readers, s.jobs, rfl⟩
  · exact ⟨s.clips, s.readers, s.jobs, rfl⟩

theorem tellCopy_frame (c : Nat) (news : CopyNews) (cause : Cause) :
    ∃ sending waiting notices missed, tellCopy c news cause s =
      { s with sending := sending, waitingReply := waiting, notices := notices, missed := missed } := by
  unfold tellCopy
  split
  · exact ⟨_, _, _, _, notify_frame s _⟩
  · exact ⟨s.sending, s.waitingReply, s.notices, s.missed, rfl⟩

theorem failCopy_frame (c : Nat) (d : Dest) (st : CopyState) (cause : Cause) :
    ∃ clips readers jobs sending waiting notices missed, failCopy c d st cause s =
      { s with clips := clips, readers := readers, jobs := jobs, sending := sending, waitingReply := waiting, notices := notices,
               missed := missed } := by
  unfold failCopy setCopyState
  obtain ⟨clips, h1⟩ := modClip_frame s c (fun k => k.setCopy d { k.copy d with state := st, cause := cause })
  obtain ⟨clips', readers, jobs, h2⟩ := leaveRecopy_frame (modClip c (fun k => k.setCopy d { k.copy d with state := st, cause := cause }) s) c d
  obtain ⟨a, b, e, m, h3⟩ := tellCopy_frame (leaveRecopy c d (modClip c (fun k => k.setCopy d { k.copy d with state := st, cause := cause }) s))
    c (.copy d st) cause
  refine ⟨clips', readers, jobs, a, b, e, m, ?_⟩
  rw [h3, h2, h1]

/-! ### The end of an event -/

/-- The fields that the drained tests, the evaluations, the free tests and the crossings may change. -/
abbrev State.Settles (s t : State) : Prop :=
  ∃ jobs clips queue monitors sending waiting notices missed,
    t = { s with jobs := jobs, clips := clips, verifyQueue := queue, monitors := monitors, sending := sending,
                 waitingReply := waiting, notices := notices, missed := missed }

theorem Settles.refl : s.Settles s := ⟨s.jobs, s.clips, s.verifyQueue, s.monitors, s.sending, s.waitingReply, s.notices, s.missed, rfl⟩

theorem Settles.trans {s t u : State} (h : s.Settles t) (k : t.Settles u) : s.Settles u := by
  obtain ⟨a, b, c, d, e, f, g, i, rfl⟩ := h
  obtain ⟨a', b', c', d', e', f', g', i', rfl⟩ := k
  exact ⟨a', b', c', d', e', f', g', i', rfl⟩

theorem Settles.notify (n : Notice) : s.Settles (notify n s) :=
  ⟨s.jobs, s.clips, s.verifyQueue, s.monitors, _, _, _, _, notify_frame s n⟩

theorem Settles.fold {α : Type} {g : State → α → State} (h : ∀ (s : State) a, s.Settles (g s a)) (l : List α) : s.Settles (l.foldl g s) := by
  induction l generalizing s with
  | nil => exact Settles.refl s
  | cons a l ih => exact Settles.trans (h s a) (ih (g s a))

theorem issueTask_settles (c : Nat) : s.Settles (issueTask s c) := by
  unfold issueTask
  split
  · split
    · exact ⟨s.jobs, _, _, s.monitors, s.sending, s.waitingReply, s.notices, s.missed, rfl⟩
    · exact Settles.refl s
  · exact Settles.refl s

theorem setJob_settles (h : Nat) (j : Job) : s.Settles (setJob s h j) :=
  ⟨_, s.clips, s.verifyQueue, s.monitors, s.sending, s.waitingReply, s.notices, s.missed, rfl⟩

theorem drainJob_settles (h : Nat) : s.Settles (drainJob s h) := by
  unfold drainJob
  split
  · split
    · dsimp only
      split
      · exact Settles.trans (Settles.trans (setJob_settles s _ _) (Settles.notify _ _)) (Settles.fold _ issueTask_settles _)
      · exact Settles.trans (setJob_settles s _ _) (Settles.notify _ _)
    · exact Settles.refl s
  · exact Settles.refl s

theorem evalJob_settles (h : Nat) : s.Settles (evalJob s h) := by
  unfold evalJob
  split
  · split
    · exact Settles.refl s
    · dsimp only
      split
      · exact setJob_settles s _ _
      · split <;> exact Settles.trans (setJob_settles s _ _) (Settles.notify _ _)
  · exact Settles.refl s

theorem freeJob_settles (h : Nat) : s.Settles (freeJob s h) := by
  unfold freeJob
  split
  · split
    · refine Settles.trans ?_ (Settles.notify _ _)
      exact ⟨_, _, s.verifyQueue, s.monitors, s.sending, s.waitingReply, s.notices, s.missed, rfl⟩
    · exact Settles.refl s
  · exact Settles.refl s

/-- The tests at an event's end change job and clip records, the Verify Queue and the notices alone. -/
theorem closeJobs_settles (hs : List Nat) : s.Settles (closeJobs hs s) :=
  Settles.trans (Settles.fold s drainJob_settles hs)
    (Settles.trans (Settles.fold _ evalJob_settles hs) (Settles.fold _ freeJob_settles hs))

theorem addHolds_settles (d : Dest) (hard : Bool) : s.Settles (addHolds d hard s) :=
  ⟨_, s.clips, s.verifyQueue, s.monitors, s.sending, s.waitingReply, s.notices, s.missed, rfl⟩

theorem dropHolds_settles (d : Dest) (soft hard : Bool) : s.Settles (dropHolds d soft hard s) :=
  ⟨_, s.clips, s.verifyQueue, s.monitors, s.sending, s.waitingReply, s.notices, s.missed, rfl⟩

theorem setMonitor_settles (d : Dest) (m : Monitor) : s.Settles (setMonitor s d m) :=
  ⟨s.jobs, s.clips, s.verifyQueue, _, s.sending, s.waitingReply, s.notices, s.missed, rfl⟩

/-- Notices change the line and the Notice Queue alone. -/
theorem tellAll_settles (ns : List Notice) : s.Settles (tellAll ns s) := Settles.fold s (fun t n => Settles.notify t n) ns

theorem crossingHolds_settles (d : Dest) (m : Monitor) : s.Settles (crossingHolds d m s) := by
  unfold crossingHolds
  split
  · exact addHolds_settles _ _ _
  · exact addHolds_settles _ _ _
  · exact Settles.refl _

theorem seeBacklog_settles (d : Dest) : s.Settles (seeBacklog s d) := by
  unfold seeBacklog
  dsimp only
  split
  · exact Settles.refl s
  · split
    · split
      · exact setMonitor_settles s _ _
      · exact Settles.trans (setMonitor_settles s d _) (crossingHolds_settles _ _ _)
    · exact setMonitor_settles s _ _

/-- A monitor that sees the backlog is left with an above state that agrees with it (R156). -/
theorem seeBacklog_above (d : Dest) :
    ((seeBacklog s d).monitor d).above = decide (threshold (s.monitor d).level < backlog (s.dest d)) := by
  have hold (m : Monitor) (t : State) : (crossingHolds d m t).monitor d = t.monitor d := by
    unfold crossingHolds; split <;> rfl
  unfold seeBacklog
  dsimp only
  split
  case isTrue h => exact h.symm
  case isFalse h =>
    split
    case isTrue ha => split <;> simp [hold, ha]
    case isFalse ha => simp [ha]

/-- The crossings and the tests at the end of an event change job and clip records, the Verify Queue, the monitors and the notices alone. -/
theorem closeSeen_settles (hs : List Nat) : s.Settles (closeSeen hs s) :=
  Settles.trans (Settles.fold s seeBacklog_settles _) (Settles.trans (closeJobs_settles _ hs) (tellAll_settles _ _))

/-! ### Lamps and the waiting set -/

/-- Following their inputs, lamps and places in the waiting set change, and nothing else. -/
theorem refresh_port (p : Port) : (refresh s).port p = (s.port p).withLamp (lampOf s p) := by
  simp [refresh, State.port]

theorem refresh_reader (p : Port) : (refresh s).reader p = { s.reader p with waiting := startCondition s p } := by
  simp [refresh, State.reader]

theorem refresh_use (p : Port) : (refresh s).use p = nextUse s p := by
  simp [refresh, State.use]

/-- After the end of an event a port stands as busy exactly when it is not free. -/
theorem refresh_use_busy (p : Port) : (refresh s).use p = .busy ↔ portFree s p = false := by
  rw [refresh_use, nextUse]
  split
  · split <;> simp_all
  · simp_all

end Sys2Proof.Machine
end

