-- ==== Sys2Proof/Laws/PerInstr.lean ====
section
/-! SUPPORT. The family `RequestKinds`, command by command: a command that takes a host request names a KIND of the kind code table, below
the notice range, and its operands are well formed (its fields travel in its frame). -/

namespace Sys2Proof.Laws.RequestKinds

open Sys2Proof Sys2Proof.Machine

/-- What the family says of a command. -/
def Statement (i : Instr) : Prop :=
  ∀ k ∈ requestKind i, k ∈ requestKinds ∧ k.toNat < 0x40 ∧ i.wellFormed = true

theorem hardReset (rateHigh : Bool) : Statement (.hardReset rateHigh) := fun _ h => nomatch h
theorem softReset : Statement .softReset := fun _ h => nomatch h
theorem rxByte (bits : Byte) (parityBit stopBit : Bool) : Statement (.rxByte bits parityBit stopBit) := fun _ h => nomatch h
theorem interbyteGapTimeout : Statement .interbyteGapTimeout := fun _ h => nomatch h
theorem unknownRequest : Statement .unknownRequest := fun _ h => nomatch h
theorem identify : Statement .identify := fun _ h => by cases h; decide
theorem statusGet : Statement .statusGet := fun _ h => by cases h; decide
theorem configSet : Statement .configSet := fun _ h => by cases h; decide
theorem flagsClear : Statement .flagsClear := fun _ h => by cases h; decide
theorem deviceReset : Statement .deviceReset := fun _ h => by cases h; decide
theorem frameSendEnd : Statement .frameSendEnd := fun _ h => nomatch h
theorem cardSurvey : Statement .cardSurvey := fun _ h => by cases h; decide
theorem jobOpen : Statement .jobOpen := fun _ h => by cases h; decide
theorem jobFinal : Statement .jobFinal := fun _ h => by cases h; decide
theorem jobPause : Statement .jobPause := fun _ h => by cases h; decide
theorem jobResume : Statement .jobResume := fun _ h => by cases h; decide
theorem jobAbort : Statement .jobAbort := fun _ h => by cases h; decide
theorem jobQuery : Statement .jobQuery := fun _ h => by cases h; decide
theorem cardRelease : Statement .cardRelease := fun _ h => by cases h; decide
theorem clipBegin : Statement .clipBegin := fun _ h => by cases h; decide
theorem extentsAdd : Statement .extentsAdd := fun _ h => by cases h; decide
theorem clipCommit : Statement .clipCommit := fun _ h => by cases h; decide
theorem clipCancel : Statement .clipCancel := fun _ h => by cases h; decide
theorem clipQuery : Statement .clipQuery := fun _ h => by cases h; decide
theorem clipRecopy : Statement .clipRecopy := fun _ h => by cases h; decide
theorem clipReverify : Statement .clipReverify := fun _ h => by cases h; decide
theorem destAttach : Statement .destAttach := fun _ h => by cases h; decide
theorem destDetach : Statement .destDetach := fun _ h => by cases h; decide
theorem destQuery : Statement .destQuery := fun _ h => by cases h; decide
theorem monitorSet : Statement .monitorSet := fun _ h => by cases h; decide
theorem holdResume : Statement .holdResume := fun _ h => by cases h; decide
theorem knownListQuery : Statement .knownListQuery := fun _ h => by cases h; decide
theorem knownListClear : Statement .knownListClear := fun _ h => by cases h; decide
theorem presenceAppear (p : Port) : Statement (.presenceAppear p) := fun _ h => nomatch h
theorem presenceDrop (p : Port) : Statement (.presenceDrop p) := fun _ h => nomatch h
theorem settleTimerExpiry (p : Port) : Statement (.settleTimerExpiry p) := fun _ h => nomatch h
theorem cardRemoval (p : Port) : Statement (.cardRemoval p) := fun _ h => nomatch h
theorem adapterErrorAnswer (p : Port) : Statement (.adapterErrorAnswer p) := fun _ h => nomatch h
theorem cardRequestTimeout (p : Port) : Statement (.cardRequestTimeout p) := fun _ h => nomatch h
theorem errorConfirm (p : Port) : Statement (.errorConfirm p) := fun _ h => nomatch h
theorem cardAbandonedAnswer (p : Port) : Statement (.cardAbandonedAnswer p) := fun _ h => nomatch h
theorem lampBlinkToggle (p : Port) : Statement (.lampBlinkToggle p) := fun _ h => nomatch h
theorem surveyStart : Statement .surveyStart := fun _ h => nomatch h
theorem surveyIdentifyAnswer (capacity : Nat) (writeProtect : Bool) (adapterType : Byte) (label : List Byte) : Statement (.surveyIdentifyAnswer capacity writeProtect adapterType label) := fun _ h => nomatch h
theorem surveyReadDone (data : List Byte) : Statement (.surveyReadDone data) := fun _ h => nomatch h
theorem slotGrant : Statement .slotGrant := fun _ h => nomatch h
theorem chunkRequestDone (p : Port) (data : List Byte) (waitMs : Nat) : Statement (.chunkRequestDone p data waitMs) := fun _ h => nomatch h
theorem sourceSegmentStart (start : SegmentStart) : Statement (.sourceSegmentStart start) := fun _ h => nomatch h
theorem sourceSegmentRequestDone (p : Port) (data : List Byte) : Statement (.sourceSegmentRequestDone p data) := fun _ h => nomatch h
theorem destLinkUp (d : Dest) : Statement (.destLinkUp d) := fun _ h => nomatch h
theorem destLinkDown (d : Dest) : Statement (.destLinkDown d) := fun _ h => nomatch h
theorem destIdentifyAnswer (d : Dest) (answer : Option DestIdentity) : Statement (.destIdentifyAnswer d answer) := fun _ h => nomatch h
theorem destRequestTimeout (d : Dest) : Statement (.destRequestTimeout d) := fun _ h => nomatch h
theorem bridgeAbandonedAnswer (d : Dest) : Statement (.bridgeAbandonedAnswer d) := fun _ h => nomatch h
theorem destArbiterDecide (d : Dest) : Statement (.destArbiterDecide d) := fun _ h => nomatch h
theorem destWriteOk (d : Dest) : Statement (.destWriteOk d) := fun _ h => nomatch h
theorem destWriteError (d : Dest) : Statement (.destWriteError d) := fun _ h => nomatch h
theorem destFlushOk (d : Dest) : Statement (.destFlushOk d) := fun _ h => nomatch h
theorem destFlushError (d : Dest) : Statement (.destFlushError d) := fun _ h => nomatch h
theorem destReadOk (d : Dest) (data : List Byte) : Statement (.destReadOk d data) := fun _ h => nomatch h
theorem destReadError (d : Dest) : Statement (.destReadError d) := fun _ h => nomatch h
theorem engineTakeTask : Statement .engineTakeTask := fun _ h => nomatch h
theorem paceTimerExpiry (before : DestSet) : Statement (.paceTimerExpiry before) := fun _ h => nomatch h
theorem resetHeldLow : Statement .resetHeldLow := fun _ h => nomatch h

end Sys2Proof.Laws.RequestKinds
end

