-- ==== Sys2Proof/Laws/Sharing.lean ====
section
/-! SUPPORT. What the card-port read arbiter and the monitors at a window expiry can do, said once (R84, R159, R171). -/

namespace Sys2Proof.Machine

open Sys2Proof

variable (s : State)

/-- The arbiter leaves the state as it is, or starts the oldest waiting segment at a free port of a job that is not paused, with no reader
ahead of it. -/
theorem arbitrate_cases (p : Port) (arbiterFirst : Bool) :
    arbitrate p arbiterFirst s = s ∨ ∃ e rest, (s.reader p).segWaiting = e :: rest ∧ portFree s p = true ∧ enginePaused s e = false ∧
      readerAhead s p arbiterFirst = false ∧ arbitrate p arbiterFirst s = startSegment p e rest s := by
  unfold arbitrate
  split
  case h_1 e rest h =>
    split
    case isTrue hc => exact .inr ⟨e, rest, h, hc.1, hc.2.1, hc.2.2, rfl⟩
    case isFalse => exact .inl rfl
  case h_2 => exact .inl rfl

/-- The operand makes no difference at a port that has not just become free. -/
theorem readerAhead_of_not_freed (p : Port) (first : Bool) (h : s.use p ≠ .freed) : readerAhead s p first = readerAhead s p false := by
  simp [readerAhead, h]

/-- The monitors' actions at an expiry change the job records and nothing else. -/
theorem monitorsExpire_frame (who : DestSet) : monitorsExpire who s = { s with jobs := (monitorsExpire who s).jobs } := rfl

/-- What the monitors' actions at an expiry make of one job record. -/
theorem monitorsExpire_job (who : DestSet) (h : Nat) :
    (monitorsExpire who s).job h =
      (s.job h).map (fun j => j.withHolds ((allDests.filter (dmem who)).foldl (softAtExpiry s j) j.softHold) j.hardHold) := by
  let f (_ : Nat) (j : Job) : Job := j.withHolds ((allDests.filter (dmem who)).foldl (softAtExpiry s j) j.softHold) j.hardHold
  exact lookup_map f s.jobs h

end Sys2Proof.Machine
end

