-- ==== Sys2Proof/Tests/Slice0.lean ====
section
/-! SUPPORT. Tests of the model against the spec's own worked cases, the well-formedness smoke tests, and, for every statement with
hypotheses, a concrete state and operands that meet them (the `witness_` theorems, one conjunct group per clause). -/

namespace Sys2Proof.Tests

set_option Elab.async false

open Sys2Proof Sys2Proof.Machine

/-! ### Ill-formed commands -/

theorem test_survey_data_too_long : Instr.wellFormed (.surveyReadDone (List.replicate 32769 0)) = false := by decide +kernel
theorem test_survey_data_full : Instr.wellFormed (.surveyReadDone (List.replicate 32768 0)) = true := by decide +kernel
theorem test_chunk_data_too_long : Instr.wellFormed (.chunkRequestDone 0 (List.replicate 1048577 0) 0) = false := by
  simp only [Instr.wellFormed, dataFits, List.length_replicate]; decide
theorem test_segment_data_too_long : Instr.wellFormed (.sourceSegmentRequestDone 0 (List.replicate 1048577 0)) = false := by
  simp only [Instr.wellFormed, dataFits, List.length_replicate]; decide
theorem test_read_back_too_long : Instr.wellFormed (.destReadOk 0 (List.replicate 1048577 0)) = false := by
  simp only [Instr.wellFormed, dataFits, List.length_replicate]; decide

/-! ### A small machine -/

/-- The state after a command. -/
def after (c : Instr) (s : State) : State :=
  match exec c s with
  | .next t => t
  | _ => s

/-- Every command completes, so `after` is the next state. -/
theorem after_eq (c : Instr) (s : State) : exec c s = .next (after c s) := by cases c <;> rfl

/-- A card with the given fingerprint. -/
def card (f : Nat) : CardIdentity := ⟨250069680, false, 0, [], BitVec.ofNat 64 f⟩

/-- The two drives of the worked sequence of spec/03, 3.12. -/
def drive0 : DestIdentity := ⟨7814037168, [0x41]⟩
def drive1 : DestIdentity := ⟨3907029168, [0x42]⟩

/-- A READING job on card port 1 that copies to destinations 0 and 1. -/
def job5 : Job :=
  { state := .reading, binding := some 1, identity := card 9, destSet := 3, destIds := #v[some drive0, some drive1, none, none],
    required := 1, sourceVerify := true, quota := 4, intakeFinal := false, paused := false, order := [17], cursor := 0, recopy := [],
    softHold := 0, hardHold := 0, tasksIssued := false, clearable := false, attention := false, holdChanged := false }

/-- Clip 17 of the worked sequence of spec/03, 3.12, committed. -/
def clip17 : Clip :=
  { job := 5, label := [], length := 10000000, source := [⟨40960, 12000⟩, ⟨100000, 7532⟩]
    targets := #v[[⟨2048, 19532⟩], [⟨500000, 8000⟩, ⟨900000, 11532⟩], [], []], sourceState := .queued, nextBlock := 0, acc := ⟨1, 0⟩,
    digest := 0, copies := #v[⟨.pending, 0, false, .none⟩, ⟨.pending, 0, false, .none⟩, Copy.fresh, Copy.fresh], sv := .waiting,
    recopySet := 0, passMembers := 0 }

/-- Job 5 on card port 1, its two drives ONLINE. -/
def base : State :=
  { State.reset with
    ports := State.reset.ports.set 1 { CardPort.reset with present := true, state := .bound, identity := some (card 9), job := some 5, lamp := .amber }
    jobs := [(5, job5)], clips := [(17, clip17)]
    readers := State.reset.readers.set 1 { Reader.reset with waiting := true }
    dests := #v[{ DestPort.reset with linkUp := true, state := .online, identity := some drive0 },
      { DestPort.reset with linkUp := true, state := .online, identity := some drive1 }, DestPort.reset, DestPort.reset] }

/-- The state with one request in the inbound buffer. -/
def asked (kind : Byte) (payload : List Byte) (s : State) : State := { s with inbound := [⟨kind, 7, payload⟩] }

/-- The state with another job 5, another clip 17, another card port 1, another reader 1, another destination 1, another engine 0. -/
def withJob5 (f : Job → Job) (s : State) : State := modJob 5 f s
def withClip17 (f : Clip → Clip) (s : State) : State := modClip 17 f s
def withPort1 (f : CardPort → CardPort) (s : State) : State := setPort s 1 (f (s.port 1))
def withReader1 (f : Reader → Reader) (s : State) : State := setReader s 1 (f (s.reader 1))
def withDest1 (f : DestPort → DestPort) (s : State) : State := setDest s 1 (f (s.dest 1))
def withEngine0 (x : Engine) (s : State) : State := setEngine s 0 x

/-! ### The worked cases of the spec -/

/-- spec/01, worked frame: the JOB_PAUSE frame and its reply. -/
theorem test_frame_bytes : frameBytes ⟨0x12, 0x21, [3]⟩ = [0xA5, 0x03, 0x00, 0x12, 0x21, 0x03, 0x39, 0x00] ∧
    frameBytes ⟨0x92, 0x21, [0]⟩ = [0xA5, 0x03, 0x00, 0x92, 0x21, 0x00, 0xB6, 0x00] := by decide +kernel

/-- spec/01, worked frame: settle_ms = 20 is stored as 50, and the reply is CLAMPED with the stored value. -/
theorem test_config_set_clamps :
    (after .configSet { State.reset with inbound := [⟨0x03, 0x22, [0x01, 0x01, 0x14, 0x00]⟩] }).sending.map frameBytes =
      some [0xA5, 0x07, 0x00, 0x83, 0x22, 0x01, 0x01, 0x01, 0x32, 0x00, 0xE1, 0x00] := by decide +kernel

/-- spec/01, worked frame: a flipped bit in a frame is found by its CHECK. -/
theorem test_bad_check_discards :
    (receiveBytes [0xA5, 0x06, 0x00, 0x03, 0x22, 0x01, 0x01, 0x15, 0x00, 0x41, 0x00] State.reset).linkFlags.check = true ∧
      (receiveBytes [0xA5, 0x06, 0x00, 0x03, 0x22, 0x01, 0x01, 0x15, 0x00, 0x41, 0x00] State.reset).inbound = [] := by decide +kernel

/-- spec/01: line bits of A5: start, data least significant first, even parity, stop (R2). -/
theorem test_line_bits : lineBits 0xA5 = [false, true, false, true, false, false, true, false, true, false, true] := by decide +kernel

/-- spec/03, 3.12: CLIP_COMMIT with a list that covers 8,000 of 19,532 blocks is LENGTH_MISMATCH. -/
theorem test_commit_mismatch :
    (after .clipCommit (asked 0x1A [17, 0]
      (withClip17 (fun k => { k with sourceState := .building, targets := k.targets.set 1 [⟨500000, 8000⟩] }) base))).sending =
      some ⟨0x9A, 7, [9]⟩ := by decide +kernel

/-- spec/03, 3.12: extents of clip 17 for a destination outside the set are BAD_HANDLE, and beyond the drive OUT_OF_RANGE. -/
theorem test_extents_refused :
    (after .extentsAdd (asked 0x19 ([17, 0, 2, 1] ++ leBytes 6 0 ++ leBytes 4 19532)
      (withClip17 (fun k => { k with sourceState := .building }) base))).sending = some ⟨0x99, 7, [4]⟩ ∧
    (after .extentsAdd (asked 0x19 ([17, 0, 1, 1] ++ leBytes 6 3907020000 ++ leBytes 4 11532)
      (withClip17 (fun k => { k with sourceState := .building, targets := k.targets.set 1 [⟨500000, 8000⟩] }) base))).sending =
      some ⟨0x99, 7, [8]⟩ := by decide +kernel

/-- spec/03, 3.12: where the first and last blocks of clip 17 lie on each medium. -/
theorem test_mapping : (locate clip17.source 8192).1 = 49152 ∧ (locate clip17.source 11999).1 = 52959 ∧
    (locate clip17.source 12000).1 = 100000 ∧ (locate clip17.source 19531).1 = 107531 ∧ (locate (clip17.target 0) 19531).1 = 21579 ∧
    (locate (clip17.target 1) 7999).1 = 507999 ∧ (locate (clip17.target 1) 19531).1 = 911531 ∧ clip17.chunks = 3 := by decide +kernel

/-- spec/06: the WRITE requests of clip 17's chunks 0 and 2 to destination 1. -/
theorem test_write_runs : [0, 2048, 4096, 6144, 8000].map (fun k => requestRun (clip17.target 1) k (8192 - k)) =
      [(500000, 2048), (502048, 2048), (504096, 2048), (506144, 1856), (900000, 192)] ∧
    [16384, 18432].map (fun k => requestRun (clip17.target 1) k (19532 - k)) = [(908384, 2048), (910432, 1100)] := by decide +kernel

/-- spec/04, worked grant order: with 1, 4 and 6 waiting and the pointer at 4, port 6 is granted; then 1; then 4. -/
theorem test_grant_order :
    let waits (ps : List Nat) (last : Port) : State := { State.reset with
      lastGranted := last, readers := Vector.ofFn (fun i => { Reader.reset with waiting := decide (i.val ∈ ps) }) }
    pickWaiting (waits [1, 4, 6] 4) = some 6 ∧ pickWaiting (waits [1, 4] 6) = some 1 ∧ pickWaiting (waits [4] 1) = some 4 := by
  decide +kernel

/-- spec/05, 5.8: the 14-byte clip, its words in another order, and FC FF FF FF for the word 1. -/
theorem test_digest_of_14_bytes :
    digestOf (foldStream ⟨1, 0⟩ [1, 0, 0, 0, 255, 255, 255, 255, 16, 0, 0, 0, 0x34, 0x12, 9, 9] 14) = 0x000012680000124A#64 ∧
    digestOf (foldBytes ⟨1, 0⟩ [252, 255, 255, 255, 255, 255, 255, 255, 16, 0, 0, 0, 0x34, 0x12]) = 0x000012680000124A#64 ∧
    digestOf (foldBytes ⟨1, 0⟩ [0x34, 0x12, 0, 0, 16, 0, 0, 0, 255, 255, 255, 255, 1, 0, 0, 0]) = 0x0000490D0000124A#64 := by decide +kernel

/-- spec/05, 5.8: wrap-around. -/
theorem test_digest_wraps : foldWord ⟨4294967290, 4294967288⟩ 7 = ⟨6, 3⟩ ∧ residue 4294967290 = 4294967290 ∧ residue 4294967291 = 0 ∧
    residue 4294967295 = 4 := by decide +kernel

/-- spec/09, 9.7: a monitor at level 0 with 129 slots waiting, 4 ms and 15 ms into the window: ignored, then acted on. -/
theorem test_crossing_inside_holdoff :
    let high (ms : Nat) : State := setMonitor { base with now := ms, dests := base.dests.set 1 { base.dest 1 with writeQueue := List.range 129 } } 1
      { mode := .soft, level := 0, edge := .both, holdoff := 5, above := false, tripped := false }
    crossingNews (high 4) 1 = [] ∧ ((seeBacklog (high 4) 1).monitor 1).above = true ∧ ((seeBacklog (high 4) 1).monitor 1).tripped = false ∧
      crossingNews (high 15) 1 = [.monitorCrossing 1 false 129] ∧ ((seeBacklog (high 15) 1).job 5).map Job.softHold = some 2 ∧
      ((seeBacklog (high 15) 1).monitor 1).tripped = true := by decide +kernel

/-- spec/04, R77, and spec/09, R159: the staging that crosses upward holds the READING job it then drains; its notice comes last. -/
theorem test_staging_holds_the_job_it_drains :
    let t := stage 1 { job := 5, clip := 17, recopy := false, cancelled := false, first := 16384, count := 3148, slot := 3, done := 3148, acc := ⟨1, 0⟩ }
      (setMonitor (withDest1 (fun x => { x with writeQueue := List.replicate 128 0 })
        (withJob5 (fun j => { j with intakeFinal := true, cursor := 1 }) { base with sending := some ⟨0x49, 0, [0]⟩ })) 1
        { mode := .soft, level := 0, edge := .rise, holdoff := 0, above := false, tripped := false })
    (t.job 5).map Job.state = some .drained ∧ (t.job 5).map Job.softHold = some 2 ∧
      t.notices.getLast? = some (.monitorCrossing 1 false 129) := by decide +kernel

/-- spec/10, 10.6: the loss of COPY_STATE and CARD_UNCLEARABLE notices sets bits 17 and 12. -/
theorem test_missed_kinds :
    let full : State := { State.reset with notices := List.replicate 64 (.jobDrained 0), sending := some ⟨0x49, 0, [0]⟩ }
    (notify (.cardUnclearable 1 none) (notify (.copyState 1 72 (.copy 2 .suspect) .none) full)).missed = 0x00021000#32 := by decide +kernel

/-- spec/10, 10.6: the report that comes while 64 notices wait is lost, and the expiry count returns to 0. -/
theorem test_lost_report :
    let full : State := { State.reset with
      notices := List.replicate 64 (.jobDrained 0), sending := some ⟨0x49, 0, [0]⟩, expiryCount := 24, missed := 0x00021000 }
    (after (.paceTimerExpiry 15) full).missed = 0x80021000#32 ∧ (after (.paceTimerExpiry 15) full).expiryCount = 0 ∧
      ((after (.paceTimerExpiry 15) full).notices.length = 64) := by decide +kernel

/-- spec/10, R171, with two monitors acting at one expiry: monitor 0 lets job 5 go and monitor 1 holds it, and a report is due. With monitor
0 alone before the report it shows the job not held, and the flag is set again; with both before it the job is held throughout. -/
theorem test_report_between_monitors :
    let soft : Monitor := { mode := .soft, level := 0, edge := .none, holdoff := 0, above := false, tripped := false }
    let s : State := withJob5 (fun j => { j with softHold := 1 }) (setMonitor (setMonitor { base with
      sending := some ⟨0x49, 0, [0]⟩, expiryCount := 24, dests := base.dests.set 1 { base.dest 1 with writeQueue := List.range 129 } } 0 soft) 1 soft)
    let shown (t : State) : List (Option (Bool × Bool)) := t.notices.map (fun n =>
      match n with
      | .progress r => r.ports[1]?.map (fun x => (x.held, x.holdChanged))
      | _ => none)
    shown (after (.paceTimerExpiry 1) s) = [some (false, true)] ∧
      ((after (.paceTimerExpiry 1) s).job 5).map (fun j => (j.softHold, j.holdChanged)) = some (2, true) ∧
      shown (after (.paceTimerExpiry 3) s) = [some (true, false)] ∧
      ((after (.paceTimerExpiry 3) s).job 5).map (fun j => (j.softHold, j.holdChanged)) = some (2, false) := by decide +kernel

/-- spec/04, R84, last sentence: at a port that has just become free, with the turn CHUNK, the segment starts if the arbiter decides first. -/
theorem test_freed_port_either_order :
    let s : State := withEngine0 ⟨some (⟨17, .source, false⟩, 5), 0, some ⟨1, 0⟩, .waiting⟩
      (withReader1 (fun r => { r with segWaiting := [0] }) { base with portUse := base.portUse.set 1 .freed })
    ((after (.sourceSegmentStart ⟨1, true⟩) s).reader 1).segment = some ⟨0, 0, 8192, 0, false⟩ ∧
      (after (.sourceSegmentStart ⟨1, false⟩) s).reader 1 = s.reader 1 := by decide +kernel

/-! ### Witnesses: the hypotheses of every statement can be met -/

theorem witness_StepRunsFrontCommand :
    ({ base with pending := [.slotGrant, .engineTakeTask] } : State).pending = .slotGrant :: [.engineTakeTask] ∧ base.pending = [] := by
  decide +kernel

/-- For both commands that end the DEVICE_RESET reply. -/
theorem witness_SoftResetValues :
    let s : State := { base with resetPending := true, sending := some ⟨0x85, 7, [0]⟩ }
    ((Instr.softReset = .softReset ∨ (Instr.softReset = .frameSendEnd ∧ s.resetLow = false)) ∧
      (Instr.frameSendEnd = .softReset ∨ (Instr.frameSendEnd = .frameSendEnd ∧ s.resetLow = false))) ∧
    s.resetPending = true ∧ s.waitingReply = none ∧ s.sending = some ⟨0x85, 7, [0]⟩ ∧ (⟨0x85, 7, [0]⟩ : Frame).kind = 0x85 ∧
      (s.port 0).request = none ∧
      ((withPort1 (fun x => { x with request := some ⟨.read 0 64, .chunk, 2000, false⟩ }) s).port 1).request =
        some ⟨.read 0 64, .chunk, 2000, false⟩ := by
  decide +kernel

theorem witness_ResetHeldLowStopsTheBlock :
    let s : State := { base with resetLow := true }
    s.resetLow = true ∧ s.rx = .hunting ∧ s.sending = none ∧ (∀ r, Instr.destLinkUp 3 ≠ .hardReset r) ∧
      (after (.destLinkUp 3) s).dests ≠ s.dests := by decide +kernel

/-- The longest payload, into an empty and into a full buffer. -/
theorem witness_FrameSentIsFrameReceived :
    let f : Frame := ⟨0x10, 7, List.replicate 1022 0⟩
    let full : State := { State.reset with inbound := List.replicate 4 f }
    State.reset.resetLow = false ∧ State.reset.rx = .hunting ∧ f.payload.length ≤ 1022 ∧ full.resetLow = false ∧ full.rx = .hunting ∧
      ¬ full.inbound.length < 4 ∧ State.reset.inbound.length < 4 := by decide +kernel

theorem witness_ReceiverTakesOrDiscards :
    let s (bytes : List Byte) : State := { State.reset with rx := .assembling bytes }
    State.reset.resetLow = false ∧ State.reset.rx = .hunting ∧ (s []).resetLow = false ∧ (s []).rx = .assembling [] ∧
      evenOnes 0xA5 true = false ∧ evenOnes 0xA5 false = true ∧ (s [0]).rx = .assembling [0] ∧ evenOnes 0x04 true = true ∧
      2 ≤ (0 : Byte).toNat + 256 * (4 : Byte).toNat ∧ (0 : Byte).toNat + 256 * (4 : Byte).toNat ≤ 1024 ∧
      ¬ 2 ≤ (1 : Byte).toNat + 256 * (0 : Byte).toNat ∧
      (s [3, 0, 0x12, 0x21, 3]).rx = .assembling (3 :: 0 :: [0x12, 0x21, 3]) ∧ 3 = (3 : Byte).toNat + 256 * (0 : Byte).toNat ∧
      evenOnes 0x39 false = true ∧ [(0x12 : Byte), 0x21, 3].length < 3 + 1 ∧ evenOnes 0 false = true ∧ evenOnes 1 true = true ∧
      [(0x12 : Byte), 0x21, 3, 0x39] = 0x12 :: 0x21 :: [3] ++ [0x39] ∧ [(3 : Byte)].length + 2 = 3 ∧
      0x39 = (3 + 0 + 0x12 + 0x21 + ([3] : List Byte).foldl (fun n b => n + b.toNat) 0) % 65536 ∧
      (0x39 : Byte).toNat + 256 * (0 : Byte).toNat = 0x39 ∧ (0x39 : Byte).toNat + 256 * (1 : Byte).toNat ≠ 0x39 := by decide +kernel

/-- spec/01, worked frame: the last byte of CHECK completes the JOB_PAUSE frame; one bit off, the frame is discarded. -/
theorem test_check_byte :
    let s : State := { State.reset with rx := .assembling [3, 0, 0x12, 0x21, 3, 0x39] }
    (after (.rxByte 0 false true) s).inbound = [⟨0x12, 0x21, [3]⟩] ∧ (after (.rxByte 1 true true) s).inbound = [] ∧
      (after (.rxByte 1 true true) s).linkFlags.check = true := by decide +kernel

theorem witness_LineTakesReplyThenOldestNotice :
    let f : Frame := ⟨0x81, 7, [0]⟩
    let s : State := { base with sending := some f, notices := [.jobDrained 5, .jobClosed 5] }
    let r : State := { s with waitingReply := some ⟨0x85, 7, [0]⟩, resetPending := true }
    s.resetLow = false ∧ s.sending = some f ∧ s.resetPending = false ∧ s.waitingReply = none ∧
      s.notices = .jobDrained 5 :: [.jobClosed 5] ∧ r.sending = some f ∧ r.waitingReply.isSome = true ∧ f.kind ≠ 0x85 ∧
      ({ base with sending := some f } : State).notices = [] := by decide +kernel

theorem witness_EveryRequestIsAnsweredOnce :
    (asked 0x06 [] base).Offers ⟨0x06, 7, []⟩ [] ∧ (0x06 : Byte) ∉ requestKinds ∧
      (asked 0x10 [1] base).Offers ⟨0x10, 7, [1]⟩ [] ∧ requestKind .jobOpen = some 0x10 ∧ lengthFits 0x10 [1] = false ∧
      (asked 0x01 [] base).Offers ⟨0x01, 7, []⟩ [] ∧ requestKind .identify = some 0x01 := by decide +kernel

theorem witness_GeneralRequests :
    (asked 0x01 [] base).Offers ⟨0x01, 7, []⟩ [] ∧ (asked 0x02 [] base).Offers ⟨0x02, 7, []⟩ [] ∧
      (asked 0x04 [] base).Offers ⟨0x04, 7, []⟩ [] ∧ (asked 0x05 [] base).Offers ⟨0x05, 7, []⟩ [] := by decide +kernel

/-- One pair with a key below and one above the range; 32 pairs, the most, with keys 1 and 9. -/
theorem witness_ConfigSetStoresFittedValues :
    let pairs (k : Byte) (n : Nat) : List (Byte × Byte × Byte) := List.replicate n (k, 0xFF, 0xFF)
    let payload (ps : List (Byte × Byte × Byte)) : List Byte := BitVec.ofNat 8 ps.length :: ps.flatMap (fun x => [x.1, x.2.1, x.2.2])
    (∀ k n, (asked 0x03 (payload (pairs k n)) base).Offers ⟨0x03, 7, payload (pairs k n)⟩ []) ∧
    (1 ≤ (pairs 0 1).length ∧ (pairs 9 32).length ≤ 32) ∧
    (∃ x ∈ pairs 0 1, x.1.toNat < 1 ∨ 9 < x.1.toNat) ∧ (∃ x ∈ pairs 10 1, x.1.toNat < 1 ∨ 9 < x.1.toNat) ∧
    (∀ x ∈ pairs 1 32, 1 ≤ x.1.toNat ∧ x.1.toNat ≤ 9) ∧ ∀ x ∈ pairs 9 32, 1 ≤ x.1.toNat ∧ x.1.toNat ≤ 9 := by
  intro pairs payload
  exact ⟨fun _ _ => ⟨rfl, rfl⟩, by simp [pairs], ⟨_, List.mem_replicate.2 ⟨by decide, rfl⟩, by decide⟩,
    ⟨_, List.mem_replicate.2 ⟨by decide, rfl⟩, by decide⟩, by simp [pairs], by simp [pairs]⟩

theorem witness_DeviceResetStopsDispatch :
    ({ base with resetPending := true } : State).resetPending = true ∧ (requestKind .identify).isSome = true ∧
      (Instr.unknownRequest = .unknownRequest) := by decide +kernel

theorem witness_PresenceAndSettling :
    (State.reset.resetLow = false ∧ (State.reset.port 7).present = false) ∧ (base.resetLow = false ∧ (base.port 1).present = true) ∧
      let s := setPort base 0 { CardPort.reset with state := .settling, settle := some 250 }
      s.resetLow = false ∧ (s.port 0).state = .settling ∧ (s.port 0).settle = some 250 := by decide +kernel

/-- A chunk of clip 17, with its slot, in flight at card port 1. -/
def chunk17 : ChunkRead := ⟨3, 17, 5, 0, 8192, 0, false, ⟨1, 0⟩, false⟩
def slot3 : Slot := ⟨false, 5, 17, 0, 8192, 0, false, 0⟩
def reading : State :=
  withPort1 (fun x => { x with request := some ⟨.read 40960 2048, .chunk, 2000, false⟩ })
    (withReader1 (fun r => { r with chunk := some chunk17, waiting := false }) (setSlot { base with freeSlots := [9, 4] } 3 slot3))

theorem witness_RemovalEmptiesThePort :
    (let s := setPort base 0 { CardPort.reset with state := .settling, absence := true }
     s.resetLow = false ∧ (s.port 0).absence = true ∧ (s.port 0).state = .settling) ∧
    let s := withPort1 (fun x => { x with absence := true, present := false }) reading
    s.resetLow = false ∧ (s.port 1).absence = true ∧ (s.port 1).state ≠ .empty ∧ (s.port 1).state ≠ .settling ∧ s.TablesKeyed ∧
      (s.reader 1).chunk = some chunk17 ∧ s.clip 17 = some clip17 ∧ (after (.cardRemoval 1) s).clip 17 = some clip17 ∧
      (s.port 1).job = some 5 ∧ ((after (.cardRemoval 1) s).job 5).isSome = true := by decide +kernel

theorem witness_AdapterErrorsHeldAndAbandonedLinksFreed :
    (reading.resetLow = false ∧ (reading.port 1).request = some ⟨.read 40960 2048, .chunk, 2000, false⟩ ∧
      ∀ job, CardOwner.chunk ≠ .abandoned job) ∧
    (let s := setPort base 2 { CardPort.reset with request := some ⟨.read 0 64, .abandoned (some 5), 2000, false⟩ }
     s.resetLow = false ∧ (s.port 2).request = some ⟨.read 0 64, .abandoned (some 5), 2000, false⟩ ∧
      s.survey.any (fun v => decide (v.port = 2)) = false ∧ (s.reader 2).chunk = none ∧ (s.reader 2).segment = none) ∧
    let s := setPort { base with survey := some ⟨2, .identify, 0⟩ } 2
      { CardPort.reset with state := .surveying, request := some ⟨.read 0 64, .abandoned none, 2000, false⟩ }
    s.survey = some ⟨2, .identify, 0⟩ ∧ (s.port 2).request = some ⟨.read 0 64, .abandoned none, 2000, false⟩ := by
  refine ⟨⟨by decide +kernel, by decide +kernel, by simp⟩, by decide +kernel, by decide +kernel⟩

/-- Engine 0 verifies clip 17's card; its segment is in flight at card port 1. -/
def sourceTask : Task := ⟨17, .source, false⟩
def verifying : State :=
  withEngine0 ⟨some (sourceTask, 5), 0, some ⟨1, 0⟩, .inFlight⟩
    (withClip17 (fun k => { k with sourceState := .staged, sv := .verifying })
      (withReader1 (fun r => { r with segment := some ⟨0, 0, 8192, 0, false⟩, waiting := false })
        (withPort1 (fun x => { x with request := some ⟨.read 40960 2048, .segment, 2000, false⟩ }) base)))

/-- A removal at a port with a SOURCE segment in flight, engine 0's task. -/
theorem witness_RemovalGivesTheTaskBack :
    let s := withPort1 (fun x => { x with absence := true, present := false }) verifying
    s.resetLow = false ∧ (s.port 1).absence = true ∧ (s.port 1).state ≠ .empty ∧ (s.port 1).state ≠ .settling ∧ s.TablesKeyed ∧
      (s.engine 0).task = some (sourceTask, 5) ∧ sourceTask.target = .source ∧
      (∃ g ∈ (s.reader 1).segment, g.engine = 0) ∧ (∀ g ∈ (s.reader 1).segment, g.engine = 0 → g.cancelled = false) ∧
      1 ∉ (s.reader 1).segWaiting ∧ (∀ g ∈ (s.reader 1).segment, g.engine ≠ 1) ∧
      (after (.cardRemoval 1) s).verifyQueue = [sourceTask] ∧ ((after (.cardRemoval 1) s).clip 17).isSome = true := by
  refine ⟨by decide +kernel, by decide +kernel, by decide +kernel, by decide +kernel, by decide +kernel, by decide +kernel, rfl,
    ⟨_, rfl, rfl⟩, ?_, by decide +kernel, ?_, by decide +kernel, by decide +kernel⟩ <;> intro g hg <;> obtain rfl := Option.some.inj hg <;> simp

/-- An ERROR held on the request in flight at card port 1. -/
def errorHeld (s : State) : State := withPort1 (fun x => { x with request := x.request.map (fun r => { r with errorHeld := true }) }) s

theorem witness_ConfirmedErrorIsRetried :
    (reading.resetLow = false ∧ (reading.port 1).request = some ⟨.read 40960 2048, .chunk, 2000, false⟩) ∧
    (let s := setPort { base with survey := some ⟨2, .identify, 2⟩ } 2
       { CardPort.reset with present := true, state := .surveying, request := some ⟨.identify, .survey, 2000, true⟩ }
     (s.port 2).request = some ⟨.identify, .survey, 2000, true⟩ ∧ (s.port 2).present = true ∧ s.survey = some ⟨2, .identify, 2⟩ ∧ 2 < 3) ∧
    (let s := errorHeld (withReader1 (fun r => { r with retries := 2 }) reading)
     (s.port 1).request = some ⟨.read 40960 2048, .chunk, 2000, true⟩ ∧ (s.port 1).present = true ∧
      s.survey.any (fun v => decide (v.port = 1)) = false ∧ (s.reader 1).chunk = some chunk17 ∧ chunk17.cancelled = false ∧
      (s.reader 1).retries < 3 ∧ s.clip chunk17.clip = some clip17) ∧
    let s := errorHeld verifying
    (s.port 1).request = some ⟨.read 40960 2048, .segment, 2000, true⟩ ∧ (s.port 1).present = true ∧
      s.survey.any (fun v => decide (v.port = 1)) = false ∧ (s.reader 1).chunk = none ∧
      (s.reader 1).segment = some ⟨0, 0, 8192, 0, false⟩ ∧ (s.reader 1).retries < 3 ∧ (engineClip s 0).isSome = true := by decide +kernel

theorem witness_FourthReadErrorFailsTheClip :
    let s := errorHeld (withReader1 (fun r => { r with retries := 3 }) reading)
    s.resetLow = false ∧ s.TablesKeyed ∧ (s.port 1).request = some ⟨.read 40960 2048, .chunk, 2000, true⟩ ∧ (s.port 1).present = true ∧
      (s.reader 1).chunk = some chunk17 ∧ chunk17.cancelled = false ∧ chunk17.recopy = false ∧ 3 ≤ (s.reader 1).retries ∧
      s.clip chunk17.clip = some clip17 ∧ s.job chunk17.job = some job5 ∧ clip17.job = chunk17.job ∧ job5.state ≠ .closing := by
  decide +kernel

/-- A chunk of a recopy pass, and a SOURCE segment, at the fourth attempt. -/
theorem witness_FourthReadErrorEndsPassOrSegment :
    (let s := errorHeld (withReader1 (fun r => { r with retries := 3, chunk := some { chunk17 with recopy := true } }) reading)
     s.resetLow = false ∧ s.TablesKeyed ∧ (s.port 1).request = some ⟨.read 40960 2048, .chunk, 2000, true⟩ ∧ (s.port 1).present = true ∧
      (s.reader 1).chunk = some { chunk17 with recopy := true } ∧ 3 ≤ (s.reader 1).retries ∧ s.clip 17 = some clip17 ∧
      s.job 5 = some job5) ∧
    let s := errorHeld (withJob5 (fun j => { j with tasksIssued := true }) (withReader1 (fun r => { r with retries := 3 }) verifying))
    s.resetLow = false ∧ s.TablesKeyed ∧ (s.port 1).request = some ⟨.read 40960 2048, .segment, 2000, true⟩ ∧ (s.port 1).present = true ∧
      (s.reader 1).segment = some ⟨0, 0, 8192, 0, false⟩ ∧ 3 ≤ (s.reader 1).retries ∧ (s.engine 0).task = some (sourceTask, 5) ∧
      sourceTask.target = .source ∧ s.clip 17 = some { clip17 with sourceState := .staged, sv := .verifying } ∧
      s.job 5 = some { job5 with tasksIssued := true } ∧ job5.paused = false ∧ 17 ∈ job5.order := by
  decide +kernel

/-- A port for each row of R23's table. -/
theorem witness_SlotLampFollowsTheTable :
    let s (f : Job → Job) : State := withJob5 f base
    ((setPort base 2 { CardPort.reset with state := .fault }).port 2).state = .fault ∧
      lampOf (s (fun j => { j with attention := true })) 1 = .red ∧ lampOf (s (fun j => { j with clearable := true })) 1 = .green ∧
      lampOf (s (fun j => { j with paused := true })) 1 = .blinking ∧ lampOf base 1 = .amber ∧ lampOf base 0 = .off ∧
      (base.port 1).lamp ≠ .blinking ∧ base.resetLow = false := by decide +kernel

theorem witness_CardSurveyTable :
    let s (st : PortState) : State := asked 0x08 [2] (setPort base 2 { CardPort.reset with state := st })
    (asked 0x08 [8] base).Offers ⟨0x08, 7, [8]⟩ [] ∧ 8 ≤ (8 : Byte).toNat ∧
      ∀ st ∈ [PortState.empty, .settling, .bound, .released, .surveying, .present, .identified, .fault],
        (s st).Offers ⟨0x08, 7, [2]⟩ [] ∧ ((2 : Port)).val = (2 : Byte).toNat ∧ ((s st).port 2).state = st ∧
          (s st).survey.any (fun v => decide (v.port = 2)) = false := by decide +kernel

/-- The limits of an answer that can be held: capacity 64 and 2^32, a label of 24 bytes. -/
theorem witness_SurveyIdentifiesThenReads :
    (let s := setPort { base with surveyQueue := [2] } 2 { CardPort.reset with present := true, state := .present }
     s.resetLow = false ∧ s.survey = none ∧ s.surveyQueue = 2 :: []) ∧
    (let s := setPort { base with survey := some ⟨2, .identify, 0⟩ } 2
       { CardPort.reset with present := true, state := .surveying, request := some ⟨.identify, .survey, 2000, false⟩ }
     s.resetLow = false ∧ s.survey = some ⟨2, .identify, 0⟩ ∧ (s.port 2).request = some ⟨.identify, .survey, 2000, false⟩) ∧
    (64 ≤ 64 ∧ 2 ^ 32 ≤ 2 ^ 32 ∧ (List.replicate 24 (0 : Byte)).length ≤ 24) ∧ (2 ^ 32 < 2 ^ 32 + 1) ∧
      24 < (List.replicate 25 (0 : Byte)).length ∧ 63 < 64 := by decide +kernel

/-- The survey's READ in flight at card port 2; a card-ABSENT job of the card read (an all-zero card), and none. -/
def surveyed (jobs : Table Job) : State :=
  setPort { base with survey := some ⟨2, .read ⟨250069680, false, 0, []⟩, 0⟩, jobs := jobs } 2
    { CardPort.reset with present := true, state := .surveying, request := some ⟨.read 0 64, .survey, 2000, false⟩ }

theorem witness_SurveyCompletionIdentifiesOrRebinds :
    let zero : BitVec 64 := digestOf (foldZeros ⟨1, 0⟩ 8192)
    let s := surveyed [(5, { job5 with binding := none, identity := { card 0 with fingerprint := zero } })]
    s.resetLow = false ∧ s.TablesKeyed ∧ s.survey = some ⟨2, .read ⟨250069680, false, 0, []⟩, 0⟩ ∧
      (s.port 2).request = some ⟨.read 0 64, .survey, 2000, false⟩ ∧ ([] : List Byte).length ≤ 32768 ∧
      fingerprintOf [] = zero ∧ ((after (.surveyReadDone []) s).port 2).job = some 5 ∧
      ((after (.surveyReadDone []) (surveyed [(5, job5)])).port 2).state = .identified := by decide +kernel

theorem witness_KnownCardListGrowsOnlyByRelease :
    let s := withJob5 (fun j => { j with state := .drained, clearable := true, order := [] }) base
    (asked 0x30 [] base).Offers ⟨0x30, 7, []⟩ [] ∧ (asked 0x31 [] base).Offers ⟨0x31, 7, []⟩ [] ∧
      exec .cardRelease (asked 0x16 [5] s) = .next (after .cardRelease (asked 0x16 [5] s)) ∧
      (after .cardRelease (asked 0x16 [5] s)).known = [9] := by
  refine ⟨by decide +kernel, by decide +kernel, after_eq _ _, by decide +kernel⟩


/-- An IDENTIFIED card of fingerprint `f` in card port 2, with the live jobs given. -/
def identified (f : Nat) (jobs : Table Job) : State :=
  setPort { base with jobs := jobs } 2 { CardPort.reset with present := true, state := .identified, identity := some (card f) }

/-- JOB_OPEN taken (into record 0, while 5 is live), and each check that fails. -/
theorem witness_JobOpenMakesTheJobOrRefuses :
    let s := asked 0x10 [2, 3, 200, 1, 0, 0] (identified 4 [(5, job5)])
    (s.Offers ⟨0x10, 7, [BitVec.ofNat 8 (2 : Port).val, 3, 200, 1, 0, 0]⟩ [] ∧ (3 : Byte).setWidth 4 ≠ (0 : DestSet) ∧ (1 : Byte).toNat ≤ 1 ∧
      (s.port 2).state = .identified ∧ (s.port 2).identity = some (card 4) ∧
      (∀ d : Dest, (3 : Byte).getLsbD d.val = true → (s.dest d).state = .online) ∧
      (∀ e ∈ s.jobs, e.2.identity.fingerprint ≠ (card 4).fingerprint ∨ e.2.identity.capacity ≠ (card 4).capacity) ∧
      0 < 12 ∧ s.job 0 = none ∧ (∀ i < 0, (s.job i).isSome = true)) ∧
    (asked 0x10 [8, 3, 1, 1, 1, 0] base).Offers ⟨0x10, 7, [8, 3, 1, 1, 1, 0]⟩ [] ∧ 8 ≤ (8 : Byte).toNat ∧
    (0xF0 : Byte).setWidth 4 = (0 : DestSet) ∧ 1 < (2 : Byte).toNat ∧ (base.port 1).state ≠ .identified ∧
    (∃ d : Dest, (4 : Byte).getLsbD d.val = true ∧ (s.dest d).state ≠ .online) ∧
    (let s := identified 9 [(5, job5)]
     ∃ e ∈ s.jobs, e.2.identity.fingerprint = (card 9).fingerprint ∧ e.2.identity.capacity = (card 9).capacity) ∧
    let s := identified 4 ((List.range 12).map (fun h => (h, job5)))
    (∀ e ∈ s.jobs, e.2.identity.fingerprint ≠ (card 4).fingerprint ∨ e.2.identity.capacity ≠ (card 4).capacity) ∧
      ∀ h < 12, (s.job h).isSome = true := by decide +kernel

theorem witness_JobFinalPauseResume :
    let closing := withJob5 (fun j => { j with state := .closing }) base
    let building := withClip17 (fun k => { k with sourceState := .building }) base
    (∀ kind ∈ [0x11, 0x12, 0x13], (asked kind [5] base).Offers ⟨kind, 7, [5]⟩ [] ∧ (asked kind [5] closing).Offers ⟨kind, 7, [5]⟩ [] ∧
      (asked kind [4] base).Offers ⟨kind, 7, [4]⟩ []) ∧
    base.job 4 = none ∧ base.job 5 = some job5 ∧ job5.state ≠ .closing ∧
    ({ job5 with state := .closing } : Job).state = .closing ∧ closing.job 5 = some { job5 with state := .closing } ∧
    (∃ e ∈ building.clips, e.2.job = 5 ∧ e.2.sourceState = .building) ∧
    (∀ e ∈ base.clips, e.2.job = 5 → e.2.sourceState ≠ .building) ∧ ∀ e, (base.engine e).task = none := by decide +kernel

theorem witness_FinalDrainsAndPauseGivesUpTasks :
    (let s := asked 0x11 [5] (withJob5 (fun j => { j with order := [] }) { base with clips := [] })
     s.Offers ⟨0x11, 7, [5]⟩ [] ∧ s.job 5 = some { job5 with order := [] } ∧ job5.state = .reading ∧ job5.intakeFinal = false ∧
      job5.recopy = [] ∧ job5.clearable = false ∧ (∀ e ∈ s.clips, e.2.job ≠ 5) ∧ (∀ p, ∀ c ∈ (s.reader p).chunk, c.job ≠ 5)) ∧
    ({ base with sending := some ⟨0x49, 0, [0]⟩, notices := List.replicate 62 (.jobDrained 0) } : State).sending.isSome = true ∧
    (List.replicate 62 (Notice.jobDrained 0)).length ≤ 62 ∧
    (let s := asked 0x12 [5] (setEngine (withEngine0 ⟨some (sourceTask, 5), 0, some ⟨1, 0⟩, .waiting⟩
        (withJob5 (fun j => { j with state := .drained, tasksIssued := true }) verifying)) 1 ⟨some (sourceTask, 5), 0, some ⟨1, 0⟩, .waiting⟩)
     s.Offers ⟨0x12, 7, [5]⟩ [] ∧ (∀ e, (s.engine e).task = some (sourceTask, (5 : Byte).toNat) ∧ (s.engine e).seg ≠ .inFlight)) ∧
    ∀ seg ∈ [EngineSeg.inFlight, .waiting],
      let s := asked 0x12 [5] (withEngine0 ⟨some (sourceTask, 5), 0, some ⟨1, 0⟩, seg⟩
        (withJob5 (fun j => { j with state := .drained, tasksIssued := true }) verifying))
      s.Offers ⟨0x12, 7, [5]⟩ [] ∧ s.job 5 = some { job5 with state := .drained, tasksIssued := true } ∧
        (s.engine 0).task = some (sourceTask, 5) ∧ sourceTask.target = .source ∧ (∀ i, i ≠ 0 → (s.engine i).task = none) ∧
        (s.engine 0).seg = seg := by decide +kernel

theorem witness_AbortEndsTheJob :
    let s := asked 0x14 [5] verifying
    s.Offers ⟨0x14, 7, [5]⟩ [] ∧ s.TablesKeyed ∧ s.job 5 = some job5 ∧ job5.state ≠ .closing ∧
      (∀ e u, (s.engine e).task = some (u, 5) → ∀ k ∈ s.clip u.clip, k.job = 5) ∧
      ((after .jobAbort s).job 5).isSome = true ∧ ((after .jobAbort s).clip 17).isSome = true := by
  refine ⟨by decide +kernel, by decide +kernel, by decide +kernel, by decide +kernel, ?_, by decide +kernel, by decide +kernel⟩
  intro e u h k hk
  have hc : ∀ e : EngineIx, ∀ t ∈ ((asked 0x14 [5] verifying).engine e).task, ∀ k ∈ (asked 0x14 [5] verifying).clip t.1.clip, k.job = 5 := by
    decide +kernel
  exact hc e (u, 5) h k hk

theorem witness_QueriesReportRecords :
    (asked 0x15 [5] base).Offers ⟨0x15, 7, [5]⟩ [] ∧ base.job (5 : Byte).toNat = some job5 ∧
      (asked 0x1C [17, 0] base).Offers ⟨0x1C, 7, [17, 0]⟩ [] ∧ base.clip ((17 : Byte).toNat + 256 * (0 : Byte).toNat) = some clip17 ∧
      (base.job clip17.job).isSome = true ∧ (asked 0x22 [3] base).Offers ⟨0x22, 7, [3]⟩ [] ∧ (3 : Dest).val = (3 : Byte).toNat := by
  decide +kernel

theorem witness_ReleaseTakesClearableCard :
    ∀ f ∈ [fun j : Job => { j with state := .closing }, fun j : Job => j, fun j : Job => { j with state := .drained, clearable := true }],
      (asked 0x16 [5] (withJob5 f base)).Offers ⟨0x16, 7, [5]⟩ [] ∧ (asked 0x16 [5] (withJob5 f base)).job 5 = some (f job5) ∧
        ((f job5).state = .closing ∨ (f job5).clearable = false ∨ ((f job5).state ≠ .closing ∧ (f job5).clearable = true)) := by
  decide +kernel

/-- The longest clip and the longest label; a BUILDING clip and a committed one. -/
theorem witness_ClipBeginAndCancel :
    (let label : List Byte := List.replicate 32 0x41
     let payload : List Byte := [5, 0, 0, 0, 0, 0, 1, 32] ++ label
     (asked 0x18 payload base).Offers ⟨0x18, 7, payload⟩ [] ∧ label.length = (32 : Byte).toNat ∧ (32 : Byte).toNat ≤ 32 ∧
      leNat [0, 0, 0, 0, 0, 1] = 2 ^ 40 ∧ 1 ≤ leNat [0, 0, 0, 0, 0, 1] ∧ base.job (5 : Byte).toNat = some job5 ∧ job5.state ≠ .closing ∧
      job5.intakeFinal = false ∧ base.clip 0 = none ∧ (∀ i < 0, (base.clip i).isSome = true)) ∧
    ∀ st ∈ [SourceState.building, .queued],
      let s := asked 0x1B [17, 0] (withClip17 (fun k => { k with sourceState := st }) base)
      s.Offers ⟨0x1B, 7, [17, 0]⟩ [] ∧ s.clip 17 = some { clip17 with sourceState := st } ∧ (s.job 5).isSome = true := by decide +kernel

/-- One extent that ends at the card's last block, and one past it; a full list; a free clip record. -/
theorem witness_ExtentsAddChecksThenAppends :
    let payload (sel : Byte) (e : BitVec 48 × BitVec 32) : List Byte :=
      [17, 0, sel, 1] ++ [e].flatMap (fun e => leBytes 6 e.1.toNat ++ leBytes 4 e.2.toNat)
    let s (sel : Byte) (e : BitVec 48 × BitVec 32) : State :=
      asked 0x19 (payload sel e) (withClip17 (fun k => { k with sourceState := .building }) base)
    (∀ sel e, (s sel e).Offers ⟨0x19, 7, payload sel e⟩ [] ∧ (s sel e).clip 17 = some { clip17 with sourceState := .building }) ∧
    (base.clip 18 = none ∧ base.job 5 = some job5 ∧ job5.destSet.getLsbD 2 = false ∧ job5.destSet.getLsbD 1 = true ∧
      (1 : Dest).val = (1 : Byte).toNat ∧ (4 : Byte).toNat = 4 ∧ 4 < (5 : Byte).toNat) ∧
    ((∃ e ∈ [(⟨0, 0⟩ : Extent)], e.count = 0) ∧ (∃ e ∈ [(⟨1, 250069680⟩ : Extent)], (card 9).capacity < e.start + e.count) ∧
      (∀ e ∈ [(⟨0, 250069680⟩ : Extent)], e.start + e.count ≤ (card 9).capacity)) ∧
    64 < (List.replicate 64 (⟨0, 1⟩ : Extent)).length + 1 ∧ clip17.source.length + 1 ≤ 64 ∧ 1 ≤ extentsFree base.clips := by
  intro payload s
  exact ⟨fun _ _ => ⟨⟨rfl, rfl⟩, rfl⟩, by decide +kernel, by decide +kernel, by decide +kernel⟩

theorem witness_CommitQueuesCoveredClip :
    let s (f : Clip → Clip) : State := asked 0x1A [17, 0] (withClip17 f base)
    ((s id).Offers ⟨0x1A, 7, [17, 0]⟩ [] ∧ (s id).clip 17 = some clip17 ∧ (s id).job 5 = some job5 ∧ clip17.sourceState ≠ .building) ∧
    (let k := { clip17 with sourceState := .building, targets := clip17.targets.set 1 [⟨500000, 19531⟩] }
     (s (fun _ => k)).clip 17 = some k ∧
      ∃ d : Dest, job5.destSet.getLsbD d.val = true ∧ ((k.target d).map Extent.count).sum ≠ (k.length + 511) / 512) ∧
    let k := { clip17 with sourceState := .building }
    (s (fun _ => k)).clip 17 = some k ∧ (k.source.map Extent.count).sum = (k.length + 511) / 512 ∧
      ∀ d : Dest, job5.destSet.getLsbD d.val = true → ((k.target d).map Extent.count).sum = (k.length + 511) / 512 := by decide +kernel

/-- Clip 17 read and DRAINED, its copy on destination 1 bad and its card unequal. -/
def failedCopy (st : CopyState) (cause : Cause) : State :=
  withJob5 (fun j => { j with state := .drained })
    (withClip17 (fun k => { k.setCopy 1 ⟨st, 3, true, cause⟩ with sourceState := .staged, sv := .mismatch }) base)

theorem witness_ReverifyAndRecopy :
    (∀ st ∈ [CopyState.suspect, .mismatch, .failed],
      let s := asked 0x1E [17, 0, 1] (failedCopy st .digest)
      s.Offers ⟨0x1E, 7, [17, 0, 1]⟩ [] ∧ (∀ k ∈ s.clip 17, (k.copy 1).state = st ∧ (k.copy 1).cause = .digest ∧ k.sv = .mismatch ∧
        k.sourceState = .staged) ∧ (∀ j ∈ s.job 5, j.state ≠ .closing ∧ j.binding ≠ none ∧ j.destSet.getLsbD 1 = true ∧
        j.destId 1 = (s.dest 1).identity) ∧ (s.clip 17).isSome = true ∧ (s.job 5).isSome = true ∧ (1 : Dest).val = (1 : Byte).toNat ∧
        (s.dest 1).state = .online ∧ (s.dest 1).op = none ∧ (s.dest 1).writeQueue = []) ∧
    (let s := withDest1 (fun x => { x with identity := some drive0 }) (failedCopy .suspect .destLost)
     (s.dest 1).identity ≠ job5.destId 1) ∧
    (asked 0x1E [17, 0, 4] (failedCopy .failed .destLost)).Offers ⟨0x1E, 7, [17, 0, 4]⟩ [] ∧ (4 : Byte).toNat = 4 ∧
    (asked 0x1D [17, 0, 1] (failedCopy .failed .destLost)).Offers ⟨0x1D, 7, [17, 0, 1]⟩ [] ∧
    let s := withDest1 (fun x => { x with writeQueue := [3] }) (setSlot (failedCopy .failed .destLost) 3 { slot3 with staged := true })
    ∃ n ∈ (s.dest 1).writeQueue, ∃ x ∈ s.slot n, x.clip = 17 := by decide +kernel

/-- The last block of the first extent, and the first block of the second. -/
theorem witness_MappingFollowsTheExtents :
    (([] : List Extent).map Extent.count).sum ≤ 11999 ∧ 11999 < (([] : List Extent).map Extent.count).sum + (⟨40960, 12000⟩ : Extent).count ∧
      ([⟨40960, 12000⟩].map Extent.count).sum ≤ 12000 ∧
      12000 < ([⟨40960, 12000⟩].map Extent.count).sum + (⟨100000, 7532⟩ : Extent).count := by decide +kernel

theorem witness_GrantStartsTheNextChunk :
    (({ base with freeSlots := [] } : State).freeSlots = [] ∧ (∀ p, (State.reset.reader p).waiting = false)) ∧
    (let s := { base with freeSlots := [9, 4] }
     s.resetLow = false ∧ s.freeSlots = 9 :: [4] ∧ (1 : Port).val = (s.lastGranted.val + 2) % 8 ∧ (s.reader 1).waiting = true ∧
      (∀ i, 1 ≤ i → i < 2 → ∀ q : Port, q.val = (s.lastGranted.val + i) % 8 → (s.reader q).waiting = false) ∧
      (s.port 1).job = some 5 ∧ s.job 5 = some job5 ∧ s.clip 17 = some clip17 ∧ job5.recopy = [] ∧ job5.order[job5.cursor]? = some 17 ∧
      (s.port 1).request = none ∧ s.survey.any (fun v => decide (v.port = 1)) = false) ∧
    (let j := { job5 with cursor := 1 }
     let s := withJob5 (fun _ => j) base
     0 < j.cursor ∧ j.order[0]? = some 17 ∧ clipRead s 17 = false ∧ s.job 5 = some j) ∧
    ({ base with lastGranted := 1 } : State).lastGranted.val = 1 ∧ (1 : Port).val = (1 + 8) % 8 ∧
    let j := { job5 with recopy := [17] }
    let s := withJob5 (fun _ => j) (withClip17 (fun k => { k with sourceState := .staged, recopySet := 2 }) base)
    j.recopy.head? = some 17 ∧ s.job 5 = some j ∧ (s.clip 17).isSome = true := by
  refine ⟨by decide +kernel, ⟨by decide +kernel, by decide +kernel, by decide +kernel, by decide +kernel, ?_, by decide +kernel⟩, by decide +kernel⟩
  intro i h1 h2 q hq
  obtain rfl : i = 1 := by omega
  revert hq; revert q; decide +kernel

/-- The first READ of a chunk, and its last. -/
def lastRead (c : ChunkRead) : State :=
  withPort1 (fun x => { x with request := some ⟨.read 51200 2048, .chunk, 2000, false⟩ }) (withReader1 (fun r => { r with chunk := some c }) reading)

theorem witness_ChunkReadFillsTheSlot :
    reading.resetLow = false ∧ (reading.port 1).request = some ⟨.read 40960 2048, .chunk, 2000, false⟩ ∧
      (reading.reader 1).chunk = some chunk17 ∧ chunk17.cancelled = false ∧ reading.clip 17 = some clip17 ∧
      chunk17.done + 2048 < chunk17.count ∧ reading.survey.any (fun v => decide (v.port = 1)) = false := by decide +kernel

/-- A cancelled chunk read whose request is answered OK, and one whose ERROR is confirmed. -/
theorem witness_ChunkReadCancelled :
    let s := withReader1 (fun r => { r with chunk := some { chunk17 with cancelled := true } }) reading
    (s.resetLow = false ∧ s.TablesKeyed ∧ (errorHeld s).TablesKeyed ∧ (s.port 1).request = some ⟨.read 40960 2048, .chunk, 2000, false⟩ ∧
      (s.reader 1).chunk = some { chunk17 with cancelled := true } ∧ ((after (.chunkRequestDone 1 [] 0) s).clip 17).isSome = true) ∧
    ((errorHeld s).port 1).request = some ⟨.read 40960 2048, .chunk, 2000, true⟩ ∧ ((errorHeld s).port 1).present = true := by
  decide +kernel

/-- Destination 1 usable, and lost; chunk 0, and the clip's last chunk. -/
theorem witness_LastReadStagesTheChunk :
    let c := { chunk17 with done := 6144 }
    let e := { chunk17 with first := 16384, count := 3148, done := 1100 }
    (∀ x ∈ [c, e], (lastRead x).resetLow = false ∧ ((lastRead x).port 1).request = some ⟨.read 51200 2048, .chunk, 2000, false⟩ ∧
      ((lastRead x).reader 1).chunk = some x ∧ x.cancelled = false ∧ x.recopy = false ∧ x.count ≤ x.done + 2048 ∧
      (lastRead x).clip 17 = some clip17 ∧ (lastRead x).job 5 = some job5 ∧ clip17.job = x.job ∧ job5.state ≠ .closing ∧
      (lastRead x).slot x.slot = some slot3) ∧
    (clip17.length + 511) / 512 ≤ e.first + e.count ∧ c.first + c.count < (clip17.length + 511) / 512 ∧
    (lastRead c).dest 1 = { DestPort.reset with linkUp := true, state := .online, identity := some drive1 } ∧
    ((withDest1 (fun x => { x with state := .failed }) (lastRead c)).dest 1).state ≠ .online ∧ job5.destSet.getLsbD 1 = true ∧
    (clip17.copy 1).state = .pending ∧
    (∀ mode ∈ [MonitorMode.soft, .hard],
      let s := setMonitor (withDest1 (fun x => { x with writeQueue := List.replicate 128 0 }) { lastRead e with now := 10 }) 1
        { mode := mode, level := 0, edge := .both, holdoff := 10, above := false, tripped := false }
      (s.monitor 1).above = false ∧ (s.monitor 1).mode = mode ∧ 128 + 96 * (s.monitor 1).level < backlog (s.dest 1) + 1 ∧
        (s.monitor 1).holdoff ≤ s.now + 0 - s.windowStart ∧ s.job 5 = some job5 ∧ job5.state = .reading) := by decide +kernel

/-- Clip 17 at the last READ of a recopy pass for destination 1, with `digest` for its source digest. -/
def passChunk : ChunkRead := { chunk17 with first := 16384, count := 3148, done := 1100, recopy := true }
def recopying (digest : BitVec 64) : State :=
  withJob5 (fun j => { j with recopy := [17] })
    (withClip17 (fun k => { k with sourceState := .staged, digest := digest, recopySet := 2, passMembers := 2 }) (lastRead passChunk))

/-- Zeros read make the digest 0x0003FFA000000001 (262,048 words of 0 after the start): equal to one source digest, unequal to another. -/
theorem witness_RecopyPassComparesDigests :
    (∀ digest, (recopying digest).resetLow = false ∧
      ((recopying digest).port 1).request = some ⟨.read 51200 2048, .chunk, 2000, false⟩ ∧
      ((recopying digest).reader 1).chunk = some passChunk ∧
      (recopying digest).clip 17 =
        some { clip17 with sourceState := .staged, digest := digest, recopySet := 2, passMembers := 2 } ∧
      (recopying digest).job 5 = some { job5 with recopy := [17] } ∧ (recopying digest).dests = base.dests) ∧
    (passChunk.cancelled = false ∧ passChunk.recopy = true ∧ passChunk.count ≤ passChunk.done + 2048 ∧ clip17.job = passChunk.job ∧
      (clip17.length + 511) / 512 ≤ passChunk.first + passChunk.count ∧ (2 : DestSet) ≠ 0 ∧
      (∀ d : Dest, (2 : DestSet).getLsbD d.val = true → (base.dest d).state = .online ∧
        (base.dest d).identity = job5.destId d ∧ job5.destId d ≠ none)) ∧
    min (512 * (16384 + 1100 + 2048)) 10000000 - 512 * (16384 + 1100) = 1048192 ∧
    digestOf (foldStream passChunk.acc [] 1048192) = 0x0003FFA000000001#64 := by
  refine ⟨fun _ => ⟨rfl, rfl, rfl, rfl, rfl, rfl⟩, by decide +kernel, by decide +kernel, ?_⟩
  have h : foldStream passChunk.acc [] 1048192 = ⟨1, 262048⟩ := by
    simp [passChunk, chunk17, foldStream, foldBytes, foldZeros, wordsOf, Config.digestModulus]
  rw [h]; decide +kernel

/-- A chunk of a pass with members 0 and 1: destination 1 lost, destinations 0 and 1 lost; not the last chunk, and the last. -/
theorem witness_RecopyPassLosesMembers :
    let s (c : ChunkRead) : State :=
      withClip17 (fun k => { k with sourceState := .staged, recopySet := 3, passMembers := 3 }) (lastRead c)
    let c0 : ChunkRead := { chunk17 with done := 6144, recopy := true }
    let lose1 (t : State) : State := withDest1 (fun x => { x with state := .failed }) t
    let lose2 (t : State) : State := setDest (lose1 t) 0 { (t.dest 0) with state := .failed }
    (∀ c ∈ [c0, passChunk], (∀ t ∈ [lose1 (s c), lose2 (s c)], t.resetLow = false ∧
      (t.port 1).request = some ⟨.read 51200 2048, .chunk, 2000, false⟩ ∧ (t.reader 1).chunk = some c ∧
      t.clip 17 = some { clip17 with sourceState := .staged, recopySet := 3, passMembers := 3 } ∧ t.job 5 = some job5 ∧
      t.slot c.slot = some slot3 ∧ (t.dest 1).state ≠ .online) ∧
      c.cancelled = false ∧ c.recopy = true ∧ c.count ≤ c.done + 2048 ∧ clip17.job = c.job ∧ ((lose1 (s c)).dest 0).state = .online ∧
      ((lose2 (s c)).dest 0).state ≠ .online) ∧
    c0.first + c0.count < (clip17.length + 511) / 512 ∧ (clip17.copy 1).state = .pending ∧ (clip17.copy 0).state = .pending := by
  decide +kernel

theorem witness_SourceSegmentsShareThePort :
    (let s := withEngine0 ⟨some (sourceTask, 5), 0, some ⟨1, 0⟩, .waiting⟩
       (withReader1 (fun r => { r with segWaiting := [0], waiting := false }) base)
     let f : State := { withReader1 (fun r => { r with waiting := true }) s with portUse := base.portUse.set 1 .freed }
     let t := withReader1 (fun r => { r with waiting := true }) s
     s.resetLow = false ∧ (s.reader 1).segWaiting = 0 :: [] ∧ (s.engine 0).task = some (sourceTask, 5) ∧ s.clip 17 = some clip17 ∧
      (s.reader 1).waiting = false ∧ (s.port 1).request = none ∧ (s.reader 1).chunk = none ∧ (s.reader 1).segment = none ∧
      (∀ j ∈ s.job 5, j.paused = false) ∧ s.survey.any (fun v => decide (v.port = 1)) = false ∧
      (t.reader 1).waiting = true ∧ (t.reader 1).turn = .chunk ∧ t.use 1 = .idle ∧
      (f.reader 1).waiting = true ∧ (f.reader 1).turn = .chunk ∧ f.use 1 = .freed ∧ (f.port 1).request = none ∧
      (f.reader 1).segWaiting = 0 :: [] ∧ (f.engine 0).task = some (sourceTask, 5)) ∧
    verifying.resetLow = false ∧ (verifying.port 1).request = some ⟨.read 40960 2048, .segment, 2000, false⟩ ∧
    (verifying.reader 1).segment = some ⟨0, 0, 8192, 0, false⟩ ∧ 0 + 2048 < 8192 ∧ (verifying.engine 0).task = some (sourceTask, 5) ∧
    (verifying.clip sourceTask.clip).isSome = true ∧ (verifying.engine 0).acc = some ⟨1, 0⟩ ∧ (verifying.reader 1).chunk = none ∧
    verifying.survey.any (fun v => decide (v.port = 1)) = false := by decide +kernel


/-- A port that identifies its drive; the limits of an identity that can be held. -/
theorem witness_DestinationLinkAndIdentity :
    (base.resetLow = false ∧ (base.dest 2).linkUp = false) ∧
    (let s := setDest base 2 { DestPort.reset with linkUp := true, state := .identifying, request := some ⟨.identify, false, 10000, false⟩ }
     (s.dest 2).linkUp = true ∧ (s.dest 2).state ≠ .online ∧ (s.dest 2).state = .identifying ∧ (s.dest 2).identity = none ∧
      (s.dest 2).request = some ⟨.identify, false, 10000, false⟩) ∧
    (1 ≤ (⟨2 ^ 40, []⟩ : DestIdentity).capacity ∧ (⟨2 ^ 40, []⟩ : DestIdentity).capacity ≤ 2 ^ 40 ∧
      (List.replicate 20 (0 : Byte)).length ≤ 20) ∧
    (∀ id ∈ (none : Option DestIdentity), id.capacity = 0 ∨ 2 ^ 40 < id.capacity ∨ 20 < id.serial.length) ∧
    ∀ id ∈ (some ⟨0, []⟩ : Option DestIdentity), id.capacity = 0 ∨ 2 ^ 40 < id.capacity ∨ 20 < id.serial.length := by decide +kernel

theorem witness_AttachAndDetach :
    let s (st : DestState) : State := setDest base 2 { DestPort.reset with linkUp := true, state := st, identity := some drive0 }
    (∀ st ∈ [DestState.absent, .identifying, .identified, .online, .failed], (asked 0x20 [2] (s st)).Offers ⟨0x20, 7, [2]⟩ [] ∧
      (∀ force ∈ [0, 1, 2], (asked 0x21 [2, force] (s st)).Offers ⟨0x21, 7, [2, force]⟩ []) ∧ ((s st).dest 2).state = st ∧
      ((s st).dest 2).op = none) ∧
    (asked 0x20 [4] base).Offers ⟨0x20, 7, [4]⟩ [] ∧ 4 ≤ (4 : Byte).toNat ∧ (asked 0x21 [4, 0] base).Offers ⟨0x21, 7, [4, 0]⟩ [] ∧
    (2 : Dest).val = (2 : Byte).toNat ∧ 1 < (2 : Byte).toNat ∧ (1 : Byte).toNat = 1 ∧ (0 : Byte).toNat = 0 ∧
    (∀ e ∈ base.jobs, e.2.destSet.getLsbD (2 : Dest).val = false) ∧ (base.dest 1).state = .online ∧
    ∃ e ∈ base.jobs, e.2.destSet.getLsbD (1 : Dest).val = true := by decide +kernel

/-- Destination 1 with a slot to write, a slot being written and one of its tasks in engine 0. -/
def slot4 : Slot := ⟨true, 5, 17, 0, 8192, 2, false, 0⟩
def slot7 : Slot := ⟨true, 5, 17, 8192, 8192, 3, false, 2⟩
def destTask : Task := ⟨17, .dest 1, false⟩
def writing : State :=
  withEngine0 ⟨some (destTask, 5), 0, some ⟨1, 0⟩, .waiting⟩
    (withDest1 (fun x => { x with
        writeQueue := [4], segWaiting := [0], op := some (.write 7 0 false), request := some ⟨.write 900192 2048, false, 10000, false⟩ })
      (setSlot (setSlot base 4 slot4) 7 slot7))

theorem witness_LossWithdrawsTheDrive :
    (writing.resetLow = false ∧ (writing.dest 1).linkUp = true ∧ (writing.dest 1).state = .online) ∧
    writing.TablesKeyed ∧ writing.slot 4 = some slot4 ∧ slot4.staged = true ∧ (setSlot writing 3 slot3).slot 3 = some slot3 ∧
    slot3.staged = false ∧ writing.clip 17 = some clip17 ∧ ((loseDest 1 .absent .linkDown writing).clip 17).isSome = true ∧
    writing.job clip17.job = some job5 ∧ job5.destSet.getLsbD 1 = true ∧ (writing.dest 1).identity = some drive1 ∧
    job5.destId 1 = some drive1 ∧ ((withDest1 (fun x => { x with identity := some drive0 }) writing).dest 1).identity = some drive0 ∧
    job5.destId 1 ≠ some drive0 ∧ (writing.engine 0).task = some (destTask, 5) ∧ destTask.target = .dest 1 ∧
    (verifying.engine 0).task = some (sourceTask, 5) ∧ sourceTask.target ≠ .dest 1 ∧
    ((loseDest 1 .absent .linkDown writing).job 5).isSome = true := by decide +kernel

/-- Destination 1 with the given operation and request, engine 0 holding clip 17's task there. -/
def operating (op : Option DestOp) (request : Option BridgeRequest) : State :=
  withEngine0 ⟨some (destTask, 5), 0, some ⟨1, 0⟩, .inFlight⟩
    (withDest1 (fun x => { x with op := op, request := request, writeQueue := [] }) writing)

theorem witness_DestinationErrorsResentOnce :
    let seg : Segment := ⟨0, 0, 8192, 0, false⟩
    let s (op : DestOp) (ask : BridgeAsk) (again : Bool) : State := operating (some op) (some ⟨ask, false, 10000, again⟩)
    (∀ again ∈ [false, true], (∀ x ∈ [(DestOp.write 7 0 false, BridgeAsk.write 900192 2048), (.flush [17], .flush),
        (.segment seg, .read 500000 2048)],
      (s x.1 x.2 again).resetLow = false ∧ ((s x.1 x.2 again).dest 1).op = some x.1 ∧
        ((s x.1 x.2 again).dest 1).request = some ⟨x.2, false, 10000, again⟩ ∧ (s x.1 x.2 again).TablesKeyed ∧
        (s x.1 x.2 again).slot 7 = some slot7 ∧ (s x.1 x.2 again).clip 17 = some clip17 ∧
        (s x.1 x.2 again).job 5 = some job5 ∧ ((s x.1 x.2 again).engine 0).task = some (destTask, 5))) ∧
    seg.cancelled = false ∧ destTask.target = .dest 1 ∧ clip17.job = 5 ∧ job5.state ≠ .closing ∧ (clip17.copy 1).state = .pending ∧
    let a (st : DestState) (op : Option DestOp) : State :=
      withDest1 (fun x => { x with state := st }) (operating op (some ⟨.flush, true, 10000, false⟩))
    ((a .identifying none).dest 1).request = some ⟨.flush, true, 10000, false⟩ ∧ ((a .identifying none).dest 1).state = .identifying ∧
      ((a .failed none).dest 1).state = .failed ∧ ((a .online none).dest 1).op = none ∧
      ((a .online (some (.write 7 0 false))).dest 1).state = .online ∧
      ((a .online (some (.write 7 0 false))).dest 1).op = some (.write 7 0 false) := by decide +kernel

/-- Every row of R116's table: a flush due on an empty queue, and at flush_batch; writes and segments before and at verify_share. -/
theorem witness_ArbiterDecidesByItsTable :
    let s (queue : List Nat) (awaiting : List Nat) (segs : List EngineIx) (writes : Nat) : State :=
      withDest1 (fun x => { x with op := none, request := none, writeQueue := queue, awaiting := awaiting, segWaiting := segs, writeCount := writes })
        writing
    (∀ x ∈ [s [] [] [] 0, s [] [17] [0] 0, s [4] (List.replicate 8 17) [] 0, s [4] [] [0] 3, s [4] [17] [0] 4, s [] [] [0] 0],
      x.resetLow = false ∧ (x.dest 1).state = .online ∧ (x.dest 1).op = none ∧ (x.dest 1).request = none ∧ x.slot 4 = some slot4 ∧
        x.clip slot4.clip = some clip17 ∧ (x.engine 0).task = some (destTask, 5)) ∧
    (base.dest 2).state ≠ .online ∧ base.cfg.flushBatch ≤ (List.replicate 8 17).length ∧ [17].length < base.cfg.flushBatch ∧
    3 < base.cfg.verifyShare ∧ base.cfg.verifyShare ≤ 4 := by decide +kernel

theorem witness_WritesAndFlushesComplete :
    (∀ x ∈ [DestOp.write 7 0 false, .write 7 6144 false, .write 7 6144 true],
      let s := operating (some x) (some ⟨.write 900192 2048, false, 10000, false⟩)
      s.resetLow = false ∧ s.TablesKeyed ∧ (s.dest 1).request = some ⟨.write 900192 2048, false, 10000, false⟩ ∧ s.slot 7 = some slot7 ∧
        s.clip slot7.clip = some clip17 ∧ (s.dest 1).op = some x ∧ (s.dest 1).state = .online) ∧
    0 + 2048 < slot7.count ∧ slot7.count ≤ 6144 + 2048 ∧ slot7.staged = true ∧
    (let s := setSlot (operating (some (.write 7 6144 true)) (some ⟨.write 900192 2048, false, 10000, false⟩)) 7 { slot7 with pending := 0 }
     s.slot 7 = some { slot7 with pending := 0 } ∧ slot7.writing &&& ~~~BitVec.ofNat 4 (2 ^ (1 : Dest).val) = 0) ∧
    let s := withClip17 (fun k => k.setCopy 1 ⟨.written, 3, false, .none⟩) (operating (some (.flush [17])) (some ⟨.flush, false, 10000, true⟩))
    s.resetLow = false ∧ s.TablesKeyed ∧ (s.dest 1).op = some (.flush [17]) ∧ (s.dest 1).request = some ⟨.flush, false, 10000, true⟩ ∧
      [17].Nodup ∧ ∀ k ∈ s.clip 17, (k.copy 1).state = .written := by decide +kernel

theorem witness_DigestHasClosedFormAndResumes :
    (∀ w ∈ [0, 4294967290, 4294967291, 4294967295], w < 2 ^ 32) ∧ ([1, 2, 3, 4] : List Byte).length % 4 = 0 ∧
      (⟨4294967290, 4294967288⟩ : Acc).Reduced ∧ ([1, 2, 3, 4, 5] : List Byte).length % 4 ≠ 0 := by decide +kernel

/-- A task for a drive and one for a card, behind a task that is not eligible; both engines busy; no task. -/
theorem witness_FreeEngineTakesOldestEligibleTask :
    let lost : Task := ⟨17, .dest 2, false⟩
    let s (u : Task) : State := withJob5 (fun j => { j with tasksIssued := true }) { base with verifyQueue := [lost, u, destTask] }
    (∀ u ∈ [destTask, sourceTask], (s u).resetLow = false ∧ ((s u).engine 0).task = none ∧ (s u).verifyQueue = [lost] ++ u :: [destTask] ∧
      (∀ x ∈ [lost], eligible (s u) x = false) ∧ eligible (s u) u = true ∧ (s u).clip u.clip = some clip17 ∧
      (s u).job clip17.job = some { job5 with tasksIssued := true }) ∧
    job5.binding = some 1 ∧ (∀ u ∈ base.verifyQueue, eligible base u = false) ∧
    (let busy : State := setEngine verifying 1 ⟨some (destTask, 5), 0, some ⟨1, 0⟩, .waiting⟩
     ∀ e, (busy.engine e).task ≠ none) ∧
    let half : State := { verifying with verifyQueue := [destTask] }
    (half.engine 1).task = none ∧ (half.engine 0).task ≠ none ∧ eligible half destTask = true := by decide +kernel

/-- Segments in the middle of a clip, at a segment's end and at the clip's end, at a destination and at the card. -/
theorem witness_VerifySegmentsFoldAndCompare :
    (∀ g ∈ [(⟨0, 0, 8192, 0, false⟩ : Segment), ⟨0, 0, 8192, 6144, false⟩],
      let s := operating (some (.segment g)) (some ⟨.read 500000 2048, false, 10000, false⟩)
      s.resetLow = false ∧ (s.dest 1).op = some (.segment g) ∧ g.cancelled = false ∧
        (s.dest 1).request = some ⟨.read 500000 2048, false, 10000, false⟩ ∧ (s.engine g.engine).task = some (destTask, 5) ∧
        destTask.target = .dest 1 ∧ s.clip 17 = some clip17 ∧ (s.engine g.engine).acc = some ⟨1, 0⟩ ∧ (s.dest 1).state = .online ∧
        (s.engine g.engine).next + g.count < (clip17.length + 511) / 512) ∧
    0 + 2048 < 8192 ∧ 8192 ≤ 6144 + 2048 ∧
    let g : Segment := ⟨0, 16384, 3148, 1100, false⟩
    (∀ retry ∈ [false, true], ∀ again ∈ [0, 1],
      let s0 := operating (some (.segment g)) (some ⟨.read 500000 2048, false, 10000, false⟩)
      let s := withEngine0 ⟨some ({ destTask with retry := retry }, 5), 16384, some ⟨1, 0⟩, .inFlight⟩
        { s0 with cfg := { s0.cfg with verifyRetry := again } }
      (s.dest 1).op = some (.segment g) ∧ (s.engine 0).task = some ({ destTask with retry := retry }, 5) ∧ s.cfg.verifyRetry = again ∧
        g.count ≤ g.done + 2048 ∧ (clip17.length + 511) / 512 ≤ (s.engine 0).next + g.count ∧ s.job 5 = some job5 ∧
        s.clip 17 = some clip17) ∧
    let s := withReader1 (fun r => { r with segment := some g }) (withEngine0 ⟨some (sourceTask, 5), 16384, some ⟨1, 0⟩, .inFlight⟩
      (withJob5 (fun j => { j with tasksIssued := true, state := .drained }) verifying))
    (s.reader 1).segment = some g ∧ (s.port 1).request = some ⟨.read 40960 2048, .segment, 2000, false⟩ ∧
      s.job 5 = some { job5 with tasksIssued := true, state := .drained } := by decide +kernel

/-- The data with which clip 17 reads back equal: the last bytes all zero (see witness_RecopyPassComparesDigests). -/
theorem witness_VerifySegments_equal : digestOf (foldStream ⟨1, 0⟩ [] 1048192) = 0x0003FFA000000001#64 ∧
    min (512 * (16384 + 1100 + 2048)) 10000000 - 512 * (16384 + 1100) = 1048192 :=
  ⟨witness_RecopyPassComparesDigests.2.2.2, by decide +kernel⟩

/-- Backlogs at the threshold and one above it, and the last millisecond of the holdoff. -/
theorem witness_MonitorsActOnTheBacklog :
    (asked 0x28 [4, 0, 0, 0, 0] base).Offers ⟨0x28, 7, [4, 0, 0, 0, 0]⟩ [] ∧ (asked 0x28 [1, 4, 0, 0, 0] base).Offers ⟨0x28, 7, [1, 4, 0, 0, 0]⟩ [] ∧
    (asked 0x28 [1, 3, 255, 3, 255] base).Offers ⟨0x28, 7, [1, 3, 255, 3, 255]⟩ [] ∧ (1 : Dest).val = (1 : Byte).toNat ∧
    [MonitorMode.off, .notify, .soft, .hard][(3 : Byte).toNat]? = some .hard ∧
    [EdgeMode.none, .rise, .fall, .both][(3 : Byte).toNat]? = some .both ∧
    (asked 0x29 [1] base).Offers ⟨0x29, 7, [1]⟩ [] ∧ (asked 0x29 [4] base).Offers ⟨0x29, 7, [4]⟩ [] ∧
    let s (above : Bool) (n now : Nat) : State := setMonitor
      { base with now := now, dests := base.dests.set 1 { base.dest 1 with writeQueue := List.range n } } 1
      { mode := .hard, level := 0, edge := .both, holdoff := 5, above := above, tripped := false }
    (∀ above ∈ [false, true], ∀ n ∈ [128, 129], ∀ now ∈ [4, 5], (s above n now).monitor 1 =
        { mode := .hard, level := 0, edge := .both, holdoff := 5, above := above, tripped := false } ∧
      backlog ((s above n now).dest 1) = n ∧ (s above n now).now - (s above n now).windowStart = now) ∧
    ¬ 128 + 96 * 0 < 128 ∧ 128 + 96 * 0 < 129 := by decide +kernel

/-- The expiry count below and at report_interval, and report_interval 0; the queue with room and full. -/
theorem witness_PaceExpiryActs :
    base.resetLow = false ∧ base.LineServed ∧ base.job 5 = some job5 ∧ base.cfg.reportInterval = 25 ∧
    base.expiryCount + 1 < base.cfg.reportInterval ∧ 25 ≤ ({ base with expiryCount := 24 } : State).expiryCount + 1 ∧
    ({ base with cfg := { base.cfg with reportInterval := 0 } } : State).cfg.reportInterval = 0 ∧
    (let full : State := { base with notices := List.replicate 64 (.jobDrained 5), sending := some ⟨0x49, 0, [5]⟩, expiryCount := 24 }
     full.LineServed ∧ 64 ≤ full.notices.length) := by decide +kernel

/-- A state that meets every invariant, and a command that changes it. -/
theorem witness_invariants :
    exec (.presenceAppear 0) base = .next (after (.presenceAppear 0) base) ∧ ((after (.presenceAppear 0) base).port 0).state = .settling ∧
    Memory.wf base.mem = true ∧ base.TablesKeyed ∧ base.AccsReduced ∧ base.WithinCapacity ∧ base.InRange ∧ base.LineServed ∧
    base.WorkOwned ∧ base.InputsFollowed := by
  refine ⟨after_eq _ _, by decide +kernel, by decide +kernel, by decide +kernel, by decide +kernel, by decide +kernel, by decide +kernel,
    by decide +kernel, by decide +kernel, by decide +kernel⟩

/-- A chunk read in flight, an idle port and a monitor above: the premises of the statement on lamps, waiting set, monitors and links. -/
theorem witness_EveryCommandKeepsLampsAndWaitingSet :
    let s := refresh reading
    let t := setMonitor { base with dests := base.dests.set 1 { base.dest 1 with writeQueue := List.range 129 } } 1
      { base.monitor 1 with level := 0, above := true }
    exec (.chunkRequestDone 1 [] 0) s = .next (after (.chunkRequestDone 1 [] 0) s) ∧ s.TablesKeyed ∧ s.WorkOwned ∧ s.LinksOwned ∧
      s.InputsFollowed ∧ (s.port 1).request.isSome = true ∧ t.InputsFollowed ∧ t.LinksOwned ∧ (t.monitor 1).above = true := by
  refine ⟨after_eq _ _, by decide +kernel, by decide +kernel, ?_, by decide +kernel, by decide +kernel, by decide +kernel, ?_,
    by decide +kernel⟩
  · intro p r hr
    by_cases hp : p = 1
    · subst hp
      obtain rfl : (⟨.read 40960 2048, .chunk, 2000, false⟩ : CardRequest) = r := Option.some.inj hr
      exact ⟨fun _ => by decide +kernel, by simp, by simp, by simp⟩
    · have : ∀ q : Port, q ≠ 1 → ((refresh reading).port q).request = none := by decide +kernel
      rw [this p hp] at hr; cases hr
  · intro p r hr
    have : ∀ q : Port, (base.port q).request = none := by decide +kernel
    have h : (base.port p).request = some r := hr
    rw [this p] at h; cases h

theorem witness_EveryCommandKeepsAccountsCurrent : base.AccountsCurrent := by
  intro e he _
  obtain rfl : e = (5, job5) := by simpa [base] using he
  have hc : base.clip 17 = some clip17 := by decide +kernel
  have hn : ∀ d : Dest, (clip17.copy d).state ≠ .mismatch ∧ (clip17.copy d).state ≠ .failed ∧ (clip17.copy d).state ≠ .suspect := by
    decide +kernel
  constructor
  · simp [job5]
  · simp [job5, hc, hn]
    decide +kernel

theorem witness_EveryCommandKeepsSlotsAccounted : State.reset.SlotsAccounted :=
  ⟨by decide +kernel, by simp [State.reset], by decide +kernel, by decide +kernel⟩

/-- A command other than the excepted ones on a state with every sticky flag set. -/
theorem witness_FlagsStickAndSettingsStay :
    exec .slotGrant base = .next (after .slotGrant base) ∧ (∀ r, Instr.slotGrant ≠ .hardReset r) ∧ Instr.slotGrant ≠ .configSet ∧
      Instr.slotGrant ≠ .flagsClear ∧ (base.resetPending = true → Instr.slotGrant ≠ .softReset ∧ Instr.slotGrant ≠ .frameSendEnd) ∧
      ({ base with linkFlags := ⟨true, true, true, true, true⟩ } : State).linkFlags.parity = true ∧
      ((withDest1 (fun x => { x with writeErr := true, readErr := true, timeout := true }) base).dest 1).timeout = true ∧
      ((withPort1 (fun x => { x with readError := true }) base).port 1).readError = true := by
  refine ⟨after_eq _ _, by decide +kernel⟩

/-- Job 5 READING, CLOSING and DRAINED, a sound state each time. -/
theorem witness_JobLifeFollowsItsStates :
    exec .jobAbort (asked 0x14 [5] base) = .next (after .jobAbort (asked 0x14 [5] base)) ∧ (asked 0x14 [5] base).TablesKeyed ∧
      (asked 0x14 [5] base).WorkOwned ∧ (∀ r, Instr.jobAbort ≠ .hardReset r) ∧ base.resetPending = false ∧ base.job 5 = some job5 ∧
      (after .jobAbort (asked 0x14 [5] base)).job 5 = none ∧ (after .slotGrant base).job 5 = some { job5 with cursor := 1 } ∧
      (∀ st ∈ [JobState.closing, .drained], (withJob5 (fun j => { j with state := st }) base).WorkOwned) := by
  refine ⟨after_eq _ _, by decide +kernel⟩

/-- The one-block clip of spec/05, 5.8, read back equal: its copy on destination 1 becomes VERIFIED. -/
def small : State :=
  withClip17 (fun k => { k with
      length := 14, source := [⟨0, 1⟩], targets := #v[[⟨0, 1⟩], [⟨64, 1⟩], [], []], sourceState := .staged, digest := 0x000012680000124A#64 })
    (operating (some (.segment ⟨0, 0, 1, 0, false⟩)) (some ⟨.read 64 1, false, 10000, false⟩))

theorem witness_VerifiedOnlyByEqualReadBack :
    let i : Instr := .destReadOk 1 [1, 0, 0, 0, 255, 255, 255, 255, 16, 0, 0, 0, 0x34, 0x12]
    exec i small = .next (after i small) ∧ small.TablesKeyed ∧ (small.clip 17).isSome = true ∧
      (∀ k ∈ small.clip 17, (k.copy 1).state ≠ .verified) ∧ ((after i small).clip 17).map (fun k => (k.copy 1).state) = some .verified := by
  refine ⟨after_eq _ _, by decide +kernel⟩

end Sys2Proof.Tests
end

section
/-! SUPPORT. What every command keeps of a state: the bounds (R5, R8, R11, R25, R33, R116, R153 to R155, R165, R168), the sticky flags (R4, R18,
R97, R158) and the settings (R11), as one relation between a state and a later one, with a rule for every shared operation. -/

namespace Sys2Proof.Machine

-- One theorem at a time: checking them all at once needs more threads than the sandbox gives.
set_option Elab.async false

open Sys2Proof

/-! ### The relation -/

/-- The bounds that held before hold after. -/
structure KeepsBounds (s t : State) : Prop where
  capacity : s.WithinCapacity → t.WithinCapacity
  range : s.InRange → t.InRange
  line : s.LineServed → t.LineServed

/-- Link flags that were set are still set (R4). -/
structure LinkFlags.Stick (f g : LinkFlags) : Prop where
  parity : f.parity = true → g.parity = true
  framing : f.framing = true → g.framing = true
  check : f.check = true → g.check = true
  gap : f.gap = true → g.gap = true
  overrun : f.overrun = true → g.overrun = true

/-- A destination port's error flags that were set are still set (R97). -/
structure DestPort.Stick (x y : DestPort) : Prop where
  writeErr : x.writeErr = true → y.writeErr = true
  readErr : x.readErr = true → y.readErr = true
  timeout : x.timeout = true → y.timeout = true

/-- The sticky flags that were set are still set. -/
structure KeepsFlags (s t : State) : Prop where
  link : s.linkFlags.Stick t.linkFlags
  read : ∀ p, (s.port p).readError = true → (t.port p).readError = true
  drive : ∀ d, (s.dest d).Stick (t.dest d)
  tripped : ∀ d, (s.monitor d).tripped = true → (t.monitor d).tripped = true

/-- The bounds, the sticky flags and the settings are kept. -/
structure Keeps (s t : State) : Prop where
  bounds : KeepsBounds s t
  flags : KeepsFlags s t
  cfg : t.cfg = s.cfg

theorem KeepsBounds.trans {s t u : State} (h : KeepsBounds s t) (k : KeepsBounds t u) : KeepsBounds s u :=
  ⟨k.capacity ∘ h.capacity, k.range ∘ h.range, k.line ∘ h.line⟩

theorem LinkFlags.Stick.refl (f : LinkFlags) : f.Stick f := ⟨id, id, id, id, id⟩

theorem LinkFlags.Stick.trans {f g i : LinkFlags} (h : f.Stick g) (k : g.Stick i) : f.Stick i :=
  ⟨k.parity ∘ h.parity, k.framing ∘ h.framing, k.check ∘ h.check, k.gap ∘ h.gap, k.overrun ∘ h.overrun⟩

theorem DestPort.Stick.refl (x : DestPort) : x.Stick x := ⟨id, id, id⟩

theorem DestPort.Stick.trans {x y z : DestPort} (h : x.Stick y) (k : y.Stick z) : x.Stick z :=
  ⟨k.writeErr ∘ h.writeErr, k.readErr ∘ h.readErr, k.timeout ∘ h.timeout⟩

theorem KeepsFlags.trans {s t u : State} (h : KeepsFlags s t) (k : KeepsFlags t u) : KeepsFlags s u :=
  ⟨h.link.trans k.link, fun p => k.read p ∘ h.read p, fun d => (h.drive d).trans (k.drive d), fun d => k.tripped d ∘ h.tripped d⟩

theorem KeepsFlags.refl (s : State) : KeepsFlags s s :=
  ⟨.refl _, fun _ => id, fun _ => .refl _, fun _ => id⟩

theorem Keeps.refl (s : State) : Keeps s s := ⟨⟨id, id, id⟩, .refl s, rfl⟩

theorem Keeps.trans {s t u : State} (h : Keeps s t) (k : Keeps t u) : Keeps s u :=
  ⟨h.bounds.trans k.bounds, h.flags.trans k.flags, k.cfg.trans h.cfg⟩

theorem Keeps.after_foldl {α : Type} {g : State → α → State} {s t : State} (h : Keeps s t) (step : ∀ u a, Keeps u (g u a)) (l : List α) :
    Keeps s (l.foldl g t) := by
  induction l generalizing t with
  | nil => exact h
  | cons a l ih => exact ih (h.trans (step t a))

theorem Keeps.after_if {s t u : State} {c : Prop} [Decidable c] (h : Keeps s t) (k : Keeps s u) : Keeps s (if c then t else u) := by
  split
  · exact h
  · exact k

/-! ### Changes of the fields -/

section
variable {s t : State}

/-- No bound and no flag reads the records of jobs, clips, slots, readers and engines. -/
theorem Keeps.after_records (h : Keeps s t) {rx : Receiver} {dispatch : Option Frame} {resetPending : Bool} {jobs : Table Job}
    {clips : Table Clip} {slots : Table Slot} {freeSlots : List Nat} {lastGranted : Port} {mem : List Host.Cell} {readers : Vector Reader 8}
    {portUse : Vector PortUse 8} {queue : List Task} {engines : Vector Engine 2} {windowStart : Nat} {missed : BitVec 32} {now : Nat}
    {pending : List Instr} :
    Keeps s { t with
      rx := rx, dispatch := dispatch, resetPending := resetPending, jobs := jobs, clips := clips, slots := slots, freeSlots := freeSlots,
      lastGranted := lastGranted, mem := mem, readers := readers, portUse := portUse, verifyQueue := queue, engines := engines,
      windowStart := windowStart, missed := missed, now := now, pending := pending } :=
  h.trans ⟨⟨id, id, id⟩, ⟨.refl _, fun _ => id, fun _ => .refl _, fun _ => id⟩, rfl⟩

theorem Keeps.after_ports (h : Keeps s t) {ports : Vector CardPort 8}
    (hp : ∀ p : Port, (t.port p).readError = true → ports[p.val].readError = true) : Keeps s { t with ports := ports } :=
  h.trans ⟨⟨id, id, id⟩, ⟨.refl _, hp, fun _ => .refl _, fun _ => id⟩, rfl⟩

theorem Keeps.after_dests (h : Keeps s t) {dests : Vector DestPort 4} (hd : ∀ d : Dest, (t.dest d).Stick dests[d.val])
    (hw : ∀ d : Dest, (t.dest d).writeCount ≤ 16 → dests[d.val].writeCount ≤ 16) : Keeps s { t with dests := dests } :=
  h.trans
    ⟨⟨id, fun ⟨hcfg, hcount, hlow, hhigh, hexp, hmon, hwrite⟩ => ⟨hcfg, hcount, hlow, hhigh, hexp, hmon, fun d => hw d (hwrite d)⟩, id⟩,
      ⟨.refl _, fun _ => id, hd, fun _ => id⟩, rfl⟩

theorem Keeps.after_monitors (h : Keeps s t) {monitors : Vector Monitor 4}
    (hr : t.InRange → ∀ d : Dest, monitors[d.val].level ≤ 7 ∧ monitors[d.val].holdoff < t.windowPeriod)
    (ht : ∀ d : Dest, (t.monitor d).tripped = true → monitors[d.val].tripped = true) : Keeps s { t with monitors := monitors } :=
  h.trans
    ⟨⟨id, fun hin => let ⟨hcfg, hcount, hlow, hhigh, hexp, _, hwrite⟩ := hin; ⟨hcfg, hcount, hlow, hhigh, hexp, hr hin, hwrite⟩, id⟩,
      ⟨.refl _, fun _ => id, fun _ => .refl _, ht⟩, rfl⟩

theorem Keeps.after_linkFlags (h : Keeps s t) {flags : LinkFlags} (hf : t.linkFlags.Stick flags) : Keeps s { t with linkFlags := flags } :=
  h.trans ⟨⟨id, id, id⟩, ⟨hf, fun _ => id, fun _ => .refl _, fun _ => id⟩, rfl⟩

/-- The inbound buffer, the Known-Card List, the survey and its queue may change within their capacities. -/
theorem Keeps.after_queues (h : Keeps s t) {inbound : List Frame} {known : List (BitVec 64)} {queue : List Port} {survey : Option Survey}
    (hi : t.inbound.length ≤ 4 → inbound.length ≤ 4) (hk : t.known.length ≤ 64 ∧ t.known.Nodup → known.length ≤ 64 ∧ known.Nodup)
    (hq : (t.surveyQueue.Nodup ∧ ∀ p : Port, t.survey.any (fun v => decide (v.port = p)) = true → p ∉ t.surveyQueue) →
      queue.Nodup ∧ ∀ p : Port, survey.any (fun v => decide (v.port = p)) = true → p ∉ queue) :
    Keeps s { t with inbound := inbound, known := known, surveyQueue := queue, survey := survey } :=
  h.trans
    ⟨⟨fun ⟨hinb, hnot, hlen, hnodup, hqueue, hsurvey⟩ =>
        ⟨hi hinb, hnot, (hk ⟨hlen, hnodup⟩).1, (hk ⟨hlen, hnodup⟩).2, hq ⟨hqueue, hsurvey⟩⟩, id, id⟩,
      ⟨.refl _, fun _ => id, fun _ => .refl _, fun _ => id⟩, rfl⟩

theorem Keeps.after_setPort (h : Keeps s t) {p : Port} {x : CardPort}
    (hx : (t.port p).readError = true → x.readError = true := by exact id) :
    Keeps s (setPort t p x) := by
  refine h.after_ports fun q hq => ?_
  change ((setPort t p x).port q).readError = true
  by_cases e : q = p
  · subst e
    simpa using hx hq
  · rwa [setPort_port_of_ne _ e]

theorem Keeps.after_setReader (h : Keeps s t) {p : Port} {x : Reader} : Keeps s (setReader t p x) := h.after_records

theorem Keeps.after_setEngine (h : Keeps s t) {e : EngineIx} {x : Engine} : Keeps s (setEngine t e x) := h.after_records

theorem Keeps.after_setJob (h : Keeps s t) {i : Nat} {j : Job} : Keeps s (setJob t i j) := h.after_records

theorem Keeps.after_setClip (h : Keeps s t) {c : Nat} {k : Clip} : Keeps s (setClip t c k) := h.after_records

theorem Keeps.after_setSlot (h : Keeps s t) {n : Nat} {x : Slot} : Keeps s (setSlot t n x) := h.after_records

theorem Keeps.after_setDest_count (h : Keeps s t) {d : Dest} {x : DestPort} (hw : (t.dest d).writeCount ≤ 16 → x.writeCount ≤ 16)
    (hx : (t.dest d).Stick x := by exact ⟨id, id, id⟩) : Keeps s (setDest t d x) := by
  refine h.after_dests (fun e => ?_) (fun e he => ?_)
  · change (t.dest e).Stick ((setDest t d x).dest e)
    by_cases i : e = d
    · subst i
      simpa using hx
    · rw [setDest_dest_of_ne _ i]
      exact .refl _
  · change ((setDest t d x).dest e).writeCount ≤ 16
    by_cases i : e = d
    · subst i
      simpa using hw he
    · rwa [setDest_dest_of_ne _ i]

theorem Keeps.after_setDest (h : Keeps s t) {d : Dest} {x : DestPort} (hx : (t.dest d).Stick x := by exact ⟨id, id, id⟩)
    (hw : x.writeCount = (t.dest d).writeCount := by rfl) :
    Keeps s (setDest t d x) :=
  h.after_setDest_count (fun hle => hw ▸ hle) hx

theorem Keeps.after_setMonitor_range (h : Keeps s t) {d : Dest} {m : Monitor}
    (hr : t.InRange → m.level ≤ 7 ∧ m.holdoff < t.windowPeriod)
    (ht : (t.monitor d).tripped = true → m.tripped = true) : Keeps s (setMonitor t d m) := by
  refine h.after_monitors (fun hin e => ?_) (fun e he => ?_)
  · change ((setMonitor t d m).monitor e).level ≤ 7 ∧ ((setMonitor t d m).monitor e).holdoff < t.windowPeriod
    by_cases i : e = d
    · subst i
      simpa using hr hin
    · obtain ⟨_, _, _, _, _, hmon, _⟩ := hin
      rw [setMonitor_monitor_of_ne _ i]
      exact hmon e
  · change ((setMonitor t d m).monitor e).tripped = true
    by_cases i : e = d
    · subst i
      simpa using ht he
    · rwa [setMonitor_monitor_of_ne _ i]

theorem Keeps.after_setMonitor (h : Keeps s t) {d : Dest} {m : Monitor} (hl : m.level = (t.monitor d).level := by rfl)
    (hh : m.holdoff = (t.monitor d).holdoff := by rfl) (ht : (t.monitor d).tripped = true → m.tripped = true := by exact id) : Keeps s (setMonitor t d m) :=
  h.after_setMonitor_range (fun ⟨_, _, _, _, _, hmon, _⟩ => by rw [hl, hh]; exact hmon d) ht

/-! ### The line and the Notice Queue -/

/-- The arbiter leaves the line served (R8), whatever the line, the waiting place and a queue within its capacity hold. -/
theorem Keeps.after_line (h : Keeps s t) {sending waiting : Option Frame} {notices : List Notice}
    (hn : t.notices.length ≤ 64 → notices.length ≤ 64) :
    Keeps s (pump { t with sending := sending, waitingReply := waiting, notices := notices }) := by
  let u : State := { t with sending := sending, waitingReply := waiting, notices := notices }
  have hlen : (pump u).notices.length ≤ notices.length := by
    unfold pump
    split
    · exact Nat.le_refl _
    · split
      · exact Nat.le_refl _
      · split <;> simp_all [u]
  have hserved : (pump u).LineServed := .inr (pump_served u)
  refine h.trans ?_
  rw [pump_frame u] at hserved ⊢
  exact ⟨⟨fun ⟨hinb, hnot, hrest⟩ => ⟨hinb, Nat.le_trans hlen (hn hnot), hrest⟩, id, fun _ => hserved⟩,
    ⟨.refl _, fun _ => id, fun _ => .refl _, fun _ => id⟩, rfl⟩

theorem Keeps.after_pump (h : Keeps s t) : Keeps s (pump t) := h.after_line id

/-- The Notice Queue takes at most 64 notices (R165). -/
theorem Keeps.after_notify (h : Keeps s t) {n : Notice} : Keeps s (notify n t) := by
  unfold notify
  rcases enqueue_cases t n with ⟨hlen, he⟩ | ⟨_, he⟩
  · rw [he]
    exact h.after_line fun _ => by simp; omega
  · rw [he]
    exact h.after_records.after_pump

theorem Keeps.after_sendFrame (h : Keeps s t) {r : Frame} : Keeps s (sendFrame r t) :=
  (Keeps.after_records h).after_line (t := { t with dispatch := none }) id

theorem Keeps.after_tellAll (h : Keeps s t) {ns : List Notice} : Keeps s (tellAll ns t) :=
  h.after_foldl (fun u _ => (Keeps.refl u).after_notify) ns

/-! ### Dispatch (R6) -/

/-- Dispatch takes the oldest frame from the inbound buffer (R5, R6). -/
theorem Keeps.of_offers {f : Frame} {rest : List Frame} (h : s.Offers f rest) : Keeps s (s.taken f rest) := by
  obtain ⟨_, hin⟩ := h
  refine (Keeps.after_queues (.refl s) (inbound := rest) (fun hl => ?_) id id).after_records
  rw [hin, List.length_cons] at hl
  omega

/-! ### Operations on records -/

theorem Keeps.after_modJob (h : Keeps s t) {i : Nat} {f : Job → Job} : Keeps s (modJob i f t) := by
  obtain ⟨_, e⟩ := modJob_frame t i f
  rw [e]
  exact h.after_records

theorem Keeps.after_modClip (h : Keeps s t) {c : Nat} {f : Clip → Clip} : Keeps s (modClip c f t) := by
  obtain ⟨_, e⟩ := modClip_frame t c f
  rw [e]
  exact h.after_records

theorem Keeps.after_modSlot (h : Keeps s t) {n : Nat} {f : Slot → Slot} : Keeps s (modSlot n f t) := by
  obtain ⟨_, e⟩ := modSlot_frame t n f
  rw [e]
  exact h.after_records

theorem Keeps.after_freeSlot (h : Keeps s t) {n : Nat} : Keeps s (freeSlot n t) := h.after_records

theorem Keeps.after_freeIfDone (h : Keeps s t) {n : Nat} : Keeps s (freeIfDone n t) := by
  obtain ⟨_, _, e⟩ := freeIfDone_frame t n
  rw [e]
  exact h.after_records

theorem Keeps.after_cardSend (h : Keeps s t) {p : Port} {o : CardOwner} {ask : Option CardAsk} : Keeps s (cardSend p o ask t) := by
  unfold cardSend
  split
  · exact h.after_setPort
  · exact h

theorem Keeps.after_cardKick (h : Keeps s t) {p : Port} : Keeps s (cardKick p t) := by
  unfold cardKick
  split
  · exact h
  · split
    · exact h.after_cardSend
    · split
      · exact h.after_cardSend
      · split
        · exact h.after_cardSend
        · exact h

theorem Keeps.after_clearCard (h : Keeps s t) {p : Port} : Keeps s (clearCard p t) := h.after_setPort

theorem Keeps.after_abandonCard (h : Keeps s t) {p : Port} : Keeps s (abandonCard p t) := by
  unfold abandonCard
  split
  · split
    · exact h.after_clearCard
    · exact h.after_setPort
  · exact h

theorem Keeps.after_bridgeSend (h : Keeps s t) {d : Dest} {ask : Option BridgeAsk} {again : Bool} : Keeps s (bridgeSend d ask again t) := by
  unfold bridgeSend
  split
  · exact h.after_setDest
  · exact h

theorem Keeps.after_bridgeKick (h : Keeps s t) {d : Dest} : Keeps s (bridgeKick d t) := by
  unfold bridgeKick
  split
  · exact h
  · split
    · exact h.after_bridgeSend
    · split
      · exact h.after_bridgeSend
      · exact h
    · exact h

theorem Keeps.after_clearBridge (h : Keeps s t) {d : Dest} : Keeps s (clearBridge d t) := h.after_setDest

theorem Keeps.after_leaveRecopyList (h : Keeps s t) {c : Nat} : Keeps s (leaveRecopyList c t) := by
  obtain ⟨_, e⟩ := leaveRecopyList_frame t c
  rw [e]
  exact h.after_records

theorem Keeps.after_leaveRecopy (h : Keeps s t) {c : Nat} {d : Dest} : Keeps s (leaveRecopy c d t) := by
  obtain ⟨_, _, _, e⟩ := leaveRecopy_frame t c d
  rw [e]
  exact h.after_records

theorem Keeps.after_setCopyState (h : Keeps s t) {c : Nat} {d : Dest} {st : CopyState} {cause : Cause} :
    Keeps s (setCopyState c d st cause t) :=
  h.after_modClip

theorem Keeps.after_setSv (h : Keeps s t) {c : Nat} {sv : SvState} : Keeps s (setSv c sv t) := h.after_modClip

theorem Keeps.after_tellCopy (h : Keeps s t) {c : Nat} {news : CopyNews} {cause : Cause} : Keeps s (tellCopy c news cause t) := by
  unfold tellCopy
  split
  · exact h.after_notify
  · exact h

theorem Keeps.after_failCopy (h : Keeps s t) {c : Nat} {d : Dest} {st : CopyState} {cause : Cause} : Keeps s (failCopy c d st cause t) :=
  h.after_setCopyState.after_leaveRecopy.after_tellCopy

/-! ### The end of an event -/

theorem Keeps.after_refresh (h : Keeps s t) : Keeps s (refresh t) := by
  have hp : Keeps s { t with ports := (refresh t).ports } := by
    refine h.after_ports fun p hp => ?_
    change ((refresh t).port p).readError = true
    rwa [refresh_port]
  exact hp.after_records

theorem Keeps.after_dropHolds (h : Keeps s t) {d : Dest} {soft hard : Bool} : Keeps s (dropHolds d soft hard t) := h.after_records

theorem Keeps.after_issueTask (h : Keeps s t) {c : Nat} : Keeps s (issueTask t c) := by
  unfold issueTask
  split
  · split
    · exact h.after_records
    · exact h
  · exact h

theorem Keeps.after_drainJob (h : Keeps s t) {i : Nat} : Keeps s (drainJob t i) := by
  unfold drainJob
  split
  · split
    · exact .after_if (h.after_setJob.after_notify.after_foldl (fun u _ => (Keeps.refl u).after_issueTask) _) h.after_setJob.after_notify
    · exact h
  · exact h

theorem Keeps.after_evalJob (h : Keeps s t) {i : Nat} : Keeps s (evalJob t i) := by
  unfold evalJob
  split
  · split
    · exact h
    · exact .after_if h.after_setJob (.after_if h.after_setJob.after_notify h.after_setJob.after_notify)
  · exact h

theorem Keeps.after_freeJob (h : Keeps s t) {i : Nat} : Keeps s (freeJob t i) := by
  unfold freeJob
  split
  · exact .after_if h.after_records.after_notify h
  · exact h

theorem Keeps.after_closeJobs (h : Keeps s t) {hs : List Nat} : Keeps s (closeJobs hs t) :=
  ((h.after_foldl (fun u _ => (Keeps.refl u).after_drainJob) hs).after_foldl (fun u _ => (Keeps.refl u).after_evalJob) hs).after_foldl
    (fun u _ => (Keeps.refl u).after_freeJob) hs

theorem Keeps.after_crossingHolds (h : Keeps s t) {d : Dest} {m : Monitor} : Keeps s (crossingHolds d m t) := by
  unfold crossingHolds
  split
  · exact h.after_records
  · exact h.after_records
  · exact h

/-- A crossing moves the above state and may set the tripped flag (R156, R158). -/
theorem Keeps.after_seeBacklog (h : Keeps s t) {d : Dest} : Keeps s (seeBacklog t d) := by
  unfold seeBacklog
  refine .after_if h (.after_if (.after_if ?_ ?_) ?_)
  · exact h.after_setMonitor
  · exact Keeps.after_crossingHolds (h.after_setMonitor (ht := fun ht => by simp [ht]))
  · exact h.after_setMonitor

theorem Keeps.after_closeSeen (h : Keeps s t) {hs : List Nat} : Keeps s (closeSeen hs t) :=
  (h.after_foldl (fun u _ => (Keeps.refl u).after_seeBacklog) _).after_closeJobs.after_tellAll

end

end Sys2Proof.Machine
end

section
/-! SUPPORT. What every command keeps, block by block: the engines, the loss procedure, the cards, jobs, clips, destination ports, the line,
the monitors and the readers each keep the bounds, the sticky flags and the settings. -/

namespace Sys2Proof.Machine

-- One theorem at a time: checking them all at once needs more threads than the sandbox gives.
set_option Elab.async false

open Sys2Proof

section
variable {s t : State}

/-! ### The Verify Engines and the loss procedure (spec/07, R117 to R119) -/

theorem Keeps.after_withdraw (h : Keeps s t) {e : EngineIx} : Keeps s (withdraw e t) := by
  have hd : Keeps s { t with dests := t.dests.map (fun x => { x with segWaiting := x.segWaiting.filter (fun y => decide (y ≠ e)) }) } := by
    refine h.after_dests (fun d => ?_) (fun d hd => ?_) <;> rw [Vector.getElem_map]
    · exact ⟨id, id, id⟩
    · exact hd
  exact hd.after_records

theorem Keeps.after_askSegment (h : Keeps s t) {e : EngineIx} : Keeps s (askSegment e t) := by
  unfold askSegment
  split
  · dsimp only
    split
    · exact h.after_setEngine.after_setDest
    · split
      · exact h.after_setEngine.after_setReader
      · exact h.after_setEngine
  · exact h

theorem Keeps.after_giveUp (h : Keeps s t) {e : EngineIx} : Keeps s (giveUp e t) := by
  unfold giveUp
  split
  · exact h.after_withdraw.after_setEngine.after_setSv.after_records
  · exact h

theorem Keeps.after_svLetGo (h : Keeps s t) {u : Task} : Keeps s (svLetGo u t) := by
  unfold svLetGo
  split
  · exact h.after_modClip
  · exact h

theorem Keeps.after_letGo (h : Keeps s t) {e : EngineIx} : Keeps s (letGo e t) := by
  unfold letGo
  split
  · exact h.after_withdraw.after_setEngine.after_svLetGo
  · exact h

theorem Keeps.after_settleTarget (h : Keeps s t) {u : Task} {copy : CopyState} {sv : SvState} {cause : Cause} :
    Keeps s (settleTarget u copy sv cause t) := by
  unfold settleTarget
  split
  · exact .after_if h.after_setCopyState.after_tellCopy h.after_failCopy
  · exact h.after_setSv.after_tellCopy

theorem Keeps.after_retryTarget (h : Keeps s t) {u : Task} : Keeps s (retryTarget u t) := by
  unfold retryTarget
  split
  · exact h.after_modClip
  · exact h.after_setSv

theorem Keeps.after_compareTask (h : Keeps s t) {e : EngineIx} {u : Task} {i : Nat} : Keeps s (compareTask e u i t) := by
  have hfree : Keeps s (freeEngine e t) := h.after_setEngine
  unfold compareTask
  refine .after_if hfree.after_settleTarget.after_closeJobs (.after_if ?_ hfree.after_settleTarget.after_closeJobs)
  exact Keeps.after_closeJobs hfree.after_retryTarget.after_records

theorem Keeps.after_segmentComplete (h : Keeps s t) {g : Segment} : Keeps s (segmentComplete g t) := by
  unfold segmentComplete
  split
  · exact .after_if h.after_letGo.after_closeJobs (.after_if h.after_giveUp.after_closeJobs
      (.after_if h.after_setEngine.after_askSegment h.after_setEngine.after_compareTask))
  · exact h

theorem Keeps.after_segmentFailed (h : Keeps s t) {g : Segment} : Keeps s (segmentFailed g t) := by
  have hfree : Keeps s (freeEngine g.engine t) := h.after_setEngine
  unfold segmentFailed
  split
  · exact .after_if h.after_letGo.after_closeJobs (.after_if h.after_giveUp.after_closeJobs hfree.after_settleTarget.after_closeJobs)
  · exact h

theorem Keeps.after_foldSegment (h : Keeps s t) {g : Segment} {count : Nat} {data : List Byte} : Keeps s (foldSegment g count data t) := by
  unfold foldSegment
  dsimp only
  split
  · exact h.after_setEngine
  · exact h

theorem Keeps.after_startTarget (h : Keeps s t) {u : Task} : Keeps s (startTarget u t) := by
  unfold startTarget
  split
  · exact h.after_modClip
  · exact h.after_setSv

theorem Keeps.after_takeTask (h : Keeps s t) {e : EngineIx} {u : Task} {i : Nat} : Keeps s (takeTask e u i t) :=
  (Keeps.after_startTarget h.after_records).after_setEngine.after_askSegment

theorem Keeps.after_takeNext (h : Keeps s t) : Keeps s (takeNext t) := by
  unfold takeNext
  split
  · split
    · exact h.after_takeTask.after_closeJobs.after_refresh
    · exact h
  · exact h

theorem Keeps.after_loseCopy (h : Keeps s t) {d : Dest} {lost : Option DestIdentity} {c : Nat} : Keeps s (loseCopy d lost t c) := by
  unfold loseCopy
  split
  · split
    · split
      · split
        · exact h.after_failCopy
        · exact h.after_setCopyState.after_tellCopy
        · exact h
      · exact h
    · exact h
  · exact h

theorem Keeps.after_dropFromSlots (h : Keeps s t) {d : Dest} : Keeps s (dropFromSlots d t) :=
  Keeps.after_foldl h.after_records (fun u _ => (Keeps.refl u).after_freeIfDone) _

theorem Keeps.after_dropTasks (h : Keeps s t) {d : Dest} : Keeps s (dropTasks d t) := h.after_records

theorem Keeps.after_loseDest (h : Keeps s t) {d : Dest} {st : DestState} {reason : DestReason} : Keeps s (loseDest d st reason t) := by
  have hport : Keeps s (setDest t d { (t.dest d).dropWork with state := st }) := h.after_setDest_count fun _ => Nat.zero_le 16
  refine Keeps.after_refresh (Keeps.after_closeJobs (Keeps.after_setMonitor (Keeps.after_dropHolds (Keeps.after_dropTasks ?_))))
  exact hport.after_dropFromSlots.after_notify.after_foldl (fun u _ => (Keeps.refl u).after_loseCopy) _

/-! ### Card ports and the survey (spec/02) -/

/-- The survey and its queue may change within R25: no port twice in the queue, and none there that is being surveyed. -/
theorem Keeps.after_survey (h : Keeps s t) {queue : List Port} {survey : Option Survey}
    (hq : (t.surveyQueue.Nodup ∧ ∀ p : Port, t.survey.any (fun v => decide (v.port = p)) = true → p ∉ t.surveyQueue) →
      queue.Nodup ∧ ∀ p : Port, survey.any (fun v => decide (v.port = p)) = true → p ∉ queue) :
    Keeps s { t with surveyQueue := queue, survey := survey } :=
  h.after_queues id id hq

theorem Keeps.after_presenceAppear (h : Keeps s t) {p : Port} {ms : Nat} : Keeps s (setPort t p ((t.port p).appear ms)) := by
  refine h.after_setPort ?_
  unfold CardPort.appear
  split <;> exact id

theorem Keeps.after_presenceDrop (h : Keeps s t) {p : Port} : Keeps s (setPort t p (t.port p).drop) := by
  refine h.after_setPort ?_
  unfold CardPort.drop
  split <;> exact id

/-- A port joins the queue only from outside the queue and the survey (R25). -/
theorem Keeps.after_joinSurvey (h : Keeps s t) {p : Port} : Keeps s (joinSurvey p t) := by
  unfold joinSurvey
  split
  · exact h
  next hn =>
    obtain ⟨hmem, hsurveyed⟩ := not_or.mp hn
    refine h.after_survey fun ⟨hnodup, hq⟩ => ⟨?_, fun q hv hin => ?_⟩
    · simpa using hnodup.concat hmem
    · rcases List.mem_append.mp hin with hin | hin
      · exact hq q hv hin
      · obtain rfl := List.mem_singleton.mp hin
        exact hsurveyed hv

theorem Keeps.after_leaveSurveyQueue (h : Keeps s t) {p : Port} : Keeps s (leaveSurveyQueue p t) :=
  h.after_survey fun ⟨hnodup, hq⟩ => ⟨hnodup.filter _, fun q hv hin => hq q hv (List.mem_filter.mp hin).1⟩

theorem Keeps.after_settled (h : Keeps s t) {p : Port} : Keeps s (settled p t) := by
  have hport : Keeps s (setPort t p { t.port p with state := .present, settle := none }) := h.after_setPort
  unfold settled
  split
  · exact (Keeps.after_if hport.after_notify.after_joinSurvey hport.after_notify).after_refresh
  · exact h

theorem Keeps.after_rollBack (h : Keeps s t) {p : Port} : Keeps s (rollBack p t) := by
  unfold rollBack
  split
  · exact .after_if h.after_setReader.after_freeSlot.after_modClip h.after_setReader.after_freeSlot
  · exact h

theorem Keeps.after_removeEngine (h : Keeps s t) {p : Port} {e : EngineIx} : Keeps s (removeEngine p t e) := by
  unfold removeEngine
  exact .after_if (.after_if h.after_letGo h.after_giveUp) h

theorem Keeps.after_removeSegments (h : Keeps s t) {p : Port} : Keeps s (removeSegments p t) := by
  have he := h.after_foldl (fun u _ => (Keeps.refl u).after_removeEngine) [1, 0] (g := removeEngine p)
  unfold removeSegments
  dsimp only
  split
  · exact he.after_setReader
  · exact he

theorem Keeps.after_endSurvey (h : Keeps s t) {p : Port} : Keeps s (endSurvey p t) :=
  h.after_survey fun ⟨hnodup, hq⟩ => ⟨hnodup, fun q hv => by
    obtain ⟨v, hmem, hp⟩ := (Option.any_eq_true _ _).mp hv
    exact hq q ((Option.any_eq_true _ _).mpr ⟨v, (Option.filter_eq_some_iff.mp hmem).1, hp⟩)⟩

theorem Keeps.after_unbind (h : Keeps s t) {job : Option Nat} : Keeps s (unbind job t) := by
  unfold unbind
  split
  · exact h.after_modJob
  · exact h

theorem Keeps.after_removeCard (h : Keeps s t) {p : Port} : Keeps s (removeCard p t) := by
  have hcard := h.after_abandonCard (p := p) |>.after_rollBack (p := p) |>.after_removeSegments (p := p) |>.after_endSurvey (p := p)
    |>.after_leaveSurveyQueue (p := p) |>.after_unbind (job := (t.port p).job)
  exact (hcard.after_setPort).after_notify.after_closeJobs.after_refresh

theorem Keeps.after_absenceExpired (h : Keeps s t) {p : Port} : Keeps s (absenceExpired p t) := by
  unfold absenceExpired
  split
  · split
    · exact h
    · exact (h.after_setPort).after_refresh
    · exact h.after_removeCard
  · exact h

theorem Keeps.after_holdError (h : Keeps s t) {p : Port} : Keeps s (holdError p t) := by
  unfold holdError
  split
  · split
    · exact h
    · exact h.after_setPort
  · exact h

theorem Keeps.after_endAbandoned (h : Keeps s t) {p : Port} : Keeps s (endAbandoned p t) := by
  unfold endAbandoned
  split
  · split
    · exact h.after_clearCard.after_cardKick.after_closeJobs.after_refresh
    · exact h
  · exact h

theorem Keeps.after_cardTimedOut (h : Keeps s t) {p : Port} : Keeps s (cardTimedOut p t) := by
  unfold cardTimedOut
  split
  · split
    · exact h.after_endAbandoned
    · exact h.after_holdError
  · exact h

theorem Keeps.after_blinkToggle (h : Keeps s t) {p : Port} : Keeps s (blinkToggle p t) := by
  unfold blinkToggle
  exact .after_if (h.after_setPort) h

/-- The oldest port leaves the queue as its survey starts (R25, R26). -/
theorem Keeps.after_startSurvey (h : Keeps s t) : Keeps s (startSurvey t) := by
  unfold startSurvey
  split
  next p rest _ hqueue =>
    have hq : Keeps s { t with surveyQueue := rest, survey := some ⟨p, .identify, 0⟩ } := by
      refine h.after_survey fun ⟨hnodup, _⟩ => ?_
      rw [hqueue, List.nodup_cons] at hnodup
      refine ⟨hnodup.2, fun q hv => ?_⟩
      obtain rfl : p = q := by simpa using hv
      exact hnodup.1
    exact (hq.after_setPort).after_cardKick.after_refresh
  · exact h

theorem Keeps.after_surveyOver (h : Keeps s t) : Keeps s { t with survey := none } :=
  h.after_survey fun ⟨hnodup, _⟩ => ⟨hnodup, fun q hv => by simp at hv⟩

/-- A survey that goes on stays on its port. -/
theorem Keeps.after_surveyStep (h : Keeps s t) {v w : Survey} (hv : t.survey = some v) (hp : w.port = v.port := by rfl) :
    Keeps s { t with survey := some w } :=
  h.after_survey fun ⟨hnodup, hq⟩ => ⟨hnodup, fun q hw => hq q (by simpa [hv, hp] using hw)⟩

theorem Keeps.after_failSurvey (h : Keeps s t) {p : Port} {cause : SurveyCause} : Keeps s (failSurvey p cause t) :=
  (h.after_surveyOver.after_setPort).after_notify.after_refresh

theorem Keeps.after_surveyIdentified (h : Keeps s t) {answer : AdapterIdentity} : Keeps s (surveyIdentified answer t) := by
  unfold surveyIdentified
  split
  next v hv =>
    have hgo : Keeps s { clearCard v.port t with survey := some ⟨v.port, .read answer, 0⟩ } :=
      (Keeps.after_clearCard h).after_surveyStep (v := v) hv
    exact .after_if (.after_if h.after_clearCard.after_failSurvey
      (.after_if h.after_clearCard.after_failSurvey hgo.after_cardKick)) h
  · exact h

theorem Keeps.after_bindJob (h : Keeps s t) {i : Nat} {p : Port} : Keeps s (bindJob i p t) :=
  ((h.after_modJob (i := i)).after_setPort).after_setReader

theorem Keeps.after_completeSurvey (h : Keeps s t) {p : Port} {card : CardIdentity} : Keeps s (completeSurvey p card t) := by
  have hid : Keeps s (notify (.cardIdentified p card)
      (setPort { t with survey := none } p { t.port p with state := .identified, identity := some card })) :=
    Keeps.after_notify h.after_surveyOver.after_setPort
  refine Keeps.after_refresh ?_
  split
  · exact hid.after_bindJob.after_notify
  · exact .after_if hid.after_notify hid

theorem Keeps.after_surveyRead (h : Keeps s t) {data : List Byte} : Keeps s (surveyRead data t) := by
  unfold surveyRead
  split
  · split
    · exact .after_if h.after_clearCard.after_completeSurvey h
    · exact h
  · exact h

theorem Keeps.after_surveyError (h : Keeps s t) {p : Port} : Keeps s (surveyError p t) := by
  unfold surveyError
  split
  next v hv => exact .after_if (h.after_surveyStep (v := v) hv).after_cardKick h.after_failSurvey
  · exact h

/-- A released fingerprint joins the Known-Card List once, and the oldest leaves a full list (R33). -/
theorem addKnown_capacity {known : List (BitVec 64)} (f : BitVec 64) (h : known.length ≤ 64 ∧ known.Nodup) :
    (addKnown known f).length ≤ 64 ∧ (addKnown known f).Nodup := by
  obtain ⟨hlen, hnodup⟩ := h
  unfold addKnown Config.knownEntries
  split
  case isTrue hin =>
    have hlt : (known.filter (fun g => decide (g ≠ f))).length < known.length :=
      List.length_filter_lt_length_iff_exists.mpr ⟨f, hin, by simp⟩
    refine ⟨by simp only [List.length_append, List.length_singleton]; omega, ?_⟩
    simpa using (hnodup.filter _).concat (a := f) (by simp)
  case isFalse hout =>
    split
    · refine ⟨by simp; omega, ?_⟩
      simpa using hnodup.concat hout
    · refine ⟨by simp; omega, ?_⟩
      simpa using (hnodup.sublist (List.drop_sublist 1 known)).concat fun hin => hout (List.mem_of_mem_drop hin)

theorem Keeps.after_known (h : Keeps s t) {known : List (BitVec 64)}
    (hk : t.known.length ≤ 64 ∧ t.known.Nodup → known.length ≤ 64 ∧ known.Nodup) : Keeps s { t with known := known } :=
  h.after_queues id hk id

end

end Sys2Proof.Machine
end

section
/-! SUPPORT. What every command keeps, continued: the answers to the host's requests, the destination ports, the line, the monitors and the
readers; and, command by command, `exec` itself. -/

namespace Sys2Proof.Machine

-- One theorem at a time: checking them all at once needs more threads than the sandbox gives.
set_option Elab.async false

open Sys2Proof

section
variable {s t : State}

/-! ### Jobs and clips (spec/03) -/

theorem Keeps.after_unbindPort (h : Keeps s t) {binding : Option Port} {st : PortState} : Keeps s (unbindPort binding st t) := by
  unfold unbindPort
  split
  · exact h.after_setPort
  · exact h

theorem Keeps.after_pauseEngine (h : Keeps s t) {i : Nat} {e : EngineIx} : Keeps s (pauseEngine i t e) := by
  unfold pauseEngine
  split
  · exact .after_if h.after_giveUp h
  · exact h

theorem Keeps.after_abortClips (h : Keeps s t) {i : Nat} : Keeps s (abortClips i t) := h.after_records

/-- An aborted job's work at a destination ends without a flag or a count (R45). -/
theorem Keeps.after_abortDest (h : Keeps s t) {i : Nat} {d : Dest} : Keeps s (abortDest i t d) := by
  unfold abortDest
  dsimp only
  split
  · exact .after_if (.after_if h.after_setDest (Keeps.after_modSlot h.after_setDest)) h.after_setDest
  · exact .after_if (.after_if h.after_setDest (Keeps.after_letGo h.after_setDest)) h.after_setDest
  · exact h.after_setDest

theorem Keeps.after_abortReader (h : Keeps s t) {i : Nat} {p : Port} : Keeps s (abortReader i t p) := by
  unfold abortReader
  extract_lets _ s1
  have hchunk : Keeps s s1 := by
    unfold s1
    split
    · exact .after_if (.after_if h.after_setReader h.after_setReader.after_freeSlot) h
    · exact h
  clear_value s1
  split
  · exact .after_if (.after_if hchunk.after_setReader hchunk.after_setReader.after_letGo) hchunk
  · exact hchunk

theorem Keeps.after_abortEngine (h : Keeps s t) {i : Nat} {e : EngineIx} : Keeps s (abortEngine i t e) := by
  unfold abortEngine
  exact .after_if h.after_letGo h

theorem Keeps.after_abortSlots (h : Keeps s t) {i : Nat} : Keeps s (abortSlots i t) :=
  Keeps.after_foldl h.after_records (fun u _ => (Keeps.refl u).after_freeIfDone) _

theorem Keeps.after_abortJob (h : Keeps s t) {i : Nat} {j : Job} : Keeps s (abortJob i j t) := by
  refine Keeps.after_refresh (Keeps.after_closeSeen (Keeps.after_abortSlots ?_))
  refine Keeps.after_foldl (Keeps.after_records ?_) (fun u _ => (Keeps.refl u).after_abortEngine) _
  refine Keeps.after_foldl (Keeps.after_foldl ?_ (fun u _ => (Keeps.refl u).after_abortDest) _) (fun u _ => (Keeps.refl u).after_abortReader) _
  exact h.after_setJob.after_unbindPort.after_abortClips

theorem Keeps.after_releaseJob (h : Keeps s t) {i : Nat} {j : Job} : Keeps s (releaseJob i j t) :=
  (h.after_known (addKnown_capacity _)).after_unbindPort.after_setJob.after_closeJobs.after_refresh

theorem Keeps.after_evaluated (h : Keeps s t) {i : Nat} : Keeps s (refresh (evalJob t i)) := h.after_evalJob.after_refresh

/-! ### The answers to the host's requests -/

/-- A request's owner keeps the bounds, flags and settings of the state it answers in. -/
def KeepingOwner {α : Type} (owner : α → State → Reply × State) : Prop := ∀ a s, Keeps s (owner a s).2

theorem Keeps.of_withJob {i : Nat} {owner : Job → Reply × State} (h : ∀ j, Keeps s (owner j).2) : Keeps s (withJob i s owner).2 := by
  unfold withJob
  split
  · exact h _
  · exact .refl s

theorem Keeps.of_withClip {c : Nat} {owner : Clip → Job → Reply × State} (h : ∀ k j, Keeps s (owner k j).2) :
    Keeps s (withClip c s owner).2 := by
  unfold withClip
  split
  · split
    · exact h _ _
    · exact .refl s
  · exact .refl s

/-- A choice between two answers keeps what both keep. -/
theorem Keeps.of_if {c : Prop} [Decidable c] {x y : Reply × State} (h : Keeps s x.2) (k : Keeps s y.2) :
    Keeps s (if c then x else y).2 := by
  split
  · exact h
  · exact k

theorem identify_keeps : KeepingOwner (fun (_ : Unit) t => (⟨.ok, identifyFields⟩, t)) := fun _ s => .refl s

theorem statusGet_keeps : KeepingOwner statusGet := fun _ s => (Keeps.refl s).after_records

theorem deviceReset_keeps : KeepingOwner deviceReset := fun _ s => (Keeps.refl s).after_records

theorem cardSurvey_keeps : KeepingOwner cardSurvey := by
  intro n s
  unfold cardSurvey
  split
  · exact .refl s
  · split
    case h_6 | h_7 | h_8 => exact (Keeps.refl s).after_joinSurvey
    all_goals exact .refl s

theorem jobOpen_keeps : KeepingOwner jobOpen := by
  intro a s
  unfold jobOpen
  split
  · exact .refl s
  · refine .of_if (.refl s) (.of_if (.refl s) (.of_if (.refl s) ?_))
    split
    · exact .refl s
    · refine .of_if (.refl s) ?_
      split
      · exact .refl s
      · exact (Keeps.refl s).after_setJob.after_bindJob.after_leaveSurveyQueue.after_refresh

theorem jobFinal_keeps : KeepingOwner jobFinal := fun _ s =>
  .of_withJob fun _ => .of_if (.refl s) (.of_if (.refl s) (.of_if (.refl s) (Keeps.refl s).after_setJob.after_closeJobs.after_refresh))

theorem jobPause_keeps : KeepingOwner jobPause := fun _ s =>
  .of_withJob fun _ => .of_if (.refl s) (.of_if (.refl s)
    ((Keeps.refl s).after_setJob.after_foldl (fun u _ => (Keeps.refl u).after_pauseEngine) [1, 0]).after_closeJobs.after_refresh)

theorem jobResume_keeps : KeepingOwner jobResume := fun _ s =>
  .of_withJob fun _ => .of_if (.refl s) (Keeps.refl s).after_setJob.after_refresh

theorem jobAbort_keeps : KeepingOwner jobAbort := fun _ s =>
  .of_withJob fun _ => .of_if (.refl s) (Keeps.refl s).after_abortJob

theorem jobQuery_keeps : KeepingOwner jobQuery := fun _ s => .of_withJob fun _ => .refl s

theorem cardRelease_keeps : KeepingOwner cardRelease := fun _ s =>
  .of_withJob fun _ => .of_if (.refl s) (.of_if (.refl s) (Keeps.refl s).after_releaseJob)

theorem clipBegin_keeps : KeepingOwner clipBegin := fun _ s =>
  .of_withJob fun _ => .of_if (.refl s) (.of_if (.refl s) (by
    split
    · exact .refl s
    · exact (Keeps.refl s).after_setClip))

theorem extentsAdd_keeps : KeepingOwner extentsAdd := fun _ s =>
  .of_withClip fun _ _ => .of_if (.refl s) (by
    split
    · exact .refl s
    · exact .of_if (.refl s) (.of_if (.refl s) (.of_if (.refl s) (.of_if (.refl s) (Keeps.refl s).after_setClip))))

theorem clipCommit_keeps : KeepingOwner clipCommit := fun _ s =>
  .of_withClip fun _ _ => .of_if (.refl s) (.of_if (.refl s) (Keeps.refl s).after_setClip.after_setJob.after_evaluated)

theorem clipCancel_keeps : KeepingOwner clipCancel := fun _ s =>
  .of_withClip fun _ _ => .of_if (.refl s) (Keeps.refl s).after_records

theorem clipQuery_keeps : KeepingOwner clipQuery := fun _ s => .of_withClip fun _ _ => .refl s

theorem clipRecopy_keeps : KeepingOwner clipRecopy := fun _ s =>
  .of_withClip fun _ _ => by
    split
    · exact .refl s
    · exact .of_if (.refl s) (.of_if (.refl s) (.of_if (.refl s) (.of_if (.refl s) (.of_if (.refl s) (.of_if (.refl s) (.of_if (.refl s)
        (Keeps.refl s).after_setClip.after_setJob.after_evaluated))))))

theorem Keeps.after_reverify (h : Keeps s t) {c : Nat} {k : Clip} {target : Target} : Keeps s (reverify c k target t) :=
  Keeps.after_evaluated h.after_records

theorem clipReverify_keeps : KeepingOwner clipReverify := fun _ s =>
  .of_withClip fun _ _ => by
    split
    · exact .refl s
    · refine .of_if (.refl s) ?_
      split
      · exact .of_if (.refl s) (.of_if (.refl s) (.of_if (.refl s) (Keeps.refl s).after_reverify))
      · exact .of_if (.refl s) (.of_if (.refl s) (Keeps.refl s).after_reverify)

/-! ### The destination ports (spec/06) -/

theorem Keeps.after_destState (h : Keeps s t) {d : Dest} {st : DestState} {reason : DestReason} : Keeps s (destState d st reason t) :=
  Keeps.after_notify h.after_setDest

theorem Keeps.after_startIdentify (h : Keeps s t) {d : Dest} {reason : DestReason} : Keeps s (startIdentify d reason t) :=
  (Keeps.after_destState h.after_setDest).after_bridgeKick

theorem Keeps.after_linkComesUp (h : Keeps s t) {d : Dest} : Keeps s (linkComesUp d t) := by
  unfold linkComesUp
  exact .after_if h (Keeps.after_startIdentify h.after_setDest)

theorem Keeps.after_linkGoesDown (h : Keeps s t) {d : Dest} : Keeps s (linkGoesDown d t) := by
  have hlink : Keeps s (setDest t d { t.dest d with linkUp := false, request := none }) := h.after_setDest
  unfold linkGoesDown
  exact .after_if (.after_if hlink.after_loseDest.after_setDest (Keeps.after_destState hlink.after_setDest)) h

theorem Keeps.after_identifyAnswered (h : Keeps s t) {d : Dest} {answer : Option DestIdentity} : Keeps s (identifyAnswered d answer t) := by
  unfold identifyAnswered
  refine .after_if ?_ h
  dsimp only
  split
  · exact Keeps.after_destState h.after_clearBridge.after_setDest
  · exact h.after_clearBridge.after_destState

/-- A port that goes ONLINE starts with no write counted (R101, R116). -/
theorem Keeps.after_attach (h : Keeps s t) {d : Dest} : Keeps s (attach d t) := by
  have hport : Keeps s (setDest t d
      { t.dest d with blocksWritten := 0, writeCount := 0, writeQueue := [], awaiting := [], segWaiting := [] }) :=
    h.after_setDest_count fun _ => Nat.zero_le 16
  exact hport.after_setMonitor.after_destState.after_refresh

theorem destAttach_keeps : KeepingOwner destAttach := by
  intro n s
  unfold destAttach
  split
  · exact .refl s
  · split
    · exact (Keeps.refl s).after_attach
    · exact (Keeps.refl s).after_startIdentify
    all_goals exact .refl s

theorem destDetach_keeps : KeepingOwner destDetach := by
  intro a s
  unfold destDetach
  split
  · exact .refl s
  · exact .of_if (.refl s) (.of_if (.refl s) (.of_if (Keeps.refl s).after_loseDest
      (.of_if (.refl s) (Keeps.refl s).after_destState.after_refresh)))

theorem destQuery_keeps : KeepingOwner destQuery := by
  intro n s
  unfold destQuery
  split <;> exact .refl s

/-- The count of writes in a row stops at 16 (R116). -/
theorem Keeps.after_startWrite (h : Keeps s t) {d : Dest} {n : Nat} {rest : List Nat} : Keeps s (startWrite d n rest t) := by
  refine Keeps.after_bridgeKick (Keeps.after_modSlot ?_)
  exact h.after_setDest_count fun _ => Nat.min_le_left 16 _

theorem Keeps.after_startDestSegment (h : Keeps s t) {d : Dest} {e : EngineIx} {rest : List EngineIx} :
    Keeps s (startDestSegment d e rest t) := by
  refine Keeps.after_bridgeKick ?_
  exact h.after_setEngine.after_setDest_count fun _ => Nat.zero_le 16

theorem Keeps.after_decideOp (h : Keeps s t) {d : Dest} : Keeps s (decideOp d t) := by
  have hflush : Keeps s (startFlush d t) := Keeps.after_bridgeKick h.after_setDest
  have hchoose : Keeps s (chooseOp d t) := by
    unfold chooseOp
    split
    · exact h.after_startWrite
    · exact h.after_startDestSegment
    · exact .after_if h.after_startDestSegment h.after_startWrite
    · exact h
  unfold decideOp
  exact .after_if (.after_if hflush hchoose) h

theorem Keeps.after_countChunk (h : Keeps s t) {c : Nat} {d : Dest} : Keeps s (countChunk c d t) := by
  unfold countChunk
  split
  · exact .after_if (.after_if h.after_setClip (.after_if h.after_setClip.after_failCopy (Keeps.after_setDest h.after_setClip))) h
  · exact h

theorem Keeps.after_finishWrite (h : Keeps s t) {d : Dest} {n : Nat} : Keeps s (finishWrite d n t) := by
  have hcount := Keeps.after_foldl (h.after_setDest (d := d) (x := { t.dest d with op := none }))
    (fun u _ => (Keeps.refl u).after_countChunk) ((t.slot n).map Slot.clip).toList (g := fun u c => countChunk c d u)
  exact hcount.after_modSlot.after_freeIfDone.after_closeSeen.after_refresh

theorem Keeps.after_endAbortedWrite (h : Keeps s t) {d : Dest} {n : Nat} : Keeps s (endAbortedWrite d n t) :=
  (Keeps.after_modSlot h.after_setDest).after_freeIfDone.after_closeSeen.after_refresh

theorem Keeps.after_writeAnswered (h : Keeps s t) {d : Dest} : Keeps s (writeAnswered d t) := by
  unfold writeAnswered
  split
  · exact .after_if (Keeps.after_endAbortedWrite h.after_setDest)
      (.after_if (Keeps.after_bridgeKick h.after_setDest) (Keeps.after_finishWrite h.after_setDest))
  · exact h

theorem Keeps.after_failPort (h : Keeps s t) {d : Dest} {reason : DestReason} : Keeps s (failPort d reason t) :=
  Keeps.after_loseDest h.after_setDest

theorem Keeps.after_failWrite (h : Keeps s t) {d : Dest} {n : Nat} : Keeps s (failWrite d n t) :=
  (h.after_foldl (fun u _ => .after_if (Keeps.refl u).after_failCopy (.refl u)) _).after_failPort.after_tellAll

/-- An ERROR or a timeout sets flags and clears none (R97). -/
theorem markError_stick (x : DestPort) (ask : BridgeAsk) (timedOut : Bool) : x.Stick (x.markError ask timedOut) := by
  cases ask <;> exact ⟨fun h => by simp [DestPort.markError, h], fun h => by simp [DestPort.markError, h],
    fun h => by simp [DestPort.markError, h]⟩

theorem markError_writeCount (x : DestPort) (ask : BridgeAsk) (timedOut : Bool) : (x.markError ask timedOut).writeCount = x.writeCount := by
  cases ask <;> rfl

theorem Keeps.after_noteError (h : Keeps s t) {d : Dest} {ask : BridgeAsk} {timedOut : Bool} : Keeps s (noteError d ask timedOut t) := by
  have hstick := markError_stick (t.dest d) ask timedOut
  exact h.after_setDest ⟨hstick.writeErr, hstick.readErr, hstick.timeout⟩ (markError_writeCount _ _ _)

theorem Keeps.after_resend (h : Keeps s t) {d : Dest} {ask : BridgeAsk} : Keeps s (resend d ask t) := h.after_bridgeSend

theorem Keeps.after_writeError (h : Keeps s t) {d : Dest} {timedOut : Bool} : Keeps s (writeError d timedOut t) := by
  unfold writeError
  split
  · exact .after_if h.after_noteError.after_endAbortedWrite (.after_if h.after_noteError.after_failWrite h.after_noteError.after_resend)
  · exact h

theorem Keeps.after_flushCopy (h : Keeps s t) {d : Dest} {c : Nat} : Keeps s (flushCopy d t c) := by
  unfold flushCopy
  exact .after_if (Keeps.after_records h.after_modClip) h

theorem Keeps.after_flushAnswered (h : Keeps s t) {d : Dest} : Keeps s (flushAnswered d t) := by
  unfold flushAnswered
  split
  · refine Keeps.after_refresh (Keeps.after_closeJobs ?_)
    exact Keeps.after_foldl h.after_setDest (fun u _ => (Keeps.refl u).after_flushCopy) _
  · exact h

theorem Keeps.after_flushError (h : Keeps s t) {d : Dest} {timedOut : Bool} : Keeps s (flushError d timedOut t) := by
  unfold flushError
  split
  · exact .after_if h.after_noteError.after_failPort h.after_noteError.after_resend
  · exact h

theorem Keeps.after_endDestSegment (h : Keeps s t) {d : Dest} {g : Segment} {ok : Bool} : Keeps s (endDestSegment d g ok t) := by
  have hport : Keeps s (setDest t d { t.dest d with op := none }) := h.after_setDest
  exact (Keeps.after_if hport.after_segmentComplete hport.after_segmentFailed).after_refresh

theorem Keeps.after_readAnswered (h : Keeps s t) {d : Dest} {data : List Byte} : Keeps s (readAnswered d data t) := by
  unfold readAnswered
  split
  · have hfold {g : Segment} {count : Nat} := h.after_clearBridge (d := d) |>.after_foldSegment (g := g) (count := count) (data := data)
    exact .after_if h.after_clearBridge.after_endDestSegment
      (.after_if (Keeps.after_bridgeKick hfold.after_setDest) hfold.after_endDestSegment)
  · exact h

theorem Keeps.after_readError (h : Keeps s t) {d : Dest} {timedOut : Bool} : Keeps s (readError d timedOut t) := by
  unfold readError
  split
  · exact .after_if h.after_noteError.after_endDestSegment h.after_noteError.after_resend
  · exact h

theorem Keeps.after_endAbandonedBridge (h : Keeps s t) {d : Dest} : Keeps s (endAbandonedBridge d t) := by
  unfold endAbandonedBridge
  exact .after_if h.after_clearBridge.after_bridgeKick h

theorem Keeps.after_identifyTimedOut (h : Keeps s t) {d : Dest} : Keeps s (identifyTimedOut d t) := by
  unfold identifyTimedOut
  exact .after_if h.after_noteError.after_destState h

theorem Keeps.after_bridgeTimedOut (h : Keeps s t) {d : Dest} : Keeps s (bridgeTimedOut d t) := by
  unfold bridgeTimedOut
  split
  · refine .after_if h.after_endAbandonedBridge ?_
    split
    · exact h.after_identifyTimedOut
    · exact h.after_writeError
    · exact h.after_flushError
    · exact h.after_readError
  · exact h

end

end Sys2Proof.Machine
end

section
/-! SUPPORT. What every command keeps, concluded: the line, the resets, the monitors and the readers; the settings' ranges; and, command by
command, `exec` itself. -/

namespace Sys2Proof.Machine

-- One theorem at a time: checking them all at once needs more threads than the sandbox gives.
set_option Elab.async false

open Sys2Proof

section
variable {s t : State}

/-! ### The line (R3 to R8) -/

/-- A discard's cause sets its flag and clears none (R4, R5). -/
theorem mark_stick (f : LinkFlags) (cause : LinkCause) : f.Stick (f.mark cause) := by
  cases cause <;> exact ⟨fun h => by simp [LinkFlags.mark, h], fun h => by simp [LinkFlags.mark, h], fun h => by simp [LinkFlags.mark, h],
    fun h => by simp [LinkFlags.mark, h], fun h => by simp [LinkFlags.mark, h]⟩

theorem Keeps.after_discardFrame (h : Keeps s t) {flags : LinkFlags} {cause : LinkCause} (hf : t.linkFlags.Stick flags) :
    Keeps s (discardFrame flags cause t) :=
  Keeps.after_notify (Keeps.after_linkFlags (t := { t with rx := .hunting }) h.after_records (hf.trans (mark_stick _ _)))

/-- The inbound buffer takes at most four frames (R5). -/
theorem Keeps.after_offerFrame (h : Keeps s t) {f : Frame} : Keeps s (offerFrame f t) := by
  unfold offerFrame Config.inboundFrames
  split
  next hroom =>
    have hin : Keeps s { t with inbound := t.inbound ++ [f] } := h.after_queues (fun _ => by simp; omega) id id
    exact hin.after_records
  · exact h.after_discardFrame (.refl _)

theorem Keeps.after_takeField (h : Keeps s t) {bytes : List Byte} : Keeps s (takeField bytes t) := by
  have hdiscard {cause : LinkCause} : Keeps s (discardFrame t.linkFlags cause t) := h.after_discardFrame (.refl _)
  unfold takeField
  exact .after_if h.after_records (.after_if hdiscard (.after_if h.after_records (.after_if h.after_offerFrame hdiscard)))

theorem Keeps.after_receive (h : Keeps s t) {bits : Byte} {parityBit stopBit : Bool} : Keeps s (receive bits parityBit stopBit t) := by
  unfold receive
  split
  · exact .after_if h.after_records h
  · refine .after_if (h.after_discardFrame ?_) (.after_if (h.after_discardFrame (.refl _)) h.after_takeField)
    split
    · exact .refl _
    · exact mark_stick _ _

theorem Keeps.after_gapExpired (h : Keeps s t) : Keeps s (gapExpired t) := by
  unfold gapExpired
  split
  · exact h.after_discardFrame (.refl _)
  · exact h

/-- What holds of an idle request's state, and of every state in which a taken request is answered, holds after the request's command. -/
theorem serve_induction {α : Type} {kind : Byte} {fields : List Byte → Option α} {owner : α → State → Reply × State} {P : State → Prop}
    (idle : P s)
    (answered : ∀ f rest r u, s.Offers f rest → (u = s.taken f rest ∨ ∃ a, u = (owner a (s.taken f rest)).2) → P (sendFrame r u)) :
    P (serve kind fields owner s) := by
  by_cases hready : dispatchReady s = true
  · cases hin : s.inbound with
    | nil => rwa [serve_idle s _ _ _ (.inr (by simp [hin]))]
    | cons f rest =>
      by_cases hk : f.kind = kind
      · cases ha : fields f.payload with
        | none =>
          rw [serve_badLength ⟨hready, hin⟩ hk ha]
          exact answered f rest _ _ ⟨hready, hin⟩ (.inl rfl)
        | some a =>
          rw [serve_taken ⟨hready, hin⟩ hk ha]
          exact answered f rest _ _ ⟨hready, hin⟩ (.inr ⟨a, rfl⟩)
      · rwa [serve_idle s _ _ _ (.inr (by simp [hin, hk]))]
  · rwa [serve_idle s _ _ _ (.inl (by simpa using hready))]

/-- A request's command keeps what its owner keeps. -/
theorem Keeps.of_serve {α : Type} {kind : Byte} {fields : List Byte → Option α} {owner : α → State → Reply × State}
    (h : KeepingOwner owner) : Keeps s (serve kind fields owner s) := by
  refine serve_induction (.refl s) fun f rest r u ho hu => Keeps.after_sendFrame ?_
  rcases hu with rfl | ⟨a, rfl⟩
  · exact .of_offers ho
  · exact (Keeps.of_offers ho).trans (h a _)

theorem refuseUnknown_keeps : Keeps s (refuseUnknown s) := by
  unfold refuseUnknown
  split
  next hready =>
    split
    next f rest hin => exact .after_if (.refl s) (Keeps.of_offers ⟨hready, hin⟩).after_sendFrame
    · exact .refl s
  · exact .refl s

/-! ### The settings (R11) -/

/-- Every setting lies in its key's range (R11). -/
def Settings.InRange (c : Settings) : Prop :=
  ∀ key : Fin 9, Config.keyLow (key.val + 1) ≤ c.value (key.val + 1) ∧ c.value (key.val + 1) ≤ Config.keyHigh (key.val + 1)

/-- A value stored under a key is read back under that key alone. -/
theorem value_put (c : Settings) {key key' : Nat} (v : Nat) (h : 1 ≤ key ∧ key ≤ 9) (h' : 1 ≤ key' ∧ key' ≤ 9) :
    (c.put key v).value key' = if key = key' then v else c.value key' := by
  obtain ⟨hlow, hhigh⟩ := h
  obtain ⟨hlow', hhigh'⟩ := h'
  interval_cases key <;> interval_cases key' <;> rfl

/-- A key's range is not empty (R11). -/
theorem keyLow_le_keyHigh (key : Nat) : Config.keyLow key ≤ Config.keyHigh key := by
  unfold Config.keyLow Config.keyHigh
  split <;> omega

/-- A fitted value lies in its key's range (R11). -/
theorem fitValue_range (key v : Nat) : Config.keyLow key ≤ fitValue key v ∧ fitValue key v ≤ Config.keyHigh key := by
  have h := keyLow_le_keyHigh key
  unfold fitValue
  omega

theorem putAll_inRange {c : Settings} {pairs : List (Nat × Nat)} (h : c.InRange) (hkeys : ∀ x ∈ pairs, 1 ≤ x.1 ∧ x.1 ≤ 9) :
    (c.putAll pairs).InRange := by
  unfold Settings.putAll
  induction pairs generalizing c with
  | nil => exact h
  | cons x pairs ih =>
    refine ih (c := c.put x.1 (fitValue x.1 x.2)) (fun key => ?_) fun y hy => hkeys y (List.mem_cons_of_mem _ hy)
    rw [value_put c _ (hkeys x List.mem_cons_self) ⟨by omega, by omega⟩]
    split
    next he => exact he ▸ fitValue_range x.1 x.2
    · exact h key

/-- CONFIG_SET keeps the bounds and the flags; the settings it changes stay in their ranges (R11). -/
theorem configSet_keeps (pairs : List (Nat × Nat)) (s : State) :
    KeepsBounds s (configSet pairs s).2 ∧ KeepsFlags s (configSet pairs s).2 := by
  unfold configSet
  split
  · exact ⟨⟨id, id, id⟩, .refl s⟩
  next hkeys =>
    have hpairs : ∀ x ∈ pairs, 1 ≤ x.1 ∧ x.1 ≤ 9 := fun x hx => by
      have hin : ¬(x.1 < 1 ∨ 9 < x.1) := fun hout => hkeys (List.any_eq_true.mpr ⟨x, hx, decide_eq_true hout⟩)
      omega
    exact ⟨⟨id, fun ⟨hcfg, hrest⟩ => ⟨putAll_inRange hcfg hpairs, hrest⟩, id⟩, .refl _, fun _ => id, fun _ => .refl _, fun _ => id⟩

/-- FLAGS_CLEAR keeps the bounds and the settings (R12). -/
theorem flagsClear_keeps (s : State) : KeepsBounds s (clearFlags s) ∧ (clearFlags s).cfg = s.cfg := by
  refine ⟨⟨id, fun ⟨hcfg, hcount, hlow, hhigh, hexp, hmon, hwrite⟩ => ⟨hcfg, hcount, hlow, hhigh, hexp, fun d => ?_, fun d => ?_⟩, id⟩, rfl⟩
  · simpa [clearFlags, State.monitor] using hmon d
  · simpa [clearFlags, State.dest] using hwrite d

/-! ### The resets (R1, R13) -/

theorem resetHeldLow_keeps : Keeps s { s with resetLow := true, rx := .hunting, sending := none } :=
  ⟨⟨id, id, fun _ => .inl rfl⟩, ⟨.refl _, fun _ => id, fun _ => .refl _, fun _ => id⟩, rfl⟩

theorem defaultSettings_inRange : defaultSettings.InRange := by
  unfold Settings.InRange
  decide

/-- A hard reset meets every bound, whatever was before. -/
theorem hardReset_bounds (r : Bool) : KeepsBounds s (hardResetState r s) := by
  refine ⟨fun _ => ?_, fun _ => ?_, fun _ => .inr (.inr ⟨rfl, rfl⟩)⟩
  · exact ⟨Nat.zero_le _, Nat.zero_le _, Nat.zero_le _, List.nodup_nil, List.nodup_nil, fun _ h => nomatch h⟩
  · refine ⟨defaultSettings_inRange, Nat.succ_pos _, Nat.succ_pos _, (by decide : 20 ≤ 255), Nat.zero_le _, fun d => ?_, fun d => ?_⟩
    · simp [hardResetState, State.reset, State.monitor, Monitor.reset]
    · simp only [hardResetState, State.dest, Vector.getElem_map, hardDest]
      split <;> simp [DestPort.reset]

/-- A monitor's holdoff lies below the period to which it is lowered; its level and its tripped flag stay (R154). -/
theorem lowered_holdoff_lt (m : Monitor) {period : Nat} (h : 1 ≤ period) : (m.lowered period).holdoff < period := by
  unfold Monitor.lowered
  split
  · simp only; omega
  · omega

theorem lowered_level (m : Monitor) (period : Nat) : (m.lowered period).level = m.level := by
  unfold Monitor.lowered
  split <;> rfl

theorem lowered_tripped (m : Monitor) (period : Nat) : (m.lowered period).tripped = m.tripped := by
  unfold Monitor.lowered
  split <;> rfl

/-- The state of a soft reset before its IDENTIFYs are sent and the lamps follow. -/
def softBase (s : State) : State :=
  { State.reset with
    rate := s.rate, cfg := s.cfg, ports := s.ports.map (softPort s.cfg)
    surveyQueue := allPorts.filter (fun p => decide ((s.ports.map (softPort s.cfg))[p.val].state = .present))
    known := s.known, dests := s.dests.map softDest, windowPeriod := s.cfg.paceWindowMs, windowStart := s.now
    monitors := s.monitors.map (softMonitor s.cfg), now := s.now, pending := s.pending }

theorem softResetState_eq (s : State) : softResetState s = refresh (allDests.foldl (fun t d => bridgeKick d t) (softBase s)) := rfl

@[simp] theorem softBase_port (s : State) (p : Port) : (softBase s).port p = softPort s.cfg (s.port p) := by simp [softBase, State.port]
@[simp] theorem softBase_dest (s : State) (d : Dest) : (softBase s).dest d = softDest (s.dest d) := by simp [softBase, State.dest]
@[simp] theorem softBase_monitor (s : State) (d : Dest) : (softBase s).monitor d = softMonitor s.cfg (s.monitor d) := by
  simp [softBase, State.monitor]

theorem softBase_bounds : KeepsBounds s (softBase s) := by
  refine ⟨fun ⟨_, _, hlen, hnodup, _, _⟩ => ?_, fun ⟨hcfg, _, _, _, _, hmon, _⟩ => ?_, fun _ => .inr (.inr ⟨rfl, rfl⟩)⟩
  · exact ⟨Nat.zero_le _, Nat.zero_le _, hlen, hnodup, List.Nodup.filter _ (by decide), fun _ h => nomatch h⟩
  · have hpace : 1 ≤ s.cfg.paceWindowMs ∧ s.cfg.paceWindowMs ≤ 255 := hcfg 4
    refine ⟨hcfg, Nat.succ_pos _, hpace.1, hpace.2, Nat.zero_le _, fun d => ?_, fun d => ?_⟩
    · rw [softBase_monitor]
      exact ⟨(lowered_level _ _).le.trans (hmon d).1, lowered_holdoff_lt _ hpace.1⟩
    · rw [softBase_dest]
      exact Nat.zero_le _

/-- A soft reset keeps the bounds and the settings; it clears the flags (R14). -/
theorem softReset_keeps : KeepsBounds s (softResetState s) ∧ (softResetState s).cfg = s.cfg := by
  have h := ((Keeps.refl (softBase s)).after_foldl (fun u _ => (Keeps.refl u).after_bridgeKick) allDests (g := fun t d => bridgeKick d t)).after_refresh
  exact ⟨softBase_bounds.trans h.bounds, h.cfg⟩

/-- At the end of a frame that is no DEVICE_RESET reply the arbiter chooses again (R8). -/
theorem frameEnds_keeps (h : resetReplyOnLine s = false) : Keeps s (frameEnds s) := by
  unfold frameEnds
  split
  · rw [h, if_neg Bool.false_ne_true]
    exact (Keeps.refl s).after_line id
  · exact .refl s

/-! ### Monitors, the Pace Timer and the Progress Reporter (spec/09, spec/10) -/

/-- A stored holdoff lies below the period of the window in progress (R155). -/
theorem fitHoldoff_lt (h : s.InRange) (n : Nat) : fitHoldoff s n < s.windowPeriod := by
  obtain ⟨hcfg, _, hlow, _⟩ := h
  have hpace : 1 ≤ s.cfg.paceWindowMs := (hcfg 4).1
  simp only [fitHoldoff]
  split <;> omega

theorem monitorSet_keeps : KeepingOwner monitorSet := by
  intro a s
  unfold monitorSet
  split
  · exact .refl s
  · refine .of_if (.refl s) (Keeps.after_refresh (Keeps.after_dropHolds ?_))
    exact (Keeps.refl s).after_setMonitor_range (fun hin => ⟨Nat.min_le_right _ 7, fitHoldoff_lt hin _⟩) id

theorem holdResume_keeps : KeepingOwner holdResume := by
  intro n s
  unfold holdResume
  split
  · exact .refl s
  · exact (Keeps.refl s).after_dropHolds.after_refresh

/-- The next window has the stored period, and every holdoff lies below it (R153, R154). -/
theorem Keeps.after_nextWindow (h : Keeps s t) : Keeps s (nextWindow t) := by
  have hmonitor (d : Dest) : (nextWindow t).monitor d = (t.monitor d).lowered t.cfg.paceWindowMs := by simp [nextWindow, State.monitor]
  refine h.trans ⟨⟨id, fun ⟨hcfg, _, _, _, hexp, hmon, hwrite⟩ => ?_, id⟩, ⟨.refl _, fun _ => id, fun _ => .refl _, fun d => ?_⟩, rfl⟩
  · have hpace : 1 ≤ t.cfg.paceWindowMs ∧ t.cfg.paceWindowMs ≤ 255 := hcfg 4
    refine ⟨hcfg, Nat.mod_lt _ (by decide), hpace.1, hpace.2, hexp, fun d => ?_, hwrite⟩
    rw [hmonitor]
    exact ⟨(lowered_level _ _).le.trans (hmon d).1, lowered_holdoff_lt _ hpace.1⟩
  · rw [hmonitor, lowered_tripped]
    exact id

theorem Keeps.after_expiryCount (h : Keeps s t) {n : Nat} (hn : t.InRange → n ≤ 255) : Keeps s { t with expiryCount := n } :=
  h.trans ⟨⟨id, fun hin => let ⟨hcfg, hcount, hlow, hhigh, _, hrest⟩ := hin; ⟨hcfg, hcount, hlow, hhigh, hn hin, hrest⟩, id⟩,
    ⟨.refl _, fun _ => id, fun _ => .refl _, fun _ => id⟩, rfl⟩

theorem Keeps.after_offerReport (h : Keeps s t) : Keeps s (offerReport t) := by
  unfold offerReport
  exact .after_if h.after_records.after_notify h.after_notify

/-- The count of expiries stays below the report interval (R168). -/
theorem Keeps.after_reporterExpires (h : Keeps s t) : Keeps s (reporterExpires t) := by
  have hzero : Keeps s { t with expiryCount := 0 } := h.after_expiryCount fun _ => Nat.zero_le _
  unfold reporterExpires
  split
  · exact hzero
  · split
    · exact hzero.after_offerReport
    next hnot =>
      refine h.after_expiryCount fun ⟨hcfg, _⟩ => ?_
      have hinterval : t.cfg.reportInterval ≤ 255 := (hcfg 5).2
      omega

theorem Keeps.after_windowExpires (h : Keeps s t) {before : DestSet} : Keeps s (windowExpires before t) := by
  refine Keeps.after_refresh (Keeps.after_records (Keeps.after_reporterExpires ?_))
  exact Keeps.after_records h.after_nextWindow

/-! ### The slot allocator, chunk reads and segments (spec/04) -/

theorem Keeps.after_startChunk (h : Keeps s t) {n : Nat} {p : Port} {i : Nat} {j : Job} {nc : NextChunk} {k : Clip} :
    Keeps s (startChunk n p i j nc k t) := by
  refine Keeps.after_refresh (Keeps.after_cardKick (Keeps.after_records ?_))
  exact h.after_setSlot.after_setClip.after_setJob.after_setReader

theorem Keeps.after_grant (h : Keeps s t) : Keeps s (grant t) := by
  unfold grant
  split
  · split
    · split
      · split
        · split
          · exact Keeps.after_startChunk h.after_records
          · exact h
        · exact h
      · exact h
    · exact h
  · exact h

theorem Keeps.after_dropChunk (h : Keeps s t) {p : Port} {c : ChunkRead} : Keeps s (dropChunk p c t) := h.after_setReader.after_freeSlot

theorem Keeps.after_endCancelled (h : Keeps s t) {p : Port} {c : ChunkRead} : Keeps s (endCancelled p c t) :=
  h.after_dropChunk.after_cardKick.after_closeJobs.after_refresh

theorem Keeps.after_placeSlot (h : Keeps s t) {n : Nat} {set : DestSet} : Keeps s (placeSlot n set t) := by
  unfold placeSlot
  exact .after_if h.after_freeSlot (h.after_modSlot.after_foldl (fun u _ => (Keeps.refl u).after_setDest) _)

theorem Keeps.after_advance (h : Keeps s t) {c : ChunkRead} : Keeps s (advance c t) := by
  unfold advance
  split
  · exact .after_if (.after_if h.after_setClip.after_leaveRecopyList h.after_setClip) h.after_setClip
  · exact h

theorem Keeps.after_stage (h : Keeps s t) {p : Port} {c : ChunkRead} : Keeps s (stage p c t) := by
  unfold stage
  split
  next k j _ _ =>
    have hlost := h.after_setReader (p := p) (x := { t.reader p with chunk := none, retries := 0 }) |>.after_foldl
      (fun u _ => (Keeps.refl u).after_failCopy) (lostTargets t c k j) (g := fun u d => failCopy c.clip d .failed .destLost u)
    exact (Keeps.after_if hlost.after_freeSlot hlost.after_placeSlot.after_advance).after_closeSeen.after_refresh
  · exact h

theorem Keeps.after_chunkProgress (h : Keeps s t) {p : Port} {c : ChunkRead} {count : Nat} {data : List Byte} :
    Keeps s (chunkProgress p c count data t) := by
  unfold chunkProgress
  exact .after_if (Keeps.after_cardKick (Keeps.after_setReader h.after_records)) (Keeps.after_stage h.after_records)

theorem Keeps.after_chunkAnswered (h : Keeps s t) {p : Port} {data : List Byte} {waitMs : Nat} : Keeps s (chunkAnswered p data waitMs t) := by
  unfold chunkAnswered
  split
  · have hclear : Keeps s (clearCard p { t with now := t.now + waitMs }) := Keeps.after_clearCard h.after_records
    exact .after_if hclear.after_setReader.after_endCancelled hclear.after_setReader.after_chunkProgress
  · exact h

theorem Keeps.after_failPending (h : Keeps s t) {c : Nat} {set : DestSet} : Keeps s (failPending c set t) :=
  h.after_foldl (fun u _ => .after_if (Keeps.refl u).after_failCopy (.refl u)) _

theorem Keeps.after_tellReadError (h : Keeps s t) {c : ChunkRead} : Keeps s (tellReadError c t) := by
  unfold tellReadError
  split
  · exact h.after_notify
  · exact h

theorem Keeps.after_failChunk (h : Keeps s t) {p : Port} {c : ChunkRead} : Keeps s (failChunk p c t) := by
  have hdrop := h.after_dropChunk (p := p) (c := c) |>.after_tellReadError (c := c)
  exact (Keeps.after_if hdrop.after_failPending.after_modClip.after_leaveRecopyList
    hdrop.after_modClip.after_failPending).after_cardKick.after_closeJobs.after_refresh

theorem Keeps.after_chunkError (h : Keeps s t) {p : Port} {c : ChunkRead} : Keeps s (chunkError p c t) := by
  unfold chunkError
  exact .after_if h.after_endCancelled (.after_if h.after_setReader.after_cardKick h.after_failChunk)

theorem Keeps.after_arbitrate (h : Keeps s t) {p : Port} {first : Bool} : Keeps s (arbitrate p first t) := by
  rcases arbitrate_cases t p first with he | ⟨e, rest, _, _, _, _, he⟩ <;> rw [he]
  · exact h
  · exact (Keeps.after_setReader h.after_setEngine).after_cardKick.after_refresh

theorem Keeps.after_endSegment (h : Keeps s t) {p : Port} {g : Segment} {ok : Bool} : Keeps s (endSegment p g ok t) :=
  (Keeps.after_if h.after_setReader.after_cardKick.after_segmentComplete h.after_setReader.after_cardKick.after_segmentFailed).after_refresh

theorem Keeps.after_segmentAnswered (h : Keeps s t) {p : Port} {data : List Byte} : Keeps s (segmentAnswered p data t) := by
  unfold segmentAnswered
  split
  · exact .after_if h.after_clearCard.after_endSegment (.after_if h.after_clearCard.after_foldSegment.after_setReader.after_cardKick
      h.after_clearCard.after_foldSegment.after_endSegment)
  · exact h

theorem Keeps.after_segmentError (h : Keeps s t) {p : Port} {g : Segment} : Keeps s (segmentError p g t) := by
  unfold segmentError
  exact .after_if h.after_endSegment (.after_if h.after_setReader.after_cardKick h.after_endSegment)

theorem Keeps.after_deliverError (h : Keeps s t) {p : Port} {owner : CardOwner} : Keeps s (deliverError p owner t) := by
  unfold deliverError
  split
  · exact h.after_surveyError
  · split
    · exact h.after_chunkError
    · exact h
  · split
    · exact h.after_segmentError
    · exact h
  · exact h

/-- A confirmed ERROR sets the read-error flag (R18). -/
theorem Keeps.after_confirmError (h : Keeps s t) {p : Port} : Keeps s (confirmError p t) := by
  unfold confirmError
  split
  · exact .after_if (h.after_setPort fun _ => rfl).after_deliverError h
  · exact h

end

/-! ### Command by command -/

/-- The command completes, and its state after is related to its state before. -/
def Completes (R : State → State → Prop) (i : Instr) (s : State) : Prop := ∃ t, exec i s = .next t ∧ R s t

theorem awake_keeps {f : State → State} {s : State} (h : Keeps s (f s)) : Keeps s (awake f s) := .after_if (.refl s) h

/-- Every command but the resets, CONFIG_SET and FLAGS_CLEAR keeps the bounds, the sticky flags and the settings. -/
theorem exec_keeps (i : Instr) (s : State) (hhard : ∀ r, i ≠ .hardReset r) (hsoft : resetReplyOnLine s = true → i ≠ .softReset ∧ i ≠ .frameSendEnd)
    (hconfig : i ≠ .configSet) (hclear : i ≠ .flagsClear) : Completes Keeps i s := by
  have k : Keeps s s := .refl s
  cases i with
  | hardReset r => exact absurd rfl (hhard r)
  | configSet => exact absurd rfl hconfig
  | flagsClear => exact absurd rfl hclear
  | softReset =>
    have hline : ¬ resetReplyOnLine s = true := fun h => (hsoft h).1 rfl
    exact ⟨s, by simp [exec, execSoftReset, hline], k⟩
  | frameSendEnd => exact ⟨_, rfl, awake_keeps (frameEnds_keeps (by simpa using fun h => (hsoft h).2 rfl))⟩
  | rxByte => exact ⟨_, rfl, awake_keeps k.after_receive⟩
  | interbyteGapTimeout => exact ⟨_, rfl, awake_keeps k.after_gapExpired⟩
  | unknownRequest => exact ⟨_, rfl, refuseUnknown_keeps⟩
  | identify => exact ⟨_, rfl, .of_serve identify_keeps⟩
  | statusGet => exact ⟨_, rfl, .of_serve statusGet_keeps⟩
  | deviceReset => exact ⟨_, rfl, .of_serve deviceReset_keeps⟩
  | cardSurvey => exact ⟨_, rfl, .of_serve cardSurvey_keeps⟩
  | jobOpen => exact ⟨_, rfl, .of_serve jobOpen_keeps⟩
  | jobFinal => exact ⟨_, rfl, .of_serve jobFinal_keeps⟩
  | jobPause => exact ⟨_, rfl, .of_serve jobPause_keeps⟩
  | jobResume => exact ⟨_, rfl, .of_serve jobResume_keeps⟩
  | jobAbort => exact ⟨_, rfl, .of_serve jobAbort_keeps⟩
  | jobQuery => exact ⟨_, rfl, .of_serve jobQuery_keeps⟩
  | cardRelease => exact ⟨_, rfl, .of_serve cardRelease_keeps⟩
  | clipBegin => exact ⟨_, rfl, .of_serve clipBegin_keeps⟩
  | extentsAdd => exact ⟨_, rfl, .of_serve extentsAdd_keeps⟩
  | clipCommit => exact ⟨_, rfl, .of_serve clipCommit_keeps⟩
  | clipCancel => exact ⟨_, rfl, .of_serve clipCancel_keeps⟩
  | clipQuery => exact ⟨_, rfl, .of_serve clipQuery_keeps⟩
  | clipRecopy => exact ⟨_, rfl, .of_serve clipRecopy_keeps⟩
  | clipReverify => exact ⟨_, rfl, .of_serve clipReverify_keeps⟩
  | destAttach => exact ⟨_, rfl, .of_serve destAttach_keeps⟩
  | destDetach => exact ⟨_, rfl, .of_serve destDetach_keeps⟩
  | destQuery => exact ⟨_, rfl, .of_serve destQuery_keeps⟩
  | monitorSet => exact ⟨_, rfl, .of_serve monitorSet_keeps⟩
  | holdResume => exact ⟨_, rfl, .of_serve holdResume_keeps⟩
  | knownListQuery => exact ⟨_, rfl, .of_serve fun _ u => .refl u⟩
  | knownListClear => exact ⟨_, rfl, .of_serve fun _ u => (Keeps.refl u).after_known fun _ => by simp⟩
  | presenceAppear p => exact ⟨_, rfl, .after_if k.after_setPort (.after_if k (k.after_presenceAppear))⟩
  | presenceDrop p => exact ⟨_, rfl, .after_if k.after_setPort (.after_if k.after_presenceDrop k)⟩
  | settleTimerExpiry p => exact ⟨_, rfl, awake_keeps k.after_settled⟩
  | cardRemoval p => exact ⟨_, rfl, awake_keeps k.after_absenceExpired⟩
  | adapterErrorAnswer p => exact ⟨_, rfl, awake_keeps k.after_holdError⟩
  | cardRequestTimeout p => exact ⟨_, rfl, awake_keeps k.after_cardTimedOut⟩
  | errorConfirm p => exact ⟨_, rfl, awake_keeps k.after_confirmError⟩
  | cardAbandonedAnswer p => exact ⟨_, rfl, awake_keeps k.after_endAbandoned⟩
  | lampBlinkToggle p => exact ⟨_, rfl, awake_keeps k.after_blinkToggle⟩
  | surveyStart => exact ⟨_, rfl, awake_keeps k.after_startSurvey⟩
  | surveyIdentifyAnswer => exact ⟨_, rfl, awake_keeps k.after_surveyIdentified⟩
  | surveyReadDone => exact ⟨_, rfl, awake_keeps k.after_surveyRead⟩
  | slotGrant => exact ⟨_, rfl, awake_keeps k.after_grant⟩
  | chunkRequestDone => exact ⟨_, rfl, awake_keeps k.after_chunkAnswered⟩
  | sourceSegmentStart => exact ⟨_, rfl, awake_keeps k.after_arbitrate⟩
  | sourceSegmentRequestDone => exact ⟨_, rfl, awake_keeps k.after_segmentAnswered⟩
  | destLinkUp d => exact ⟨_, rfl, .after_if k.after_setDest k.after_linkComesUp⟩
  | destLinkDown d => exact ⟨_, rfl, .after_if k.after_setDest k.after_linkGoesDown⟩
  | destIdentifyAnswer => exact ⟨_, rfl, awake_keeps k.after_identifyAnswered⟩
  | destRequestTimeout => exact ⟨_, rfl, awake_keeps k.after_bridgeTimedOut⟩
  | bridgeAbandonedAnswer => exact ⟨_, rfl, awake_keeps k.after_endAbandonedBridge⟩
  | destArbiterDecide => exact ⟨_, rfl, awake_keeps k.after_decideOp⟩
  | destWriteOk => exact ⟨_, rfl, awake_keeps k.after_writeAnswered⟩
  | destWriteError => exact ⟨_, rfl, awake_keeps k.after_writeError⟩
  | destFlushOk => exact ⟨_, rfl, awake_keeps k.after_flushAnswered⟩
  | destFlushError => exact ⟨_, rfl, awake_keeps k.after_flushError⟩
  | destReadOk => exact ⟨_, rfl, awake_keeps k.after_readAnswered⟩
  | destReadError => exact ⟨_, rfl, awake_keeps k.after_readError⟩
  | engineTakeTask => exact ⟨_, rfl, awake_keeps k.after_takeNext⟩
  | paceTimerExpiry => exact ⟨_, rfl, awake_keeps k.after_windowExpires⟩
  | resetHeldLow => exact ⟨_, rfl, resetHeldLow_keeps⟩

/-- CONFIG_SET keeps the bounds and the flags. -/
theorem exec_configSet_keeps (s : State) : Completes (fun s t => KeepsBounds s t ∧ KeepsFlags s t) .configSet s := by
  refine ⟨_, rfl, serve_induction (P := fun t => KeepsBounds s t ∧ KeepsFlags s t) ⟨(Keeps.refl s).bounds, .refl s⟩ fun f rest r u ho hu => ?_⟩
  have hsend : Keeps u (sendFrame r u) := (Keeps.refl u).after_sendFrame
  have htaken := Keeps.of_offers ho
  rcases hu with rfl | ⟨a, rfl⟩
  · exact ⟨(htaken.trans hsend).bounds, (htaken.trans hsend).flags⟩
  · obtain ⟨hb, hf⟩ := configSet_keeps a (s.taken f rest)
    exact ⟨htaken.bounds.trans (hb.trans hsend.bounds), htaken.flags.trans (hf.trans hsend.flags)⟩

/-- FLAGS_CLEAR keeps the bounds and the settings. -/
theorem exec_flagsClear_keeps (s : State) : Completes (fun s t => KeepsBounds s t ∧ t.cfg = s.cfg) .flagsClear s := by
  refine ⟨_, rfl, serve_induction (P := fun t => KeepsBounds s t ∧ t.cfg = s.cfg) ⟨(Keeps.refl s).bounds, rfl⟩ fun f rest r u ho hu => ?_⟩
  have hsend : Keeps u (sendFrame r u) := (Keeps.refl u).after_sendFrame
  have htaken := Keeps.of_offers ho
  rcases hu with rfl | ⟨a, rfl⟩
  · exact ⟨(htaken.trans hsend).bounds, (htaken.trans hsend).cfg⟩
  · obtain ⟨hb, hcfg⟩ := flagsClear_keeps (s.taken f rest)
    exact ⟨htaken.bounds.trans (hb.trans hsend.bounds), hsend.cfg.trans (hcfg.trans htaken.cfg)⟩

/-- The end of the DEVICE_RESET reply, by either command, is the soft reset, but for FRAME_SEND_END while RESET is held low (R1, R13). -/
theorem exec_softReset {i : Instr} {s : State} (hi : i = .softReset ∨ i = .frameSendEnd ∧ s.resetLow = false)
    (h : resetReplyOnLine s = true) : exec i s = .next (softResetState s) := by
  rcases hi with rfl | ⟨rfl, hlow⟩
  · simp [exec, execSoftReset, h]
  · have hsome : s.sending ≠ none := fun hn => by simp [resetReplyOnLine, hn] at h
    obtain ⟨f, hf⟩ := Option.ne_none_iff_exists'.mp hsome
    simp [exec, execFrameSendEnd, awake, hlow, frameEnds, hf, h]

/-- But for HARD_RESET, CONFIG_SET and FLAGS_CLEAR, a command is the soft reset or keeps everything; FRAME_SEND_END while RESET is held low
changes nothing (R1). -/
theorem exec_softReset_or_keeps (i : Instr) (s : State) (hhard : ∀ r, i ≠ .hardReset r) (hconfig : i ≠ .configSet) (hclear : i ≠ .flagsClear) :
    exec i s = .next (softResetState s) ∨ Completes Keeps i s := by
  by_cases hend : resetReplyOnLine s = true ∧ (i = .softReset ∨ i = .frameSendEnd ∧ s.resetLow = false)
  · exact .inl (exec_softReset hend.2 hend.1)
  · by_cases hlow : i = .frameSendEnd ∧ s.resetLow = true
    · obtain ⟨rfl, hlow⟩ := hlow
      exact .inr ⟨s, by simp [exec, execFrameSendEnd, awake, hlow], .refl s⟩
    · refine .inr (exec_keeps i s hhard (fun hline => ⟨fun hi => hend ⟨hline, .inl hi⟩, fun hi => ?_⟩) hconfig hclear)
      cases hreset : s.resetLow with
      | true => exact hlow ⟨hi, hreset⟩
      | false => exact hend ⟨hline, .inr ⟨hi, hreset⟩⟩

/-- Every command keeps the bounds. -/
theorem exec_keepsBounds (i : Instr) (s : State) : Completes KeepsBounds i s := by
  by_cases hhard : ∃ r, i = .hardReset r
  · obtain ⟨r, rfl⟩ := hhard
    exact ⟨_, rfl, hardReset_bounds r⟩
  by_cases hconfig : i = .configSet
  · subst hconfig
    exact let ⟨t, he, hb, _⟩ := exec_configSet_keeps s; ⟨t, he, hb⟩
  by_cases hclear : i = .flagsClear
  · subst hclear
    exact let ⟨t, he, hb, _⟩ := exec_flagsClear_keeps s; ⟨t, he, hb⟩
  rcases exec_softReset_or_keeps i s (not_exists.mp hhard) hconfig hclear with he | ⟨t, he, hk⟩
  · exact ⟨_, he, softReset_keeps.1⟩
  · exact ⟨t, he, hk.bounds⟩

/-! ### The obligations -/

/-- What a command that completes is related to is its state after. -/
theorem Completes.of_next {R : State → State → Prop} {i : Instr} {s t : State} (h : Completes R i s) (he : exec i s = .next t) : R s t := by
  obtain ⟨u, hu, hR⟩ := h
  obtain rfl : u = t := by simpa [hu] using he
  exact hR

/-- Settles O53: `KeepsBounds` is a rule of every shared operation, and so of every command. -/
theorem everyCommandKeepsBounds : Obligations.EveryCommandKeepsBounds := by
  intro i s t he
  obtain ⟨hcap, hrange, hline⟩ := (exec_keepsBounds i s).of_next he
  exact ⟨hcap, hrange, hline⟩

/-- The settings change only by CONFIG_SET and at a hard reset. -/
theorem exec_cfg (i : Instr) (s : State) (hhard : ∀ r, i ≠ .hardReset r) (hconfig : i ≠ .configSet) :
    Completes (fun s t => t.cfg = s.cfg) i s := by
  by_cases hclear : i = .flagsClear
  · subst hclear
    exact let ⟨t, he, _, hcfg⟩ := exec_flagsClear_keeps s; ⟨t, he, hcfg⟩
  · rcases exec_softReset_or_keeps i s hhard hconfig hclear with he | ⟨t, he, hk⟩
    · exact ⟨_, he, softReset_keeps.2⟩
    · exact ⟨t, he, hk.cfg⟩

/-- Settles O58: outside the resets and FLAGS_CLEAR every command is one of `exec_keeps`, or CONFIG_SET, which touches no flag. -/
theorem flagsStickAndSettingsStay : Obligations.FlagsStickAndSettingsStay := by
  intro i s t he hhard
  refine ⟨fun hconfig => (exec_cfg i s hhard hconfig).of_next he, fun hclear hreset => ?_⟩
  have hsoft : resetReplyOnLine s = true → i ≠ .softReset ∧ i ≠ .frameSendEnd := fun h => hreset (by simp_all [resetReplyOnLine])
  have hflags : KeepsFlags s t := by
    by_cases hconfig : i = .configSet
    · subst hconfig
      exact ((exec_configSet_keeps s).of_next he).2
    · exact ((exec_keeps i s hhard hsoft hconfig hclear).of_next he).flags
  obtain ⟨⟨hparity, hframing, hcheck, hgap, hoverrun⟩, hread, hdrive, htripped⟩ := hflags
  exact ⟨⟨hparity, hframing, hcheck, hgap, hoverrun⟩, hread,
    fun d => ⟨(hdrive d).writeErr, (hdrive d).readErr, (hdrive d).timeout, htripped d⟩⟩

end Sys2Proof.Machine
end

section
/-! SUPPORT. Dispatch and the general requests (R6 to R13): what every request's command is, which payloads its reader refuses, how its owner
answers; and the replies of IDENTIFY, STATUS_GET, CONFIG_SET, FLAGS_CLEAR and DEVICE_RESET. -/

namespace Sys2Proof.Machine

-- One theorem at a time: checking them all at once needs more threads than the sandbox gives.
set_option Elab.async false

open Sys2Proof

/-! ### Payloads of a wrong length (R6) -/

theorem readNone_eq_none {payload : List Byte} (h : payload.length ≠ 0) : readNone payload = none := by
  unfold readNone
  split
  · simp at h
  · rfl

theorem readOne_eq_none {payload : List Byte} (h : payload.length ≠ 1) : readOne payload = none := by
  unfold readOne
  split
  · simp at h
  · rfl

theorem readHandle_eq_none {payload : List Byte} (h : payload.length ≠ 2) : readHandle payload = none := by
  unfold readHandle
  split
  · simp at h
  · rfl

theorem readDetach_eq_none {payload : List Byte} (h : payload.length ≠ 2) : readDetach payload = none := by
  unfold readDetach
  split
  · simp at h
  · rfl

theorem readHandleAndCode_eq_none {payload : List Byte} (h : payload.length ≠ 3) : readHandleAndCode payload = none := by
  unfold readHandleAndCode
  split
  · simp at h
  · rfl

theorem readJobOpen_eq_none {payload : List Byte} (h : payload.length ≠ 6) : readJobOpen payload = none := by
  unfold readJobOpen
  split
  · simp at h
  · rfl

theorem readMonitorSet_eq_none {payload : List Byte} (h : payload.length ≠ 5) : readMonitorSet payload = none := by
  unfold readMonitorSet
  split
  · simp at h
  · rfl

theorem readConfig_eq_none {payload : List Byte} (h : lengthFits 0x03 payload = false) : readConfig payload = none := by
  have hfit := of_decide_eq_false h
  unfold readConfig
  split
  · refine if_neg fun ⟨hlow, hhigh, hlen⟩ => hfit ⟨by simp, hlow, hhigh, ?_⟩
    simp only [List.length_cons, List.getD_cons_zero]
    omega
  · rfl

theorem readClipBegin_eq_none {payload : List Byte} (h : lengthFits 0x18 payload = false) : readClipBegin payload = none := by
  have hfit := of_decide_eq_false h
  unfold readClipBegin
  split
  · refine if_neg fun ⟨hhigh, hlen⟩ => hfit ⟨by simp, hhigh, ?_⟩
    simp only [List.length_cons, List.getD_cons_zero, List.getD_cons_succ]
    omega
  · rfl

theorem readExtentsAdd_eq_none {payload : List Byte} (h : lengthFits 0x19 payload = false) : readExtentsAdd payload = none := by
  have hfit := of_decide_eq_false h
  unfold readExtentsAdd
  split
  · refine if_neg fun ⟨hlow, hhigh, hlen⟩ => hfit ⟨by simp, hlow, hhigh, ?_⟩
    simp only [List.length_cons, List.getD_cons_zero, List.getD_cons_succ]
    omega
  · rfl

/-! ### The owners' answers (R7) -/

/-- An answer to a request in state `s`: a refusal carries its status alone and leaves `s`; OK and CLAMPED may carry fields and a new state. -/
inductive AnswerIn (s : State) : Reply × State → Prop
  | refused (st : Status) : AnswerIn s (statusOnly st, s)
  | ok (fields : List Byte) (t : State) : AnswerIn s (⟨.ok, fields⟩, t)
  | clamped (fields : List Byte) (t : State) : AnswerIn s (⟨.clamped, fields⟩, t)

/-- Every answer of the owner is one of R7's. -/
def AnsweringOwner {α : Type} (owner : α → State → Reply × State) : Prop := ∀ a s, AnswerIn s (owner a s)

namespace AnswerIn

variable {s : State}

/-- The status OK alone, with a new state. -/
theorem taken (t : State) : AnswerIn s (statusOnly .ok, t) := .ok [] t

theorem ite {c : Prop} [Decidable c] {x y : Reply × State} (h : AnswerIn s x) (k : AnswerIn s y) : AnswerIn s (if c then x else y) := by
  split
  · exact h
  · exact k

theorem fitted {c : Prop} [Decidable c] (fields : List Byte) (t : State) : AnswerIn s (⟨if c then .ok else .clamped, fields⟩, t) := by
  split
  · exact .ok _ _
  · exact .clamped _ _

theorem withJob {h : Nat} {owner : Job → Reply × State} (k : ∀ j, AnswerIn s (owner j)) : AnswerIn s (withJob h s owner) := by
  unfold Machine.withJob
  split
  · exact k _
  · exact .refused _

theorem withClip {c : Nat} {owner : Clip → Job → Reply × State} (k : ∀ x j, AnswerIn s (owner x j)) : AnswerIn s (withClip c s owner) := by
  unfold Machine.withClip
  split
  · split
    · exact k _ _
    · exact .refused _
  · exact .refused _

end AnswerIn

theorem configSet_answers : AnsweringOwner configSet := by
  intro pairs s
  refine .ite (.refused _) ?_
  dsimp only
  split
  · exact .clamped _ _
  · exact .ok _ _

theorem cardSurvey_answers : AnsweringOwner cardSurvey := by
  intro n s
  unfold cardSurvey
  split
  · exact .refused _
  · split
    case h_6 | h_7 | h_8 => exact .taken _
    all_goals exact .refused _

theorem jobOpen_answers : AnsweringOwner jobOpen := by
  intro a s
  unfold jobOpen
  split
  · exact .refused _
  · refine .ite (.refused _) (.ite (.refused _) (.ite (.refused _) ?_))
    split
    · exact .refused _
    · refine .ite (.refused _) ?_
      split
      · exact .refused _
      · exact .fitted _ _

theorem jobFinal_answers : AnsweringOwner jobFinal := fun _ _ =>
  .withJob fun _ => .ite (.refused _) (.ite (.refused _) (.ite (.refused _) (.taken _)))

theorem jobPause_answers : AnsweringOwner jobPause := fun _ _ => .withJob fun _ => .ite (.refused _) (.ite (.refused _) (.taken _))

theorem jobResume_answers : AnsweringOwner jobResume := fun _ _ => .withJob fun _ => .ite (.refused _) (.taken _)

theorem jobAbort_answers : AnsweringOwner jobAbort := fun _ _ => .withJob fun _ => .ite (.refused _) (.taken _)

theorem jobQuery_answers : AnsweringOwner jobQuery := fun _ _ => .withJob fun _ => .ok _ _

theorem cardRelease_answers : AnsweringOwner cardRelease := fun _ _ => .withJob fun _ => .ite (.refused _) (.ite (.refused _) (.taken _))

theorem clipBegin_answers : AnsweringOwner clipBegin := fun _ _ =>
  .withJob fun _ => .ite (.refused _) (.ite (.refused _) (by
    split
    · exact .refused _
    · exact .ok _ _))

theorem extentsAdd_answers : AnsweringOwner extentsAdd := fun _ _ =>
  .withClip fun _ _ => .ite (.refused _) (by
    split
    · exact .refused _
    · exact .ite (.refused _) (.ite (.refused _) (.ite (.refused _) (.ite (.refused _) (.ok _ _)))))

theorem clipCommit_answers : AnsweringOwner clipCommit := fun _ _ =>
  .withClip fun _ _ => .ite (.refused _) (.ite (.refused _) (.taken _))

theorem clipCancel_answers : AnsweringOwner clipCancel := fun _ _ => .withClip fun _ _ => .ite (.refused _) (.taken _)

theorem clipQuery_answers : AnsweringOwner clipQuery := fun _ _ => .withClip fun _ _ => .ok _ _

theorem clipRecopy_answers : AnsweringOwner clipRecopy := fun _ _ =>
  .withClip fun _ _ => by
    split
    · exact .refused _
    · exact .ite (.refused _) (.ite (.refused _) (.ite (.refused _) (.ite (.refused _) (.ite (.refused _) (.ite (.refused _)
        (.ite (.refused _) (.taken _)))))))

theorem clipReverify_answers : AnsweringOwner clipReverify := fun _ _ =>
  .withClip fun _ _ => by
    split
    · exact .refused _
    · refine .ite (.refused _) ?_
      split
      · exact .ite (.refused _) (.ite (.refused _) (.ite (.refused _) (.taken _)))
      · exact .ite (.refused _) (.ite (.refused _) (.taken _))

theorem destAttach_answers : AnsweringOwner destAttach := by
  intro n s
  unfold destAttach
  split
  · exact .refused _
  · split
    case h_1 | h_2 => exact .taken _
    all_goals exact .refused _

theorem destDetach_answers : AnsweringOwner destDetach := by
  intro a s
  unfold destDetach
  split
  · exact .refused _
  · exact .ite (.refused _) (.ite (.refused _) (.ite (.taken _) (.ite (.refused _) (.taken _))))

theorem destQuery_answers : AnsweringOwner destQuery := by
  intro n s
  unfold destQuery
  split
  · exact .refused _
  · exact .ok _ _

theorem monitorSet_answers : AnsweringOwner monitorSet := by
  intro a s
  unfold monitorSet
  split
  · exact .refused _
  · exact .ite (.refused _) (.fitted _ _)

theorem holdResume_answers : AnsweringOwner holdResume := by
  intro n s
  unfold holdResume
  split
  · exact .refused _
  · exact .taken _

/-! ### Request by request -/

/-- A command of a request KIND `k` is dispatch's service of that KIND, with a reader that refuses every length the layout table does not
give it and an owner that answers as R7 says. -/
def ServedAs (i : Instr) (k : Byte) : Prop :=
  ∃ (α : Type) (fields : List Byte → Option α) (owner : α → State → Reply × State),
    (∀ s, exec i s = .next (serve k fields owner s)) ∧ (∀ payload, lengthFits k payload = false → fields payload = none) ∧
      AnsweringOwner owner

theorem ServedAs.none {i : Instr} {k : Byte} {owner : Unit → State → Reply × State} (he : ∀ s, exec i s = .next (serve k readNone owner s))
    (hk : ∀ payload, lengthFits k payload = decide (payload.length = 0)) (ho : AnsweringOwner owner) : ServedAs i k :=
  ⟨_, _, owner, he, fun payload h => readNone_eq_none (of_decide_eq_false (hk payload ▸ h)), ho⟩

theorem ServedAs.one {i : Instr} {k : Byte} {owner : Nat → State → Reply × State} (he : ∀ s, exec i s = .next (serve k readOne owner s))
    (hk : ∀ payload, lengthFits k payload = decide (payload.length = 1)) (ho : AnsweringOwner owner) : ServedAs i k :=
  ⟨_, _, owner, he, fun payload h => readOne_eq_none (of_decide_eq_false (hk payload ▸ h)), ho⟩

theorem ServedAs.handle {i : Instr} {k : Byte} {owner : Nat → State → Reply × State}
    (he : ∀ s, exec i s = .next (serve k readHandle owner s))
    (hk : ∀ payload, lengthFits k payload = decide (payload.length = 2)) (ho : AnsweringOwner owner) : ServedAs i k :=
  ⟨_, _, owner, he, fun payload h => readHandle_eq_none (of_decide_eq_false (hk payload ▸ h)), ho⟩

theorem ServedAs.handleAndCode {i : Instr} {k : Byte} {owner : Nat × Nat → State → Reply × State}
    (he : ∀ s, exec i s = .next (serve k readHandleAndCode owner s))
    (hk : ∀ payload, lengthFits k payload = decide (payload.length = 3)) (ho : AnsweringOwner owner) : ServedAs i k :=
  ⟨_, _, owner, he, fun payload h => readHandleAndCode_eq_none (of_decide_eq_false (hk payload ▸ h)), ho⟩

theorem servedAs_of_requestKind {i : Instr} {k : Byte} (h : requestKind i = some k) : ServedAs i k := by
  cases i with
  | identify => cases h; exact .none (fun _ => rfl) (fun _ => rfl) fun _ _ => .ok _ _
  | statusGet => cases h; exact .none (fun _ => rfl) (fun _ => rfl) fun _ _ => .ok _ _
  | configSet => cases h; exact ⟨_, _, _, fun _ => rfl, fun _ => readConfig_eq_none, configSet_answers⟩
  | flagsClear => cases h; exact .none (fun _ => rfl) (fun _ => rfl) fun _ _ => .ok _ _
  | deviceReset => cases h; exact .none (fun _ => rfl) (fun _ => rfl) fun _ _ => .taken _
  | cardSurvey => cases h; exact .one (fun _ => rfl) (fun _ => rfl) cardSurvey_answers
  | jobOpen => cases h; exact ⟨_, _, _, fun _ => rfl, fun _ hp => readJobOpen_eq_none (of_decide_eq_false hp), jobOpen_answers⟩
  | jobFinal => cases h; exact .one (fun _ => rfl) (fun _ => rfl) jobFinal_answers
  | jobPause => cases h; exact .one (fun _ => rfl) (fun _ => rfl) jobPause_answers
  | jobResume => cases h; exact .one (fun _ => rfl) (fun _ => rfl) jobResume_answers
  | jobAbort => cases h; exact .one (fun _ => rfl) (fun _ => rfl) jobAbort_answers
  | jobQuery => cases h; exact .one (fun _ => rfl) (fun _ => rfl) jobQuery_answers
  | cardRelease => cases h; exact .one (fun _ => rfl) (fun _ => rfl) cardRelease_answers
  | clipBegin => cases h; exact ⟨_, _, _, fun _ => rfl, fun _ => readClipBegin_eq_none, clipBegin_answers⟩
  | extentsAdd => cases h; exact ⟨_, _, _, fun _ => rfl, fun _ => readExtentsAdd_eq_none, extentsAdd_answers⟩
  | clipCommit => cases h; exact .handle (fun _ => rfl) (fun _ => rfl) clipCommit_answers
  | clipCancel => cases h; exact .handle (fun _ => rfl) (fun _ => rfl) clipCancel_answers
  | clipQuery => cases h; exact .handle (fun _ => rfl) (fun _ => rfl) clipQuery_answers
  | clipRecopy => cases h; exact .handleAndCode (fun _ => rfl) (fun _ => rfl) clipRecopy_answers
  | clipReverify => cases h; exact .handleAndCode (fun _ => rfl) (fun _ => rfl) clipReverify_answers
  | destAttach => cases h; exact .one (fun _ => rfl) (fun _ => rfl) destAttach_answers
  | destDetach => cases h; exact ⟨_, _, _, fun _ => rfl, fun _ hp => readDetach_eq_none (of_decide_eq_false hp), destDetach_answers⟩
  | destQuery => cases h; exact .one (fun _ => rfl) (fun _ => rfl) destQuery_answers
  | monitorSet => cases h; exact ⟨_, _, _, fun _ => rfl, fun _ hp => readMonitorSet_eq_none (of_decide_eq_false hp), monitorSet_answers⟩
  | holdResume => cases h; exact .one (fun _ => rfl) (fun _ => rfl) holdResume_answers
  | knownListQuery => cases h; exact .none (fun _ => rfl) (fun _ => rfl) fun _ _ => .ok _ _
  | knownListClear => cases h; exact .none (fun _ => rfl) (fun _ => rfl) fun _ _ => .ok _ _
  | _ => cases h

/-- With dispatch not ready, a request's command changes nothing (R6, R13). -/
theorem exec_request_idle {i : Instr} {s : State} (hi : (requestKind i).isSome = true ∨ i = .unknownRequest)
    (h : dispatchReady s = false) : exec i s = .next s := by
  rcases hi with hi | rfl
  · obtain ⟨k, hk⟩ := Option.isSome_iff_exists.mp hi
    obtain ⟨_, fields, owner, he, _, _⟩ := servedAs_of_requestKind hk
    rw [he, serve_idle s k fields owner (.inl h)]
  · simp [exec, execUnknownRequest, refuseUnknown, h]

/-- The commands of the host's requests, in the order of the kind code table. -/
def hostRequests : List Instr :=
  [.identify, .statusGet, .configSet, .flagsClear, .deviceReset, .cardSurvey, .jobOpen, .jobFinal, .jobPause, .jobResume, .jobAbort,
    .jobQuery, .cardRelease, .clipBegin, .extentsAdd, .clipCommit, .clipCancel, .clipQuery, .clipRecopy, .clipReverify, .destAttach,
    .destDetach, .destQuery, .monitorSet, .holdResume, .knownListQuery, .knownListClear]

theorem requestKind_hostRequests : hostRequests.map requestKind = requestKinds.map some := rfl

theorem mem_requestKinds_iff (k : Byte) : k ∈ requestKinds ↔ ∃ i, requestKind i = some k := by
  constructor
  · intro hk
    have hmem : some k ∈ hostRequests.map requestKind := requestKind_hostRequests ▸ List.mem_map_of_mem hk
    obtain ⟨i, _, hi⟩ := List.mem_map.mp hmem
    exact ⟨i, hi⟩
  · rintro ⟨i, hi⟩
    cases i <;> cases hi <;> decide

/-! ### The general requests -/

/-- A request with no payload is answered by its owner. -/
theorem serve_empty {s : State} {f : Frame} {rest : List Frame} {kind : Byte} {owner : Unit → State → Reply × State} (ho : s.Offers f rest)
    (hk : f.kind = kind) (hp : f.payload = []) :
    serve kind readNone owner s = sendFrame (replyFrame f (owner () (s.taken f rest)).1) (owner () (s.taken f rest)).2 :=
  serve_taken ho hk (by rw [hp]; rfl)

/-- Settles O9, by evaluating the capacities. -/
theorem identifyReply : Obligations.IdentifyReply := by
  intro s f rest ho hk hp
  have he : exec .identify s = .next (serve 0x01 readNone (fun _ t => (⟨.ok, identifyFields⟩, t)) s) := rfl
  rw [he, serve_empty ho hk hp, replyFrame, hk]
  rfl

/-- Settles O13: DEVICE_RESET's owner sets the mark that keeps dispatch from being ready. -/
theorem deviceResetStopsDispatch : Obligations.DeviceResetStopsDispatch := by
  constructor
  · intro s f rest ho hk hp
    have he : exec .deviceReset s = .next (serve 0x05 readNone deviceReset s) := rfl
    rw [he, serve_empty ho hk hp, replyFrame, hk]
    rfl
  · intro i s hpending hi
    exact exec_request_idle hi (by simp [dispatchReady, hpending])

/-- An answer to a taken request is a reply that goes out; one of a status but OK and CLAMPED leaves the state (R7). -/
theorem AnswerIn.answered {s : State} {x : Reply × State} (h : AnswerIn s x) (f : Frame) :
    ∃ (t : State) (r : Frame) (st : Status), sendFrame (replyFrame f x.1) x.2 = t ∧ t.replyOut = some r ∧ r.kind = f.kind + 0x80 ∧
      r.tag = f.tag ∧ r.payload.head? = some (BitVec.ofNat 8 st.code) ∧
      (st ≠ .ok → st ≠ .clamped → r.payload = [BitVec.ofNat 8 st.code] ∧ t = sendFrame r s) := by
  refine ⟨_, replyFrame f x.1, x.1.status, rfl, sendFrame_replyOut _ _, rfl, rfl, rfl, fun hok hclamped => ?_⟩
  cases h with
  | refused st => exact ⟨rfl, rfl⟩
  | ok => exact absurd rfl hok
  | clamped => exact absurd rfl hclamped

/-- Settles O8: every request's command is a service of its KIND (`servedAs_of_requestKind`). -/
theorem everyRequestIsAnsweredOnce : Obligations.EveryRequestIsAnsweredOnce := by
  refine ⟨⟨mem_requestKinds_iff, fun s f rest ho => ⟨fun hk => ?_, fun i hi hfit => ?_⟩⟩, fun i s f rest ho hi => ?_⟩
  · obtain ⟨hready, hin⟩ := ho
    simp [exec, execUnknownRequest, refuseUnknown, hready, hin, hk, State.taken, Status.code]
  · obtain ⟨_, fields, owner, he, hlen, _⟩ := servedAs_of_requestKind hi
    rw [he, serve_badLength ho rfl (hlen _ hfit)]
    rfl
  · obtain ⟨_, fields, owner, he, _, howner⟩ := servedAs_of_requestKind hi
    cases ha : fields f.payload with
    | none =>
      rw [he, serve_badLength ho rfl ha]
      obtain ⟨t, r, st, rfl, h⟩ := (AnswerIn.refused (s := s.taken f rest) .badLength).answered f
      exact ⟨_, r, st, rfl, h⟩
    | some a =>
      rw [he, serve_taken ho rfl ha]
      obtain ⟨t, r, st, rfl, h⟩ := (howner a (s.taken f rest)).answered f
      exact ⟨_, r, st, rfl, h⟩

/-! ### The status block (R10, R12) -/

/-- The number whose bit k is entry k of a list. -/
def bitsNat (bits : List Bool) : Nat := bits.foldr (fun b n => b.toNat + 2 * n) 0

theorem bitsByte_eq (bits : List Bool) : bitsByte bits = BitVec.ofNat 8 (bitsNat bits) := rfl

@[simp] theorem bitsNat_cons (b : Bool) (bits : List Bool) : bitsNat (b :: bits) = b.toNat + 2 * bitsNat bits := rfl

theorem bitsNat_testBit (bits : List Bool) (k : Nat) : (bitsNat bits).testBit k = bits.getD k false := by
  induction bits generalizing k with
  | nil => simp [bitsNat]
  | cons b bits ih =>
    cases k with
    | zero => cases b <;> simp [Nat.testBit_zero, Nat.add_mod]
    | succ k =>
      have hb : b.toNat < 2 := Bool.toNat_lt b
      have hhalf : bitsNat (b :: bits) / 2 = bitsNat bits := by rw [bitsNat_cons]; omega
      rw [Nat.testBit_add_one, hhalf, ih]
      rfl

theorem bitsNat_lt (bits : List Bool) : bitsNat bits < 2 ^ bits.length := by
  induction bits with
  | nil => exact Nat.one_pos
  | cons b bits ih =>
    have hb : b.toNat < 2 := Bool.toNat_lt b
    rw [bitsNat_cons, List.length_cons, Nat.pow_succ]
    omega

theorem bitsByte_getLsbD (bits : List Bool) {k : Nat} (hk : k < 8) : (bitsByte bits).getLsbD k = bits.getD k false := by
  rw [bitsByte_eq, BitVec.getLsbD_ofNat, bitsNat_testBit, decide_eq_true hk, Bool.true_and]

/-- The bits beyond a list of flags are 0 (assumption log 31). -/
theorem bitsByte_toNat_lt (bits : List Bool) : (bitsByte bits).toNat < 2 ^ bits.length := by
  rw [bitsByte_eq, BitVec.toNat_ofNat]
  exact Nat.lt_of_le_of_lt (Nat.mod_le _ _) (bitsNat_lt bits)

theorem ports_toList (s : State) : s.ports.toList = allPorts.map s.port := by
  have h : s.ports = Vector.ofFn s.port := by ext i hi; simp [State.port]
  rw [h, Vector.toList_ofFn]
  rfl

theorem dests_toList (s : State) : s.dests.toList = allDests.map s.dest := by
  have h : s.dests = Vector.ofFn s.dest := by ext i hi; simp [State.dest]
  rw [h, Vector.toList_ofFn]
  rfl

theorem monitors_toList (s : State) : s.monitors.toList = allDests.map s.monitor := by
  have h : s.monitors = Vector.ofFn s.monitor := by ext i hi; simp [State.monitor]
  rw [h, Vector.toList_ofFn]
  rfl

/-- The two bytes of a field spell its number modulo 65536 (1.5). -/
theorem leBytes_two_toNat (n : Nat) : (BitVec.ofNat 8 n).toNat + 256 * (BitVec.ofNat 8 (n / 256)).toNat = n % 65536 := by
  simp only [BitVec.toNat_ofNat]
  omega

/-- The seven flag bytes of the status block (spec/01). -/
theorem flagBytes_eq (s : State) :
    flagBytes s = [s.linkFlags.byte, bitsByte (allPorts.map fun p => (s.port p).readError), errorByte (s.dest 0), errorByte (s.dest 1),
      errorByte (s.dest 2), errorByte (s.dest 3), bitsByte (allDests.map fun d => (s.monitor d).tripped)] := by
  rw [flagBytes, ports_toList, dests_toList, monitors_toList]
  rfl

/-- The 34 bytes of the status block, field by field (spec/01). -/
theorem statusBlock_eq (s : State) :
    statusBlock s = flagBytes s ++ allPorts.map (fun p => BitVec.ofNat 8 (s.port p).state.code) ++
      allPorts.map (fun p => BitVec.ofNat 8 ((s.port p).job.getD 0xFF)) ++ allDests.map (fun d => BitVec.ofNat 8 (s.dest d).state.code) ++
      [BitVec.ofNat 8 s.slots.length, BitVec.ofNat 8 (s.slots.length / 256), BitVec.ofNat 8 s.notices.length, BitVec.ofNat 8 s.missed.toNat,
        BitVec.ofNat 8 (s.missed.toNat / 256), BitVec.ofNat 8 (s.missed.toNat / 256 / 256),
        BitVec.ofNat 8 (s.missed.toNat / 256 / 256 / 256)] := by
  rw [statusBlock, ports_toList, dests_toList]
  simp [leBytes, handleByte]

/-- Settles O10, from the fields of the status block and the bits of its flag bytes. -/
theorem statusGetReply : Obligations.StatusGetReply := by
  constructor
  · intro s f rest ho hk hp
    have he : exec .statusGet s = .next (serve 0x02 readNone statusGet s) := rfl
    rw [he, serve_empty ho hk hp, replyFrame, hk]
    rfl
  · intro s
    refine ⟨s.linkFlags.byte, bitsByte (allPorts.map fun p => (s.port p).readError), fun d => errorByte (s.dest d),
      bitsByte (allDests.map fun d => (s.monitor d).tripped), _, _, _, _, _, _, _, (statusBlock_eq s).trans (by rw [flagBytes_eq]),
      ⟨?_, ?_, ?_, ?_, ?_, bitsByte_toNat_lt _⟩, fun p => ?_, fun d => ⟨?_, ?_, ?_, bitsByte_toNat_lt _, ?_⟩, bitsByte_toNat_lt _,
      leBytes_two_toNat _, BitVec.toNat_ofNat _ 8, ?_⟩
    iterate 5 exact bitsByte_getLsbD _ (by decide)
    · rw [bitsByte_getLsbD _ p.isLt]
      fin_cases p <;> rfl
    iterate 3 exact bitsByte_getLsbD _ (by decide)
    · rw [bitsByte_getLsbD _ (by omega)]
      fin_cases d <;> rfl
    · have hm : s.missed.toNat < 2 ^ 32 := s.missed.isLt
      simp only [BitVec.toNat_ofNat]
      omega

/-- Settles O12: the first seven bytes of the status block are the flag bytes. -/
theorem flagsClearClearsStickyFlags : Obligations.FlagsClearClearsStickyFlags := by
  intro s f rest ho hk hp
  have he : exec .flagsClear s = .next (serve 0x04 readNone flagsClear s) := rfl
  have hflags : (statusBlock s).take 7 = flagBytes s := by rw [statusBlock_eq, flagBytes_eq]; rfl
  rw [he, serve_empty ho hk hp, replyFrame, hk, hflags]
  rfl

/-! ### CONFIG_SET (R11) -/

/-- A key and value pair as the frame carries it. -/
def pairOf (x : Byte × Byte × Byte) : Nat × Nat := (x.1.toNat, leNat [x.2.1, x.2.2])

theorem leNat_two (b0 b1 : Byte) : leNat [b0, b1] = b0.toNat + 256 * b1.toNat := rfl

theorem readPairs_flatMap (pairs : List (Byte × Byte × Byte)) :
    readPairs (pairs.flatMap (fun x => [x.1, x.2.1, x.2.2])) = some (pairs.map pairOf) := by
  induction pairs with
  | nil => rfl
  | cons x pairs ih =>
    simp only [List.flatMap_cons, List.cons_append, List.nil_append, readPairs, ih]
    rfl

/-- A count of 1 to 32 and that many pairs are read as those pairs. -/
theorem readConfig_pairs {pairs : List (Byte × Byte × Byte)} (hlow : 1 ≤ pairs.length) (hhigh : pairs.length ≤ 32) :
    readConfig (BitVec.ofNat 8 pairs.length :: pairs.flatMap (fun x => [x.1, x.2.1, x.2.2])) = some (pairs.map pairOf) := by
  have hn : (BitVec.ofNat 8 pairs.length).toNat = pairs.length := by rw [BitVec.toNat_ofNat]; omega
  have hlen : (pairs.flatMap (fun x => [x.1, x.2.1, x.2.2])).length = 3 * pairs.length := by
    simp [List.length_flatMap, Nat.mul_comm]
  rw [readConfig, hn, hlen, if_pos ⟨hlow, hhigh, rfl⟩, readPairs_flatMap]

/-- The value stored under a key is the fitted last one sent for it, or the old one. -/
theorem value_putAll (c : Settings) {pairs : List (Byte × Byte × Byte)} (hkeys : ∀ x ∈ pairs, 1 ≤ x.1.toNat ∧ x.1.toNat ≤ 9) {key : Nat}
    (hkey : 1 ≤ key ∧ key ≤ 9) :
    (c.putAll (pairs.map pairOf)).value key =
      match (pairs.filter (fun x => decide (x.1.toNat = key))).getLast? with
      | some x => fitValue key (leNat [x.2.1, x.2.2])
      | none => c.value key := by
  induction pairs using List.reverseRecOn with
  | nil => rfl
  | append_singleton pairs x ih =>
    have hx := hkeys x (by simp)
    have ih := ih fun y hy => hkeys y (by simp [hy])
    rw [Settings.putAll, List.map_append, List.foldl_append, List.filter_append]
    change ((c.putAll (pairs.map pairOf)).put x.1.toNat (fitValue x.1.toNat (leNat [x.2.1, x.2.2]))).value key = _
    rw [value_put _ _ hx hkey]
    by_cases he : x.1.toNat = key
    · simp [he]
    · simp [he, ih]

theorem fitValue_eq (key v : Nat) : fitValue key v = max (Config.keyLow key) (min v (Config.keyHigh key)) := by
  have h := keyLow_le_keyHigh key
  unfold fitValue
  omega

theorem fitValue_eq_self_iff (key v : Nat) : fitValue key v = v ↔ Config.keyLow key ≤ v ∧ v ≤ Config.keyHigh key := by
  have h := keyLow_le_keyHigh key
  unfold fitValue
  omega

/-- CONFIG_SET with a key outside 1 to 9 is refused whole (R11). -/
theorem configSet_refused {pairs : List (Byte × Byte × Byte)} {s : State} (h : ∃ x ∈ pairs, x.1.toNat < 1 ∨ 9 < x.1.toNat) :
    configSet (pairs.map pairOf) s = (statusOnly .outOfRange, s) := by
  obtain ⟨x, hx, hout⟩ := h
  exact if_pos (List.any_eq_true.mpr ⟨pairOf x, List.mem_map_of_mem hx, decide_eq_true hout⟩)

/-- CONFIG_SET with keys of 1 to 9 stores every pair and repeats the values now stored (R11). -/
theorem configSet_taken {pairs : List (Byte × Byte × Byte)} {s : State} (h : ∀ x ∈ pairs, 1 ≤ x.1.toNat ∧ x.1.toNat ≤ 9) :
    configSet (pairs.map pairOf) s =
      (⟨if ∀ x ∈ pairs, Config.keyLow x.1.toNat ≤ x.2.1.toNat + 256 * x.2.2.toNat ∧
            x.2.1.toNat + 256 * x.2.2.toNat ≤ Config.keyHigh x.1.toNat then .ok else .clamped,
        BitVec.ofNat 8 pairs.length ::
          pairs.flatMap (fun x => x.1 :: leBytes 2 ((s.cfg.putAll (pairs.map pairOf)).value x.1.toNat))⟩,
        { s with cfg := s.cfg.putAll (pairs.map pairOf) }) := by
  have hin : ¬ ((pairs.map pairOf).any (fun p => decide (p.1 < 1 ∨ 9 < p.1)) = true) := by
    rw [List.any_eq_true]
    rintro ⟨_, hy, hout⟩
    obtain ⟨x, hx, rfl⟩ := List.mem_map.mp hy
    have hkey := h x hx
    have hout := of_decide_eq_true hout
    simp only [pairOf] at hout
    omega
  have hclamped : ((pairs.map pairOf).any (fun p => decide (fitValue p.1 p.2 ≠ p.2)) = true) ↔
      ¬ ∀ x ∈ pairs, Config.keyLow x.1.toNat ≤ x.2.1.toNat + 256 * x.2.2.toNat ∧
        x.2.1.toNat + 256 * x.2.2.toNat ≤ Config.keyHigh x.1.toNat := by
    rw [List.any_eq_true]
    constructor
    · rintro ⟨_, hy, hne⟩ hall
      obtain ⟨x, hx, rfl⟩ := List.mem_map.mp hy
      exact of_decide_eq_true hne ((fitValue_eq_self_iff _ _).mpr (hall x hx))
    · intro hnot
      by_contra hnone
      exact hnot fun x hx => (fitValue_eq_self_iff _ _).mp
        (by_contra fun hne => hnone ⟨pairOf x, List.mem_map_of_mem hx, decide_eq_true hne⟩)
  have hfields : (pairs.map pairOf).flatMap (fun p => leBytes 1 p.1 ++ leBytes 2 ((s.cfg.putAll (pairs.map pairOf)).value p.1)) =
      pairs.flatMap (fun x => x.1 :: leBytes 2 ((s.cfg.putAll (pairs.map pairOf)).value x.1.toNat)) := by
    simp [List.flatMap_map, pairOf, leBytes]
  rw [configSet, if_neg hin]
  simp only [hfields, hclamped, List.length_map, ite_not]
  rfl

/-- Settles O11: the reader gives the pairs as sent, and `value_putAll` says what they leave under each key. -/
theorem configSetStoresFittedValues : Obligations.ConfigSetStoresFittedValues := by
  refine ⟨rfl, fun s f rest pairs ho hk hlow hhigh hp => ?_⟩
  have he : exec .configSet s = .next (serve 0x03 readConfig configSet s) := rfl
  have hread : readConfig f.payload = some (pairs.map pairOf) := by rw [hp, readConfig_pairs hlow hhigh]
  rw [he, serve_taken ho hk hread, replyFrame, hk]
  refine ⟨fun hout => ?_, fun hin => ⟨s.cfg.putAll (pairs.map pairOf), fun key h1 h9 => ?_, ?_⟩⟩
  · rw [configSet_refused hout]
    rfl
  · rw [value_putAll _ hin ⟨h1, h9⟩]
    split <;> simp only [*, fitValue_eq, leNat_two]
  · rw [configSet_taken hin]
    split <;> rfl

end Sys2Proof.Machine
end

section
/-! SUPPORT. The queue of commands, the resets and the outbound line (R1, R8, R13, and the "Values after reset" of every chapter). -/

namespace Sys2Proof.Machine

-- One theorem at a time: checking them all at once needs more threads than the sandbox gives.
set_option Elab.async false

open Sys2Proof

/-- Settles O1, by the two cases of the queue. -/
theorem stepRunsFrontCommand : Obligations.StepRunsFrontCommand := by
  constructor
  · intro c rest s h
    rw [step, h]
  · intro s h
    rw [step, h]

theorem allSlots_eq_range : allSlots = List.range 1024 := List.range_eq_range'.symm

/-! ### HARD_RESET (R1) -/

@[simp] theorem hardResetState_port (r : Bool) (s : State) (p : Port) : (hardResetState r s).port p = hardPort (s.port p) := by
  simp [hardResetState, State.port]

@[simp] theorem hardResetState_dest (r : Bool) (s : State) (d : Dest) : (hardResetState r s).dest d = hardDest (s.dest d) := by
  simp [hardResetState, State.dest]

@[simp] theorem reset_port (p : Port) : State.reset.port p = CardPort.reset := by simp [State.reset, State.port]
@[simp] theorem reset_reader (p : Port) : State.reset.reader p = Reader.reset := by simp [State.reset, State.reader]
@[simp] theorem reset_use (p : Port) : State.reset.use p = .idle := by simp [State.reset, State.use]
@[simp] theorem reset_dest (d : Dest) : State.reset.dest d = DestPort.reset := by simp [State.reset, State.dest]
@[simp] theorem reset_engine (e : EngineIx) : State.reset.engine e = Engine.idle := by simp [State.reset, State.engine]
@[simp] theorem reset_monitor (d : Dest) : State.reset.monitor d = Monitor.reset := by simp [State.reset, State.monitor]

/-- Settles O2: outside the inputs, the clock and the pending commands, the state is that of reset. -/
theorem hardResetValues : Obligations.HardResetValues := by
  intro r s
  refine ⟨hardResetState r s, rfl, ⟨rfl, rfl, rfl, rfl, rfl, rfl, rfl, rfl, rfl, rfl⟩,
    ⟨rfl, rfl, rfl, rfl, rfl, rfl, allSlots_eq_range, rfl, rfl⟩, reset_reader, reset_engine, reset_monitor,
    ⟨rfl, rfl, rfl, rfl, rfl, rfl⟩, fun p => ?_, fun d => ?_⟩
  · rw [hardResetState_port, hardPort]
    cases hp : (s.port p).present <;> rfl
  · rw [hardResetState_dest, hardDest]
    cases hd : (s.dest d).linkUp <;> rfl

/-! ### The soft reset (R13) -/

/-- A destination port with a free link sends IDENTIFY while it is IDENTIFYING (R96, R99). -/
def DestPort.identifySent (x : DestPort) (timeoutMs : Nat) : DestPort :=
  if x.request = none ∧ x.state = .identifying then { x with request := some ⟨.identify, false, timeoutMs, false⟩ } else x

/-- At a port that is not ONLINE a free link takes nothing but IDENTIFY. -/
theorem bridgeKick_dest {u : State} {d : Dest} (h : (u.dest d).state ≠ .online) (e : Dest) :
    (bridgeKick d u).dest e = if e = d then (u.dest e).identifySent u.cfg.destTimeoutMs else u.dest e := by
  by_cases he : e = d
  · subst he
    rw [if_pos rfl, DestPort.identifySent]
    unfold bridgeKick
    split
    next hr => simp [hr]
    next hr =>
      split
      next hs => simp [hr, hs, bridgeSend]
      next hs => exact absurd hs h
      next hs _ => rw [if_neg fun hn => hs hn.2]
  · rw [if_neg he]
    unfold bridgeKick
    split
    · rfl
    · split
      · exact setDest_dest_of_ne _ he _
      next hs => exact absurd hs h
      · rfl

theorem identifySent_state (x : DestPort) (ms : Nat) : (x.identifySent ms).state = x.state := by
  unfold DestPort.identifySent
  split <;> rfl

theorem identifySent_twice (x : DestPort) (ms : Nat) : (x.identifySent ms).identifySent ms = x.identifySent ms := by
  unfold DestPort.identifySent
  split <;> simp_all

/-- Kicking the links of several ports, none ONLINE, sends their IDENTIFYs and changes nothing else. -/
theorem foldl_bridgeKick (l : List Dest) {u : State} (h : ∀ d, (u.dest d).state ≠ .online) :
    ∃ dests, l.foldl (fun t d => bridgeKick d t) u = { u with dests := dests } ∧
      ∀ e : Dest, dests[e.val] = if e ∈ l then (u.dest e).identifySent u.cfg.destTimeoutMs else u.dest e := by
  induction l generalizing u with
  | nil => exact ⟨u.dests, rfl, fun e => rfl⟩
  | cons d l ih =>
    obtain ⟨kicked, hk⟩ := bridgeKick_frame u d
    have hdest (e : Dest) : (bridgeKick d u).dest e = if e = d then (u.dest e).identifySent u.cfg.destTimeoutMs else u.dest e :=
      bridgeKick_dest (h d) e
    have hstate (e : Dest) : ((bridgeKick d u).dest e).state ≠ .online := by
      rw [hdest]
      split
      · rw [identifySent_state]; exact h e
      · exact h e
    obtain ⟨dests, hfold, hval⟩ := ih hstate
    have hcfg : (bridgeKick d u).cfg = u.cfg := by rw [hk]
    refine ⟨dests, ?_, fun e => ?_⟩
    · rw [List.foldl_cons, hfold, hk]
    · rw [hval, hdest, hcfg]
      by_cases he : e = d <;> by_cases hm : e ∈ l <;> simp [he, hm, identifySent_twice]

/-- A soft reset's state: the soft-reset values, with the IDENTIFYs sent and the lamps following. -/
theorem softResetState_refresh (s : State) :
    ∃ dests, softResetState s = refresh { softBase s with dests := dests } ∧
      ∀ e : Dest, dests[e.val] = (softDest (s.dest e)).identifySent s.cfg.destTimeoutMs := by
  have hstate (d : Dest) : ((softBase s).dest d).state ≠ .online := by
    rw [softBase_dest, softDest]
    cases (s.dest d).linkUp <;> simp
  obtain ⟨dests, hfold, hval⟩ := foldl_bridgeKick allDests hstate
  refine ⟨dests, by rw [softResetState_eq, hfold], fun e => ?_⟩
  have hmem : e ∈ allDests := by fin_cases e <;> decide
  rw [hval, if_pos hmem, softBase_dest]
  rfl

/-- The lamp of a port that has no job, neither RELEASED nor FAULT (R23). -/
theorem lampOf_no_job {s : State} {p : Port} (hjob : (s.port p).job = none) (hfault : (s.port p).state ≠ .fault)
    (hreleased : (s.port p).state ≠ .released) :
    lampOf s p = if (s.port p).state = .empty ∨ (s.port p).state = .settling then .off else .amber := by
  simp [lampOf, hjob, hfault, hreleased]

theorem softResetState_port (s : State) (p : Port) :
    (softResetState s).port p =
      (softPort s.cfg (s.port p)).withLamp (if (s.port p).state = .empty ∨ (s.port p).state = .settling then .off else .amber) := by
  obtain ⟨dests, he, _⟩ := softResetState_refresh s
  have hport : ({ softBase s with dests := dests } : State).port p = softPort s.cfg (s.port p) := softBase_port s p
  rw [he, refresh_port, hport, lampOf_no_job] <;> rw [hport]
  · cases hs : (s.port p).state <;> simp [softPort, hs]
  · rfl
  · cases hs : (s.port p).state <;> simp [softPort, hs]
  · cases hs : (s.port p).state <;> simp [softPort, hs]

/-- No reader waits after a soft reset: no port has a job (R69). -/
theorem softResetState_reader (s : State) (p : Port) : (softResetState s).reader p = Reader.reset := by
  obtain ⟨dests, he, _⟩ := softResetState_refresh s
  have hport : ({ softBase s with dests := dests } : State).port p = softPort s.cfg (s.port p) := softBase_port s p
  have hwait : startCondition { softBase s with dests := dests } p = false := by
    rw [startCondition, hport]
    rfl
  rw [he, refresh_reader, hwait]
  exact congrArg (fun r : Reader => { r with waiting := false }) (reset_reader p)

theorem softResetState_dest (s : State) (d : Dest) :
    (softResetState s).dest d = (softDest (s.dest d)).identifySent s.cfg.destTimeoutMs := by
  obtain ⟨dests, he, hval⟩ := softResetState_refresh s
  rw [he, refresh_dest]
  exact hval d

theorem softMonitor_eq (cfg : Settings) (m : Monitor) :
    softMonitor cfg m =
      { m with above := false, tripped := false
               holdoff := if cfg.paceWindowMs ≤ m.holdoff then cfg.paceWindowMs - 1 else m.holdoff } := by
  simp only [softMonitor, Monitor.lowered]
  split <;> rfl

/-- Settles O3, block by block, from what the soft reset makes of each record. -/
theorem softResetValues : Obligations.SoftResetValues := by
  intro c s reply hc hpending hwaiting hsending hkind
  have hline : resetReplyOnLine s = true := by simp [resetReplyOnLine, hpending, hwaiting, hsending, hkind]
  refine ⟨softResetState s, exec_softReset hc hline, ?_⟩
  have hport := softResetState_port s
  have hreader := softResetState_reader s
  have hdest := softResetState_dest s
  obtain ⟨dests, he, _⟩ := softResetState_refresh s
  have hmonitor (d : Dest) : (softResetState s).monitor d = softMonitor s.cfg (s.monitor d) := by
    rw [he, refresh_monitor]
    exact softBase_monitor s d
  have hqueue : (softResetState s).surveyQueue =
      allPorts.filter (fun p => decide ((s.port p).state ≠ .empty) && decide ((s.port p).state ≠ .settling)) := by
    rw [he]
    refine List.filter_congr fun p _ => ?_
    change decide (((softBase s).port p).state = .present) = _
    rw [softBase_port]
    cases hs : (s.port p).state <;> simp [softPort, hs]
  refine ⟨?_, ?_, hreader, ?_, ?_, fun d => (hmonitor d).trans (softMonitor_eq _ _), fun p => ?_, hqueue, fun p hr => ?_, fun p r hr => ?_,
    fun d => ?_⟩
  · rw [he]
    exact ⟨rfl, rfl, rfl, rfl, rfl, rfl, rfl, rfl, rfl⟩
  · rw [he]
    exact ⟨rfl, rfl, rfl, rfl, rfl, allSlots_eq_range, rfl, rfl⟩
  · rw [he]
    exact reset_engine
  · rw [he]
    exact ⟨rfl, rfl, rfl, rfl, rfl, rfl⟩
  · rw [hport]
    refine ⟨rfl, rfl, rfl, rfl, rfl, fun hs => ?_, fun hs => ?_, fun hempty hsettling => ?_⟩
    · simp [CardPort.withLamp, softPort, hs]
    · simp [CardPort.withLamp, softPort, hs]
    · refine ⟨?_, by simp [CardPort.withLamp, hempty, hsettling]⟩
      cases hs : (s.port p).state <;> simp_all [CardPort.withLamp, softPort]
  · rw [hport]
    change (s.port p).request.bind CardRequest.abandonAll = none
    rw [hr]
    rfl
  · rw [hport]
    change (s.port p).request.bind CardRequest.abandonAll = _
    rw [hr]
    rfl
  · rw [hdest]
    cases hl : (s.dest d).linkUp <;> cases hr : (s.dest d).request <;>
      simp [DestPort.identifySent, softDest, DestPort.reset, hl, hr]

/-! ### RESET held low (R1) -/

/-- Nothing but the levels of the presence inputs and of the bridge links has moved. -/
def LevelsMoved (s t : State) : Prop :=
  ∃ ports dests, t = { s with ports := ports, dests := dests } ∧
    (∀ p : Port, ports[p.val] = { s.port p with present := ports[p.val].present }) ∧
    ∀ d : Dest, dests[d.val] = { s.dest d with linkUp := dests[d.val].linkUp }

theorem LevelsMoved.refl (s : State) : LevelsMoved s s := ⟨s.ports, s.dests, rfl, fun _ => rfl, fun _ => rfl⟩

theorem setPort_levelsMoved (s : State) (p : Port) (level : Bool) : LevelsMoved s (setPort s p { s.port p with present := level }) := by
  have hports (q : Port) : (setPort s p { s.port p with present := level }).port q =
      { s.port q with present := ((setPort s p { s.port p with present := level }).port q).present } := by
    by_cases hq : q = p
    · subst hq
      rw [setPort_port_self]
    · rw [setPort_port_of_ne _ hq]
  exact ⟨_, s.dests, rfl, hports, fun _ => rfl⟩

theorem setDest_levelsMoved (s : State) (d : Dest) (level : Bool) : LevelsMoved s (setDest s d { s.dest d with linkUp := level }) := by
  have hdests (e : Dest) : (setDest s d { s.dest d with linkUp := level }).dest e =
      { s.dest e with linkUp := ((setDest s d { s.dest d with linkUp := level }).dest e).linkUp } := by
    by_cases he : e = d
    · subst he
      rw [setDest_dest_self]
    · rw [setDest_dest_of_ne _ he]
  exact ⟨s.ports, _, rfl, fun _ => rfl, hdests⟩

/-- While RESET is held low, a command that moves no input's level changes nothing (assumption log 7). -/
theorem exec_while_low {i : Instr} {s : State} (hlow : s.resetLow = true) (hrx : s.rx = .hunting) (hsend : s.sending = none)
    (hhard : ∀ r, i ≠ .hardReset r) (hlevel : ∀ p d, i ≠ .presenceAppear p ∧ i ≠ .presenceDrop p ∧ i ≠ .destLinkUp d ∧ i ≠ .destLinkDown d) :
    exec i s = .next s := by
  have hready : dispatchReady s = false := by simp [dispatchReady, hlow]
  have hawake (f : State → State) : awake f s = s := if_pos hlow
  by_cases hi : (requestKind i).isSome = true ∨ i = .unknownRequest
  · exact exec_request_idle hi hready
  · cases i with
    | hardReset r => exact absurd rfl (hhard r)
    | presenceAppear p => exact absurd rfl (hlevel p 0).1
    | presenceDrop p => exact absurd rfl (hlevel p 0).2.1
    | destLinkUp d => exact absurd rfl (hlevel 0 d).2.2.1
    | destLinkDown d => exact absurd rfl (hlevel 0 d).2.2.2
    | softReset => simp [exec, execSoftReset, resetReplyOnLine, hsend]
    | resetHeldLow =>
      change Host.Outcome.next { s with resetLow := true, rx := .hunting, sending := none } = _
      rw [← hlow, ← hrx, ← hsend]
    | unknownRequest => exact absurd (.inr rfl) hi
    | identify | statusGet | configSet | flagsClear | deviceReset | cardSurvey | jobOpen | jobFinal | jobPause | jobResume | jobAbort
    | jobQuery | cardRelease | clipBegin | extentsAdd | clipCommit | clipCancel | clipQuery | clipRecopy | clipReverify | destAttach
    | destDetach | destQuery | monitorSet | holdResume | knownListQuery | knownListClear => exact absurd (.inl rfl) hi
    | _ => exact congrArg _ (hawake _)

/-- While RESET is held low, no command but HARD_RESET moves anything but the inputs' levels. -/
theorem exec_levelsMoved {i : Instr} {s : State} (hlow : s.resetLow = true) (hrx : s.rx = .hunting) (hsend : s.sending = none)
    (hhard : ∀ r, i ≠ .hardReset r) : Completes LevelsMoved i s := by
  cases i with
  | presenceAppear p => exact ⟨_, by rw [exec, execPresenceAppear, if_pos hlow], setPort_levelsMoved s p true⟩
  | presenceDrop p => exact ⟨_, by rw [exec, execPresenceDrop, if_pos hlow], setPort_levelsMoved s p false⟩
  | destLinkUp d => exact ⟨_, by rw [exec, execDestLinkUp, if_pos hlow], setDest_levelsMoved s d true⟩
  | destLinkDown d => exact ⟨_, by rw [exec, execDestLinkDown, if_pos hlow], setDest_levelsMoved s d false⟩
  | _ => exact ⟨s, exec_while_low hlow hrx hsend hhard (by simp), .refl s⟩

/-- Settles O4: only the four commands that move an input's level change anything while RESET is held low. -/
theorem resetHeldLowStopsTheBlock : Obligations.ResetHeldLowStopsTheBlock := by
  refine ⟨fun s => rfl, fun i s hlow hrx hsend hhard => ?_⟩
  obtain ⟨t, he, ports, dests, rfl, hports, hdests⟩ := exec_levelsMoved hlow hrx hsend hhard
  exact ⟨ports, dests, he, hports, hdests⟩

/-! ### The end of a frame (R8) -/

/-- Settles O7: a frame that is not the DEVICE_RESET reply leaves a free line to the arbiter. -/
theorem lineTakesReplyThenOldestNotice : Obligations.LineTakesReplyThenOldestNotice := by
  intro s sent hlow hsent hother
  have hline : resetReplyOnLine s = false := by
    rcases hother with h | h | h
    · simp [resetReplyOnLine, h]
    · simp [resetReplyOnLine, Option.isSome_iff_ne_none.mp h]
    · simpa [resetReplyOnLine, hsent] using fun _ _ => h
  have he : exec .frameSendEnd s = .next (pump { s with sending := none }) := by
    simp [exec, execFrameSendEnd, awake, hlow, frameEnds, hsent, hline]
  rw [he]
  refine ⟨fun r hr => ?_, fun hr n rest hn => ?_, fun hr hn => ?_⟩
  · rw [pump_reply { s with sending := none } rfl hr]
  · rw [pump_notice { s with sending := none } rfl hr hn]
    rfl
  · rw [pump_idle { s with sending := none } hr hn]

/-! ### The block right after reset -/

/-- Settles O57, invariant by invariant: after reset the tables are empty and every record has its reset value. -/
theorem resetIsSound : Obligations.ResetIsSound := by
  refine ⟨rfl, ?_, ?_, ?_, ?_, .inr (.inr ⟨rfl, rfl⟩), ?_, ?_, ?_, ?_, ?_⟩
  · exact ⟨.nil, .nil, by simp [State.reset], by simp [State.reset]⟩
  · refine ⟨by simp [State.reset], fun p c hc => ?_, fun e acc ha => ?_⟩
    · rw [reset_reader] at hc
      cases hc
    · rw [reset_engine] at ha
      cases ha
  · exact ⟨Nat.zero_le _, Nat.zero_le _, Nat.zero_le _, .nil, .nil, fun _ h => nomatch h⟩
  · refine ⟨defaultSettings_inRange, by decide, by decide, by decide, by decide, fun d => ?_, fun d => ?_⟩
    · rw [reset_monitor]
      decide
    · rw [reset_dest]
      decide
  · refine ⟨.nil, by simp [State.reset], fun p c hc => ?_, fun p q _ c hc => ?_⟩ <;>
    · rw [reset_reader] at hc
      cases hc
  · refine ⟨fun p => ⟨?_, ?_, ?_⟩, fun d => ?_, .inr fun d _ => ?_⟩
    · rw [lampOf_no_job] <;> rw [reset_port] <;> decide
    · rw [startCondition, reset_port, reset_reader]
      rfl
    · simp [CardPort.reset, Reader.reset]
    · rw [reset_monitor, reset_dest]
      decide
    · rw [reset_dest]
      exact ⟨rfl, rfl⟩
  · intro p r hr
    rw [reset_port] at hr
    cases hr
  · refine ⟨by simp [State.reset], fun p c hc => ?_, by simp [State.reset], fun e u hu => ?_, by simp [State.reset], fun d => ?_,
      by simp [State.reset]⟩
    · rw [reset_reader] at hc
      cases hc
    · rw [reset_engine] at hu
      cases hu
    · rw [reset_dest]
      exact ⟨by simp [DestPort.reset], by simp [DestPort.reset]⟩
  · simp [State.AccountsCurrent, State.reset]

end Sys2Proof.Machine
end

section
/-! SUPPORT. The receiver (R2 to R5): the parity of a byte, what each received byte does, and a frame sent byte by byte. -/

namespace Sys2Proof.Machine

-- One theorem at a time: checking them all at once needs more threads than the sandbox gives.
set_option Elab.async false

open Sys2Proof

/-! ### The parity of a byte (R2) -/

/-- Folding with exclusive or gives the parity of the number of ones. -/
theorem foldl_xor_eq_parity (f : Nat → Bool) (l : List Nat) (a : Bool) :
    l.foldl (fun acc k => xor acc (f k)) a = xor a (decide (l.countP f % 2 = 1)) := by
  induction l generalizing a with
  | nil => simp
  | cons k l ih =>
    rw [List.foldl_cons, ih, List.countP_cons]
    rcases Nat.mod_two_eq_zero_or_one (l.countP f) with h | h <;> cases a <;> cases hk : f k <;> simp [Nat.add_mod, h]

/-- The parity bit that is right makes the number of ones even. -/
theorem evenOnes_iff (b : Byte) (parityBit : Bool) : evenOnes b parityBit = true ↔ parityBit = parityOf b := by
  rw [evenOnes, parityOf, foldl_xor_eq_parity]
  rcases Nat.mod_two_eq_zero_or_one ((List.range 8).countP b.getLsbD) with h | h <;> cases parityBit <;> simp [Nat.add_mod, h]

/-! ### What a received byte does (R3, R4) -/

section
variable {s : State} {b : Byte} {parityBit stopBit : Bool}

theorem exec_rxByte (h : s.resetLow = false) : exec (.rxByte b parityBit stopBit) s = .next (receive b parityBit stopBit s) := by
  simp [exec, execRxByte, awake, h]

theorem exec_gap (h : s.resetLow = false) : exec .interbyteGapTimeout s = .next (gapExpired s) := by
  simp [exec, execInterbyteGapTimeout, awake, h]

theorem receive_hunting (h : s.rx = .hunting) :
    receive b parityBit stopBit s =
      if b = 0xA5 ∧ evenOnes b parityBit = true ∧ stopBit = true then { s with rx := .assembling [] } else s := by
  simp only [receive, h, evenOnes_iff]
  rfl

theorem receive_parity {bytes : List Byte} (h : s.rx = .assembling bytes) (he : evenOnes b parityBit = false) :
    receive b parityBit stopBit s = discardFrame (if stopBit then s.linkFlags else s.linkFlags.mark .framing) .parity s := by
  have hp : parityBit ≠ parityOf b := fun hp => by simp [(evenOnes_iff b parityBit).mpr hp] at he
  simp only [receive, h, if_pos hp]

theorem receive_framing {bytes : List Byte} (h : s.rx = .assembling bytes) (he : evenOnes b parityBit = true) :
    receive b parityBit false s = discardFrame s.linkFlags .framing s := by
  simp [receive, h, (evenOnes_iff b parityBit).mp he]

theorem receive_field {bytes : List Byte} (h : s.rx = .assembling bytes) (he : evenOnes b parityBit = true) :
    receive b parityBit true s = takeField (bytes ++ [b]) s := by
  simp [receive, h, (evenOnes_iff b parityBit).mp he]

/-! ### The fields of a frame (R3) -/

theorem takeField_first : takeField [b] s = { s with rx := .assembling [b] } := rfl

/-- A field before the second CHECK byte is taken. -/
theorem takeField_within {low high : Byte} {fields : List Byte} {len : Nat} (hlen : len = low.toNat + 256 * high.toNat) (hlow : 2 ≤ len)
    (hhigh : len ≤ 1024) (h : fields.length < len + 2) :
    takeField (low :: high :: fields) s = { s with rx := .assembling (low :: high :: fields) } := by
  have htake : leNat ((low :: high :: fields).take 2) = len := hlen.symm
  simp only [takeField, htake, List.length_cons]
  rw [if_neg (by omega), if_neg (by omega), if_pos (by omega)]

/-- LEN is checked once its second byte is there. -/
theorem takeField_len (low high : Byte) :
    takeField [low, high] s =
      if 2 ≤ low.toNat + 256 * high.toNat ∧ low.toNat + 256 * high.toNat ≤ 1024 then { s with rx := .assembling [low, high] }
      else discardFrame s.linkFlags .length s := by
  have hlen : leNat ([low, high].take 2) = low.toNat + 256 * high.toNat := rfl
  split
  next h => exact takeField_within rfl h.1 h.2 (Nat.succ_pos _)
  next h =>
    simp only [takeField, hlen, List.length_cons, List.length_nil]
    rw [if_neg (by omega), if_pos (by omega)]

/-- The second CHECK byte ends the frame: it is offered to the inbound buffer, or discarded for its CHECK. -/
theorem takeField_end {low high kind tag check0 check1 : Byte} {payload : List Byte} {len : Nat}
    (hlen : len = low.toNat + 256 * high.toNat) (hhigh : len ≤ 1024) (hpayload : payload.length + 2 = len) :
    takeField (low :: high :: kind :: tag :: payload ++ [check0, check1]) s =
      if check0.toNat + 256 * check1.toNat = checkSum (low :: high :: kind :: tag :: payload) then offerFrame ⟨kind, tag, payload⟩ s
      else discardFrame s.linkFlags .check s := by
  let body := low :: high :: kind :: tag :: payload
  have htake : leNat ((body ++ [check0, check1]).take 2) = len := hlen.symm
  have hbody : body.length = len + 2 := by simp [body]; omega
  have hsum : (body ++ [check0, check1]).take (len + 2) = body := List.take_left' hbody
  have hcheck : (body ++ [check0, check1]).drop (len + 2) = [check0, check1] := List.drop_left' hbody
  have hall : (body ++ [check0, check1]).length = len + 4 := by simp [hbody]
  change takeField (body ++ [check0, check1]) s = _
  rw [takeField, htake, hsum, hcheck, hall, if_neg (by omega), if_neg (by omega), if_neg (by omega)]
  rfl

theorem checkSum_body (low high kind tag : Byte) (payload : List Byte) :
    checkSum (low :: high :: kind :: tag :: payload) =
      (low.toNat + high.toNat + kind.toNat + tag.toNat + (payload.map BitVec.toNat).sum) % 65536 := by
  simp [checkSum, Nat.add_assoc]

/-- A frame whose CHECK is right joins the inbound buffer, or is an overrun while four wait (R5). -/
theorem offerFrame_eq (f : Frame) :
    offerFrame f s =
      if s.inbound.length < 4 then { s with rx := .hunting, inbound := s.inbound ++ [f] }
      else notify (.linkFault .overrun) { s with rx := .hunting, linkFlags := { s.linkFlags with overrun := true } } := rfl

end

/-- Settles O6: `receive` and `takeField`, case by case. -/
theorem receiverTakesOrDiscards : Obligations.ReceiverTakesOrDiscards := by
  intro b parityBit stopBit s hlow
  rw [exec_rxByte hlow, exec_gap hlow]
  refine ⟨fun hrx => ⟨?_, congrArg _ (receive_hunting hrx)⟩, fun bytes hrx => ⟨?_, fun he => ?_, ?_, ?_, ?_, ?_⟩⟩
  · rw [gapExpired, hrx]
  · rw [gapExpired, hrx]
    rfl
  · rw [receive_parity hrx he]
    cases stopBit <;> simp [discardFrame, LinkFlags.mark]
  · rintro he rfl
    rw [receive_framing hrx he]
    rfl
  · rintro he rfl rfl
    rw [receive_field hrx he]
    rfl
  · rintro low he rfl rfl
    rw [receive_field hrx he]
    exact congrArg _ (takeField_len low b)
  · rintro low high fields len he rfl rfl hlen h2 h1024
    rw [receive_field hrx he]
    refine ⟨fun hfields => congrArg _ (takeField_within hlen h2 h1024 (by simpa using hfields)), ?_⟩
    rintro kind tag check0 payload sum rfl hpayload rfl
    have hlist : low :: high :: (kind :: tag :: payload ++ [check0]) ++ [b] = low :: high :: kind :: tag :: payload ++ [check0, b] := by
      simp
    rw [hlist, takeField_end hlen h1024 hpayload, checkSum_body]
    exact ⟨fun hsum => by rw [if_pos hsum]; rfl, fun hsum => by rw [if_neg hsum]; rfl⟩

/-! ### A frame sent byte by byte (R3, R5) -/

theorem receiveBytes_cons {s : State} (h : s.resetLow = false) (b : Byte) (rest : List Byte) :
    receiveBytes (b :: rest) s = receiveBytes rest (receive b (parityOf b) true s) := by
  rw [receiveBytes, exec_rxByte h]

/-- The block with the receiver assembling a frame, the bytes after SYNC so far in hand. -/
def State.inFrame (s : State) (bytes : List Byte) : State := { s with rx := .assembling bytes }

/-- A byte within a frame is taken as the next field. -/
theorem receiveBytes_field {s : State} (h : s.resetLow = false) (bytes : List Byte) (b : Byte) (rest : List Byte) :
    receiveBytes (b :: rest) (s.inFrame bytes) = receiveBytes rest (takeField (bytes ++ [b]) (s.inFrame bytes)) := by
  rw [receiveBytes_cons (s := s.inFrame bytes) h, receive_field (bytes := bytes) rfl ((evenOnes_iff b _).mpr rfl)]

/-- The bytes before the second CHECK byte are all taken. -/
theorem receiveBytes_within {s : State} {low high : Byte} {len : Nat} (h : s.resetLow = false) (hlen : len = low.toNat + 256 * high.toNat)
    (h2 : 2 ≤ len) (h1024 : len ≤ 1024) (more rest fields : List Byte) (hroom : fields.length + more.length < len + 2) :
    receiveBytes (more ++ rest) (s.inFrame (low :: high :: fields)) = receiveBytes rest (s.inFrame (low :: high :: fields ++ more)) := by
  induction more generalizing fields with
  | nil => rw [List.nil_append, List.append_nil]
  | cons b more ih =>
    rw [List.length_cons] at hroom
    have htaken : takeField (low :: high :: fields ++ [b]) (s.inFrame (low :: high :: fields)) =
        s.inFrame (low :: high :: (fields ++ [b])) :=
      takeField_within hlen h2 h1024 (by simp; omega)
    rw [List.cons_append, receiveBytes_field h, htaken, ih (fields ++ [b]) (by simp; omega)]
    simp

/-- A frame with its LEN and its CHECK right, sent to a hunting receiver, is offered to the inbound buffer. -/
theorem receiveBytes_frame {s : State} {low high kind tag check0 check1 : Byte} {payload : List Byte} (h : s.resetLow = false)
    (hrx : s.rx = .hunting) (hpayload : payload.length ≤ 1022) (hlen : payload.length + 2 = low.toNat + 256 * high.toNat)
    (hcheck : check0.toNat + 256 * check1.toNat = checkSum (low :: high :: kind :: tag :: payload)) :
    receiveBytes (Config.sync :: low :: high :: ((kind :: tag :: payload ++ [check0]) ++ [check1])) s =
      offerFrame ⟨kind, tag, payload⟩ s := by
  have hsync : receive Config.sync (parityOf Config.sync) true s = s.inFrame [] := by
    rw [receive_hunting hrx, if_pos ⟨rfl, (evenOnes_iff _ _).mpr rfl, rfl⟩]
    rfl
  have hfirst : takeField [low] (s.inFrame []) = s.inFrame [low] := takeField_first
  have hsecond : takeField [low, high] (s.inFrame [low]) = s.inFrame [low, high] :=
    takeField_within (fields := []) hlen (by omega) (by omega) (Nat.succ_pos _)
  have hlist : [low, high] ++ (kind :: tag :: payload ++ [check0]) ++ [check1] =
      low :: high :: kind :: tag :: payload ++ [check0, check1] := by simp
  have hend (bytes : List Byte) : takeField (low :: high :: kind :: tag :: payload ++ [check0, check1]) (s.inFrame bytes) =
      offerFrame ⟨kind, tag, payload⟩ s := by
    rw [takeField_end hlen (by omega) rfl, if_pos hcheck]
    rfl
  calc receiveBytes (Config.sync :: low :: high :: ((kind :: tag :: payload ++ [check0]) ++ [check1])) s
      = receiveBytes (low :: high :: ((kind :: tag :: payload ++ [check0]) ++ [check1])) (s.inFrame []) := by
        rw [receiveBytes_cons h, hsync]
    _ = receiveBytes ((kind :: tag :: payload ++ [check0]) ++ [check1]) (s.inFrame [low, high]) := by
        rw [receiveBytes_field h, List.nil_append, hfirst, receiveBytes_field h, List.singleton_append, hsecond]
    _ = receiveBytes [check1] (s.inFrame ([low, high] ++ (kind :: tag :: payload ++ [check0]))) :=
        receiveBytes_within h hlen (by omega) (by omega) _ _ _ (by simp)
    _ = offerFrame ⟨kind, tag, payload⟩ s := by rw [receiveBytes_field h, hlist, hend, receiveBytes]

/-- The bytes of a frame, field by field (spec/01, Frame). -/
theorem frameBytes_eq (f : Frame) :
    frameBytes f =
      Config.sync :: BitVec.ofNat 8 (f.payload.length + 2) :: BitVec.ofNat 8 ((f.payload.length + 2) / 256) ::
        ((f.kind :: f.tag :: f.payload ++ [BitVec.ofNat 8 (checkSum (frameBody f))]) ++
          [BitVec.ofNat 8 (checkSum (frameBody f) / 256)]) := by
  simp [frameBytes, frameBody, leBytes]

/-- Settles O5: the LEN and the CHECK of a frame's bytes are right (`leBytes_two_toNat`), so the frame is offered as it was. -/
theorem frameSentIsFrameReceived : Obligations.FrameSentIsFrameReceived := by
  intro f s hlow hrx hpayload
  rw [frameBytes_eq, receiveBytes_frame hlow hrx hpayload, offerFrame_eq, ← hrx]
  · rw [leBytes_two_toNat]
    omega
  · rw [leBytes_two_toNat]
    exact Nat.mod_mod _ _

end Sys2Proof.Machine
end


section
/-! SUPPORT. Why the lamps and the waiting set do not follow their inputs from every state that meets the premises of
`EveryCommandKeepsLampsAndWaitingSet`: `TablesKeyed` says nothing of the slot table, and a change in place of a slot record in a table that
is not in rising order adds a record. -/

namespace Sys2Proof.Machine

open Sys2Proof

/-! ### A slot table out of order -/

/-- The card of the job. -/
def staleCard : CardIdentity := ⟨64, false, 0, [], 0⟩

/-- The drive that the job copies to. -/
def staleDrive : DestIdentity := ⟨1, []⟩

/-- A READING job with one committed clip still to read and a quota of three slots. -/
def staleJob : Job :=
  { state := .reading, binding := some 0, identity := staleCard, destSet := 1, destIds := #v[some staleDrive, none, none, none],
    required := 1, sourceVerify := false, quota := 3, intakeFinal := false, paused := false, order := [0], cursor := 0, recopy := [],
    softHold := 0, hardHold := 0, tasksIssued := false, clearable := false, attention := false, holdChanged := false }

/-- Its clip of one block, committed. -/
def staleClip : Clip :=
  { job := 0, label := [], length := 1, source := [⟨0, 1⟩], targets := #v[[⟨0, 1⟩], [], [], []], sourceState := .queued, nextBlock := 0,
    acc := Acc.start, digest := 0, copies := #v[⟨.pending, 0, false, .none⟩, Copy.fresh, Copy.fresh, Copy.fresh], sv := .off,
    recopySet := 0, passMembers := 0 }

/-- A STAGED slot of the job. -/
def staleSlot : Slot := ⟨true, 0, 0, 0, 1, 1, false, 0⟩

/-- The job holds slots 5 and 3, listed in that order, and its reader waits for the third that its quota allows; destination 0 is about to
write slot 3. -/
def staleState : State :=
  { State.reset with
    ports := State.reset.ports.set 0
      { CardPort.reset with present := true, state := .bound, identity := some staleCard, job := some 0, lamp := .amber }
    jobs := [(0, staleJob)], clips := [(0, staleClip)], slots := [(5, staleSlot), (3, staleSlot)]
    readers := State.reset.readers.set 0 { Reader.reset with waiting := true }
    dests := State.reset.dests.set 0
      { DestPort.reset with linkUp := true, state := .online, identity := some staleDrive, writeQueue := [3] } }

/-- The block after destination 0 has started to write slot 3. -/
def staleNext : State := decideOp 0 staleState

theorem staleState_linksOwned : staleState.LinksOwned := by
  intro p r hr
  have hlink : ∀ q : Port, (staleState.port q).request = none := by decide +kernel
  rw [hlink p] at hr
  cases hr

/-- The write's start stores a second record of slot 3, so the job counts as holding three slots, its quota; the reader still waits, though its
start condition has ceased to hold. -/
theorem staleNext_waiting : (staleNext.reader 0).waiting = true ∧ startCondition staleNext 0 = false := by decide +kernel

/-- Refutes O55: nothing among the premises keeps the slot table in rising order, and in `staleState`, where it is not, the start of a write
changes the number of slots that the job holds without the waiting set being taken afresh. -/
theorem not_everyCommandKeepsLampsAndWaitingSet : ¬ Obligations.EveryCommandKeepsLampsAndWaitingSet := by
  intro h
  have hexec : exec (.destArbiterDecide 0) staleState = .next staleNext := rfl
  have htables : staleState.TablesKeyed := by decide +kernel
  have howned : staleState.WorkOwned := by decide +kernel
  have hinputs : staleState.InputsFollowed := by decide +kernel
  obtain ⟨_, hfollow, _⟩ := h _ _ _ hexec htables howned staleState_linksOwned hinputs
  obtain ⟨_, hwaiting, _⟩ := hfollow 0
  obtain ⟨hwaits, hstart⟩ := staleNext_waiting
  rw [hwaits, hstart] at hwaiting
  cases hwaiting

end Sys2Proof.Machine
end

section
/-! SUPPORT. The card ports and the Survey Unit (spec/02): presence and settling, held and confirmed ERRORs, the slot lamps, CARD_SURVEY and
the survey's steps. -/

namespace Sys2Proof.Machine

-- One theorem at a time: checking them all at once needs more threads than the sandbox gives.
set_option Elab.async false

open Sys2Proof

variable {s : State} {p : Port}

/-! ### Rules of the shared operations -/

/-- The second of two changes of one card port stands. -/
@[simp] theorem setPort_setPort (s : State) (p : Port) (x y : CardPort) : setPort (setPort s p x) p y = setPort s p y := by
  simp [setPort]

/-- Changes of a card port and of a reader commute. -/
theorem setPort_setReader (s : State) (p q : Port) (x : CardPort) (y : Reader) :
    setPort (setReader s q y) p x = setReader (setPort s p x) q y := rfl

/-- While RESET is not held low a command does what it does (R1). -/
theorem awake_of_high (h : s.resetLow = false) (f : State → State) : awake f s = f s := by simp [awake, h]

/-- The survey in progress is the one on a port exactly if its port is that one. -/
theorem survey_filter_eq_some {v : Survey} (hs : s.survey = some v) (hp : v.port = p) :
    s.survey.filter (fun v => decide (v.port = p)) = some v := by
  simp [hs, hp]

theorem survey_filter_eq_none (h : s.survey.any (fun v => decide (v.port = p)) = false) :
    s.survey.filter (fun v => decide (v.port = p)) = none := by
  cases hs : s.survey <;> simp_all

/-! ### What takes a free adapter link (R15) -/

/-- An occupied link takes nothing. -/
theorem cardKick_occupied {r : CardRequest} (h : (s.port p).request = some r) : cardKick p s = s := by
  simp [cardKick, h]

/-- A free link takes the request of the survey on its port. -/
theorem cardKick_survey {v : Survey} (h : (s.port p).request = none) (hs : s.survey = some v) (hp : v.port = p) :
    cardKick p s = setPort s p { s.port p with request := some ⟨surveyAsk v, .survey, s.cfg.cardTimeoutMs, false⟩ } := by
  rw [cardKick, h, survey_filter_eq_some hs hp]
  rfl

/-- With no survey on its port a free link takes the chunk read's next request. -/
theorem cardKick_chunk {c : ChunkRead} {k : Clip} (h : (s.port p).request = none)
    (hs : s.survey.any (fun v => decide (v.port = p)) = false) (hc : (s.reader p).chunk = some c) (hk : s.clip c.clip = some k) :
    cardKick p s =
      setPort s p
        { s.port p with
          request := some ⟨.read (requestRun k.source (c.first + c.done) (c.count - c.done)).1
            (requestRun k.source (c.first + c.done) (c.count - c.done)).2, .chunk, s.cfg.cardTimeoutMs, false⟩ } := by
  simp only [cardKick, h, survey_filter_eq_none hs, hc, chunkAsk, hk]
  rfl

/-- With neither a survey nor a chunk read on its port a free link takes the segment's next request. -/
theorem cardKick_segment {g : Segment} {k : Clip} (h : (s.port p).request = none)
    (hs : s.survey.any (fun v => decide (v.port = p)) = false) (hc : (s.reader p).chunk = none) (hg : (s.reader p).segment = some g)
    (hk : engineClip s g.engine = some k) :
    cardKick p s =
      setPort s p
        { s.port p with
          request := some ⟨.read (requestRun k.source (g.first + g.done) (g.count - g.done)).1
            (requestRun k.source (g.first + g.done) (g.count - g.done)).2, .segment, s.cfg.cardTimeoutMs, false⟩ } := by
  simp only [cardKick, h, survey_filter_eq_none hs, hc, hg, segmentAsk, hk]
  rfl

/-- With nothing on its port a free link stays free. -/
theorem cardKick_idle (hs : s.survey.any (fun v => decide (v.port = p)) = false) (hc : (s.reader p).chunk = none)
    (hg : (s.reader p).segment = none) : cardKick p s = s := by
  unfold cardKick
  split
  · rfl
  · simp [survey_filter_eq_none hs, hc, hg]

/-! ### Presence and settling (R19, R25) -/

/-- A port joins the survey queue unless it is there or is being surveyed (R25). -/
theorem joinSurvey_eq (p : Port) (s : State) :
    joinSurvey p s =
      { s with surveyQueue :=
          if p ∉ s.surveyQueue ∧ s.survey.any (fun v => decide (v.port = p)) = false then s.surveyQueue ++ [p] else s.surveyQueue } := by
  unfold joinSurvey
  split
  next h => rw [if_neg (by rintro ⟨hq, hv⟩; simp_all)]
  next h => rw [if_pos (by simpa [not_or] using h)]

/-- A survey queue that is stored as it is makes no change. -/
theorem surveyQueue_eta {queue : List Port} (h : queue = s.surveyQueue) : { s with surveyQueue := queue } = s := by rw [h]

/-- Settles O14: `CardPort.appear` and `CardPort.drop` by the port's state, and `joinSurvey_eq` for a card that has settled. -/
theorem presenceAndSettling : Obligations.PresenceAndSettling := by
  refine ⟨fun p s hlow => ⟨fun hp => ⟨?_, ?_⟩, fun hp => ⟨?_, ?_⟩⟩, fun p s ms hlow hstate hsettle => ?_⟩
  · simp [exec, execPresenceDrop, hlow, hp]
  · cases hs : (s.port p).state <;> simp [exec, execPresenceAppear, hlow, hp, CardPort.appear, hs]
  · simp [exec, execPresenceAppear, hlow, hp]
  · cases hs : (s.port p).state <;> simp [exec, execPresenceDrop, hlow, hp, CardPort.drop, hs]
  · have he : exec (.settleTimerExpiry p) s = .next (settled p s) := congrArg _ (awake_of_high hlow _)
    let u := notify (.cardInserted p) (setPort s p { s.port p with state := .present, settle := none })
    refine ⟨u, rfl, ?_⟩
    rw [he, settled, if_pos ⟨hstate, by simp [hsettle]⟩]
    change Host.Outcome.next (refresh (if s.cfg.autoSurvey = 1 then joinSurvey p u else u)) = _
    by_cases hauto : s.cfg.autoSurvey = 1
    · simp [joinSurvey_eq, hauto, u]
    · rw [if_neg hauto, if_neg fun h => hauto h.1]
      exact congrArg _ (congrArg refresh (surveyQueue_eta (s := u) (notify_surveyQueue _ _).symm).symm)

/-! ### Held ERRORs and abandoned requests (R15 to R17) -/

/-- Settles O16: what an answer or a timeout does is decided by the owner of the request. -/
theorem adapterErrorsHeldAndAbandonedLinksFreed : Obligations.AdapterErrorsHeldAndAbandonedLinksFreed := by
  intro p s r hlow hr
  have hanswer : exec (.adapterErrorAnswer p) s = .next (holdError p s) := congrArg _ (awake_of_high hlow _)
  have htimeout : exec (.cardRequestTimeout p) s = .next (cardTimedOut p s) := congrArg _ (awake_of_high hlow _)
  have habandoned : exec (.cardAbandonedAnswer p) s = .next (endAbandoned p s) := congrArg _ (awake_of_high hlow _)
  refine ⟨fun hown => ?_, fun job hown => ?_⟩
  · have hheld : holdError p s = setPort s p { s.port p with request := some { r with errorHeld := true } } := by
      rw [holdError, hr]
      cases ho : r.owner with
      | abandoned job => exact absurd ho (hown job)
      | survey | chunk | segment => simp [ho]
    have hlate : cardTimedOut p s = holdError p s := by
      rw [cardTimedOut, hr]
      cases ho : r.owner with
      | abandoned job => exact absurd ho (hown job)
      | survey | chunk | segment => simp [ho]
    rw [hanswer, htimeout, hlate, hheld]
    exact ⟨rfl, rfl⟩
  · let u : State := setPort s p { s.port p with request := none }
    have hended : endAbandoned p s = refresh (closeJobs job.toList (cardKick p u)) := by simp [endAbandoned, hr, hown, clearCard, u]
    have hlate : cardTimedOut p s = endAbandoned p s := by simp [cardTimedOut, hr, hown]
    have hport : ((refresh (closeJobs job.toList (cardKick p u))).port p).request = ((cardKick p u).port p).request := by
      obtain ⟨_, _, _, _, _, _, _, _, hsettled⟩ := closeJobs_settles (cardKick p u) job.toList
      rw [refresh_port, hsettled]
      rfl
    have hfree : (u.port p).request = none := by simp [u]
    refine ⟨_, habandoned, by rw [htimeout, hlate], hended, ?_, ?_⟩
    · intro hs hc hg
      rw [hended, hport, cardKick_idle (s := u) hs hc hg, hfree]
    · intro v hs hp hstep
      rw [hended, hport, cardKick_survey (s := u) hfree hs hp]
      simp [surveyAsk, hstep, u]

/-- The block once port `p`'s held ERROR is confirmed: the request is over and the read-error flag is set (R17, R18). -/
def confirmed (p : Port) (s : State) : State := setPort s p { s.port p with request := none, readError := true }

@[simp] theorem confirmed_port (p : Port) (s : State) :
    (confirmed p s).port p = { s.port p with request := none, readError := true } := setPort_port_self s p _

@[simp] theorem confirmed_reader (p q : Port) (s : State) : (confirmed p s).reader q = s.reader q := rfl

/-- A confirmed ERROR ends its request, sets the read-error flag and is delivered to the block that issued it (R17, R18). -/
theorem exec_errorConfirm {r : CardRequest} (hlow : s.resetLow = false) (hr : (s.port p).request = some r) (hheld : r.errorHeld = true)
    (hp : (s.port p).present = true) :
    exec (.errorConfirm p) s = .next (deliverError p r.owner (confirmed p s)) := by
  have he : exec (.errorConfirm p) s = .next (confirmError p s) := congrArg _ (awake_of_high hlow _)
  rw [he]
  simp [confirmError, hr, hheld, hp, confirmed]

/-- An ERROR delivered to a survey with retries left has its step's request sent again (R27, R28). -/
theorem surveyError_retried {v : Survey} (hs : s.survey = some v) (hretries : v.retries < 3) :
    surveyError p s = cardKick p { s with survey := some { v with retries := v.retries + 1 } } := by
  rw [surveyError, hs]
  exact if_pos hretries

/-- An ERROR delivered to a chunk read with retries left has its request sent again (R73). -/
theorem deliverError_chunk_retried {c : ChunkRead} (hc : (s.reader p).chunk = some c) (hcancelled : c.cancelled = false)
    (hretries : (s.reader p).retries < 3) :
    deliverError p .chunk s = cardKick p (setReader s p { s.reader p with retries := (s.reader p).retries + 1 }) := by
  rw [deliverError, hc]
  simp [chunkError, hcancelled, Config.cardRetries, hretries]

/-- An ERROR delivered to a segment with retries left has its request sent again (R85). -/
theorem deliverError_segment_retried {g : Segment} (hg : (s.reader p).segment = some g) (hcancelled : g.cancelled = false)
    (hretries : (s.reader p).retries < 3) :
    deliverError p .segment s = cardKick p (setReader s p { s.reader p with retries := (s.reader p).retries + 1 }) := by
  rw [deliverError, hg]
  simp [segmentError, hcancelled, Config.cardRetries, hretries]

/-- Settles O17: a delivered ERROR with retries left kicks the free link, and what waits there is the request it came from. -/
theorem confirmedErrorIsRetried : Obligations.ConfirmedErrorIsRetried := by
  intro p s r hlow hr
  refine ⟨fun hno => ?_, fun hp hheld => ⟨fun v hown hs hv hretries => ?_, fun c k hown hs hc hcancelled hretries hk => ?_,
    fun g k hown hs hc hg hcancelled hretries hk => ?_⟩⟩
  · have he : exec (.errorConfirm p) s = .next (confirmError p s) := congrArg _ (awake_of_high hlow _)
    rw [he, confirmError, hr]
    rcases hno with h | h <;> simp [h]
  · rw [exec_errorConfirm hlow hr hheld hp, hown, deliverError, surveyError_retried (s := confirmed p s) hs hretries]
    refine congrArg _ (Eq.trans (cardKick_survey ?_ rfl ?_) ?_)
    · exact congrArg CardPort.request (confirmed_port p s)
    · exact hv
    · cases v.step <;> simp [confirmed, surveyAsk, setPort, State.port, Config.surveyBlocks]
  · rw [exec_errorConfirm hlow hr hheld hp, hown, deliverError_chunk_retried (s := confirmed p s) hc hcancelled hretries]
    refine congrArg _ (Eq.trans (cardKick_chunk (c := c) (k := k) ?_ ?_ ?_ ?_) ?_)
    · simp
    · exact hs
    · simpa using hc
    · exact hk
    · simp [setPort_setReader, confirmed]
  · rw [exec_errorConfirm hlow hr hheld hp, hown, deliverError_segment_retried (s := confirmed p s) hg hcancelled hretries]
    refine congrArg _ (Eq.trans (cardKick_segment (g := g) (k := k) ?_ ?_ ?_ ?_ ?_) ?_)
    · simp
    · exact hs
    · simpa using hc
    · simpa using hg
    · exact hk
    · simp [setPort_setReader, confirmed]

/-! ### Lamps (R23, R24) -/

/-- Settles O19: `lampOf` is R23's table, read row by row; `refresh` and `lampLines` are R24. -/
theorem slotLampFollowsTheTable : Obligations.SlotLampFollowsTheTable := by
  refine ⟨fun s p job hjob => ?_, fun s p => ?_, fun s p hlow => ?_, fun lit => ⟨rfl, rfl, rfl, rfl, rfl⟩⟩
  · subst hjob
    cases hj : (s.port p).job.bind s.job with
    | none =>
      simp only [lampOf, hj]
      simp +contextual
    | some j =>
      simp only [lampOf, hj, Job.held]
      simp +contextual
  · rw [refresh_port]
    refine ⟨rfl, fun hnow hbefore => ?_⟩
    simp [CardPort.withLamp, hnow, hbefore]
  · have he : exec (.lampBlinkToggle p) s = .next (blinkToggle p s) := congrArg _ (awake_of_high hlow _)
    rw [he, blinkToggle]

/-! ### CARD_SURVEY (R22) -/

/-- A request with a one-byte payload is answered by its owner. -/
theorem serve_one {f : Frame} {rest : List Frame} {kind b : Byte} {owner : Nat → State → Reply × State} (ho : s.Offers f rest)
    (hk : f.kind = kind) (hp : f.payload = [b]) :
    serve kind readOne owner s =
      sendFrame (replyFrame f (owner b.toNat (s.taken f rest)).1) (owner b.toNat (s.taken f rest)).2 :=
  serve_taken ho hk (by rw [hp]; rfl)

/-- A number that is a card port's names that port. -/
theorem portOf_val (p : Port) : portOf p.val = some p := by simp [portOf]

theorem portOf_eq_none {n : Nat} (h : 8 ≤ n) : portOf n = none := by simp [portOf]; omega

/-- Settles O20: CARD_SURVEY's owner by the port's state. -/
theorem cardSurveyTable : Obligations.CardSurveyTable := by
  intro s f rest b ho hk hp
  have he : exec .cardSurvey s = .next (serve 0x08 readOne cardSurvey s) := rfl
  rw [he, serve_one ho hk hp]
  have hreply (st : Status) : replyFrame f (statusOnly st) = ⟨0x88, f.tag, [BitVec.ofNat 8 st.code]⟩ := by
    rw [replyFrame, hk]
    rfl
  refine ⟨fun hb => ?_, fun p hpb => ?_⟩
  · rw [cardSurvey, portOf_eq_none hb]
    exact congrArg (fun r => Host.Outcome.next (sendFrame r (s.taken f rest))) (hreply .badHandle)
  · rw [← hpb, cardSurvey, portOf_val]
    have hport : (s.taken f rest).port p = s.port p := rfl
    refine ⟨fun hs => ?_, fun hs => ?_, fun hs => ?_, fun hs hsurvey => ?_⟩
    · rcases hs with hs | hs <;> simp only [hport, hs, hreply] <;> rfl
    · rcases hs with hs | hs <;> simp only [hport, hs, hreply] <;> rfl
    · simp only [hport, hs, hreply]
      rfl
    · have hjoin : joinSurvey p (s.taken f rest) =
          { s.taken f rest with surveyQueue := if p ∈ s.surveyQueue then s.surveyQueue else s.surveyQueue ++ [p] } := by
        rw [joinSurvey_eq]
        by_cases hq : p ∈ s.surveyQueue <;> simp [State.taken, hq, hsurvey]
      rcases hs with hs | hs | hs <;> simp only [hport, hs, hreply, hjoin] <;> rfl

/-! ### The survey's IDENTIFY (R26, R27, R29) -/

/-- The survey's answer is awaited while its step's request is in flight. -/
theorem surveyAwaits_of_request {v : Survey} {ms : Nat} (hr : (s.port v.port).request = some ⟨surveyAsk v, .survey, ms, false⟩) :
    surveyAwaits s v = true := by
  simp [surveyAwaits, hr]

/-- A survey that fails at an answer leaves its port in FAULT with a free link (R29). -/
theorem failSurvey_clearCard (p : Port) (cause : SurveyCause) (s : State) :
    failSurvey p cause (clearCard p s) =
      refresh (notify (.surveyFailed p cause) (setPort { s with survey := none } p
        { s.port p with request := none, state := .fault, identity := none })) := by
  simp [failSurvey, clearCard, setPort, State.port]

/-- The three outcomes of an IDENTIFY answer that is awaited (R27, R29). -/
theorem surveyIdentified_eq {v : Survey} {ms : Nat} (hs : s.survey = some v) (hstep : v.step = .identify)
    (hr : (s.port v.port).request = some ⟨.identify, .survey, ms, false⟩) (answer : AdapterIdentity) :
    surveyIdentified answer s =
      if 2 ^ 32 < answer.capacity ∨ 24 < answer.label.length then failSurvey v.port .adapter (clearCard v.port s)
      else if answer.capacity < 64 then failSurvey v.port .tooSmall (clearCard v.port s)
      else cardKick v.port { clearCard v.port s with survey := some ⟨v.port, .read answer, 0⟩ } := by
  have hask : surveyAsk v = .identify := by rw [surveyAsk, hstep]
  have hawaits : surveyAwaits s v = true := surveyAwaits_of_request (by rw [hr, hask])
  rw [surveyIdentified, hs]
  exact if_pos ⟨hstep, hawaits⟩

/-- Settles O21: the queue's head is kicked with its survey in progress, and an awaited answer has one of three outcomes. -/
theorem surveyIdentifiesThenReads : Obligations.SurveyIdentifiesThenReads := by
  refine ⟨fun s p queue hlow hs hq => ?_, fun s v ms capacity writeProtect adapterType label hlow hs hstep hr => ?_⟩
  · have he : exec .surveyStart s = .next (startSurvey s) := congrArg _ (awake_of_high hlow _)
    rw [he, startSurvey, hs, hq]
    refine congrArg _ (congrArg refresh ?_)
    cases hr : (s.port p).request with
    | some r =>
      refine Eq.trans (cardKick_occupied (r := r) ?_) ?_
      · rw [setPort_port_self]
        exact hr
      · simp [hr]
    | none =>
      refine Eq.trans (cardKick_survey ?_ rfl rfl) ?_
      · rw [setPort_port_self]
        exact hr
      · simp [surveyAsk, setPort, State.port]
  · have he : exec (.surveyIdentifyAnswer capacity writeProtect adapterType label) s =
        .next (surveyIdentified ⟨capacity, writeProtect, adapterType, label⟩ s) := congrArg _ (awake_of_high hlow _)
    rw [he, surveyIdentified_eq hs hstep hr]
    refine ⟨fun hlarge hheld hlabel => ?_, fun hbad => ?_, fun hsmall hlabel => ?_⟩
    · rw [if_neg (by simp only; omega), if_neg (by simp only; omega)]
      refine congrArg _ (Eq.trans (cardKick_survey ?_ rfl rfl) ?_)
      · exact congrArg CardPort.request (setPort_port_self s v.port _)
      · simp [surveyAsk, clearCard, setPort, State.port, Config.surveyBlocks]
    · rw [if_pos hbad, failSurvey_clearCard]
    · rw [if_neg (by simp only; omega), if_pos hsmall, failSurvey_clearCard]

/-! ### Records found by their number -/

/-- The record read under a number is listed under it. -/
theorem mem_of_lookup {α : Type} {t : Table α} {k : Nat} {a : α} (h : lookup t k = some a) : (k, a) ∈ t := by
  induction t with
  | nil => simp [lookup] at h
  | cons e rest ih =>
    obtain ⟨i, b⟩ := e
    by_cases hi : i = k
    · simp_all [lookup]
    · simp only [lookup, if_neg hi] at h
      exact List.mem_cons_of_mem _ (ih h)

/-- In a keyed table a listed record is the one read under its number. -/
theorem lookup_of_mem {α : Type} {t : Table α} {k : Nat} {a : α} (hkeys : (t.map Prod.fst).Pairwise (· < ·)) (h : (k, a) ∈ t) :
    lookup t k = some a := by
  induction t with
  | nil => simp at h
  | cons e rest ih =>
    obtain ⟨i, b⟩ := e
    rw [List.map_cons, List.pairwise_cons] at hkeys
    rcases List.mem_cons.mp h with heq | hin
    · obtain ⟨rfl, rfl⟩ := Prod.mk.inj heq
      simp [lookup]
    · have hlt : i < k := hkeys.1 k (List.mem_map_of_mem hin)
      rw [lookup, if_neg (by omega), ih hkeys.2 hin]

/-! ### Notices that have been told -/

/-- The missed-kind set only grows as notices are lost (R166). -/
theorem missKind_keeps {missed : BitVec 32} {i : Nat} (h : missed.getLsbD i = true) (m : Notice) : (missKind missed m).getLsbD i = true := by
  simp only [missKind, BitVec.getLsbD_or, h, Bool.true_or]

/-- A told notice stays told when the line takes a frame. -/
theorem pump_keeps_told {n : Notice} (h : s.Told n) : (pump s).Told n := by
  rcases h with hwaits | hsends | hmissed
  · unfold pump
    split
    · exact .inl hwaits
    · split
      · exact .inl hwaits
      · split
        next m rest hq =>
          rw [hq, List.mem_cons] at hwaits
          rcases hwaits with rfl | hin
          · exact .inr (.inl rfl)
          · exact .inl hin
        · exact .inl hwaits
  · rw [pump_busy s (by simp [hsends])]
    exact .inr (.inl hsends)
  · exact .inr (.inr (by rwa [pump_missed]))

/-- A told notice stays told when another is queued or lost. -/
theorem notify_keeps_told {n : Notice} (h : s.Told n) (m : Notice) : (notify m s).Told n := by
  refine pump_keeps_told ?_
  rcases enqueue_cases s m with ⟨_, he⟩ | ⟨_, he⟩ <;> rw [he]
  · exact h.imp (fun hin => List.mem_append_left _ hin) id
  · exact h.imp id (.imp id fun hmissed => missKind_keeps hmissed m)

/-! ### Survey completion (R28, R31, R93) -/

/-- The fingerprint is the digest of the card's first 32768 bytes, those beyond the end of the data 0 (R93, assumption log 5). -/
theorem fingerprintOf_eq {data : List Byte} (h : data.length ≤ 32768) :
    fingerprintOf data = digestOf (foldBytes ⟨1, 0⟩ (data ++ List.replicate (32768 - data.length) 0)) := by
  have htake : data.take 32768 = data := List.take_of_length_le h
  change digestOf (foldStream Acc.start data 32768) = _
  rw [foldStream_eq start_reduced, htake]
  rfl

/-- Job `j` is card-ABSENT and of an equal card (R31). -/
def Job.awaitsCard (j : Job) (id : CardIdentity) : Prop :=
  j.state ≠ .closing ∧ j.binding = none ∧ j.identity.fingerprint = id.fingerprint ∧ j.identity.capacity = id.capacity

/-- The job that `absentJob` gives is a card-ABSENT one of an equal card, and it gives one if there is one. -/
theorem absentJob_cases (hkeys : (s.jobs.map Prod.fst).Pairwise (· < ·)) (id : CardIdentity) :
    (∃ h j, absentJob s id = some h ∧ s.job h = some j ∧ j.awaitsCard id) ∨
      (absentJob s id = none ∧ ∀ h j, s.job h = some j → ¬ j.awaitsCard id) := by
  let test (e : Nat × Job) : Bool := decide (e.2.state ≠ .closing) && e.2.binding.isNone && sameCard e.2.identity id
  have htest (e : Nat × Job) : test e = true ↔ e.2.awaitsCard id := by simp [test, sameCard, Job.awaitsCard, and_assoc]
  have habsent : absentJob s id = (s.jobs.find? test).map Prod.fst := rfl
  cases hfind : s.jobs.find? test with
  | some e =>
    obtain ⟨h, j⟩ := e
    have hjob : s.job h = some j := lookup_of_mem hkeys (List.mem_of_find?_eq_some hfind)
    exact .inl ⟨h, j, by rw [habsent, hfind]; rfl, hjob, (htest (h, j)).mp (List.find?_some hfind)⟩
  | none =>
    refine .inr ⟨by rw [habsent, hfind]; rfl, fun h j hjob haw => ?_⟩
    exact absurd ((htest (h, j)).mpr haw) (by simpa using List.find?_eq_none.mp hfind _ (mem_of_lookup hjob))

/-- The block once the survey on port `p` has recorded and told the card's identity (R31). -/
def cardIdentified (p : Port) (id : CardIdentity) (s : State) : State :=
  notify (.cardIdentified p id) (setPort { s with survey := none } p
    { s.port p with request := none, state := .identified, identity := some id })

@[simp] theorem cardIdentified_port (p : Port) (id : CardIdentity) (s : State) :
    (cardIdentified p id s).port p = { s.port p with request := none, state := .identified, identity := some id } := by
  simp [cardIdentified]

@[simp] theorem cardIdentified_jobs (p : Port) (id : CardIdentity) (s : State) : (cardIdentified p id s).jobs = s.jobs := by
  simp [cardIdentified]

@[simp] theorem cardIdentified_job (p : Port) (id : CardIdentity) (s : State) (h : Nat) : (cardIdentified p id s).job h = s.job h := by
  simp only [State.job, cardIdentified_jobs]

theorem cardIdentified_survey (p : Port) (id : CardIdentity) (s : State) : (cardIdentified p id s).survey = none := by
  simp [cardIdentified]

theorem cardIdentified_known (p : Port) (id : CardIdentity) (s : State) : (cardIdentified p id s).known = s.known := by
  simp [cardIdentified]

theorem cardIdentified_clips (p : Port) (id : CardIdentity) (s : State) : (cardIdentified p id s).clips = s.clips := by
  simp [cardIdentified]

theorem cardIdentified_told (p : Port) (id : CardIdentity) (s : State) : (cardIdentified p id s).Told (.cardIdentified p id) :=
  notify_told _ _

/-- The READ's answer completes the survey (R28, R31). -/
theorem exec_surveyReadDone {v : Survey} {a : AdapterIdentity} {ms : Nat} (hlow : s.resetLow = false) (hs : s.survey = some v)
    (hstep : v.step = .read a) (hr : (s.port v.port).request = some ⟨.read 0 64, .survey, ms, false⟩) (data : List Byte) :
    exec (.surveyReadDone data) s =
      .next (completeSurvey v.port ⟨a.capacity, a.writeProtect, a.adapterType, a.label, fingerprintOf data⟩ (clearCard v.port s)) := by
  have he : exec (.surveyReadDone data) s = .next (surveyRead data s) := congrArg _ (awake_of_high hlow _)
  have hask : surveyAsk v = .read 0 64 := by rw [surveyAsk, hstep]; rfl
  have hawaits : surveyAwaits s v = true := surveyAwaits_of_request (by rw [hr, hask])
  rw [he, surveyRead, hs]
  simp only [hstep, hawaits, if_true]

/-- Survey completion records and tells the identity first (R31). -/
theorem notify_cardIdentified_clearCard (p : Port) (id : CardIdentity) (s : State) :
    notify (.cardIdentified p id)
      (setPort { clearCard p s with survey := none } p { (clearCard p s).port p with state := .identified, identity := some id }) =
        cardIdentified p id s := by
  simp [cardIdentified, clearCard, setPort, State.port]

/-- Survey completion binds a card-ABSENT job of an equal card again (R31). -/
theorem completeSurvey_rebinds {p : Port} {id : CardIdentity} {h : Nat} (habsent : absentJob s id = some h) :
    completeSurvey p id (clearCard p s) = refresh (notify (.jobRebound h p) (bindJob h p (cardIdentified p id s))) := by
  have hmatch : absentJob (cardIdentified p id s) id = some h := by rwa [absentJob, cardIdentified_jobs]
  rw [completeSurvey, notify_cardIdentified_clearCard, hmatch]

/-- With no such job, survey completion tells a known fingerprint (R31). -/
theorem completeSurvey_unmatched {p : Port} {id : CardIdentity} (habsent : absentJob s id = none) :
    completeSurvey p id (clearCard p s) =
      refresh (if id.fingerprint ∈ s.known then notify (.cardKnown p id.fingerprint) (cardIdentified p id s)
        else cardIdentified p id s) := by
  have hmatch : absentJob (cardIdentified p id s) id = none := by rwa [absentJob, cardIdentified_jobs]
  rw [completeSurvey, notify_cardIdentified_clearCard, hmatch, cardIdentified_known]

/-- What a job's binding to a port changes (R21, R39, R72). -/
theorem bindJob_port (h : Nat) (p : Port) (s : State) : (bindJob h p s).port p = { s.port p with state := .bound, job := some h } := by
  obtain ⟨jobs, he⟩ := modJob_frame s h (fun j => { j with binding := some p })
  rw [bindJob, he]
  simp [State.port, setPort]

theorem bindJob_blocksRead (h : Nat) (p : Port) (s : State) : ((bindJob h p s).reader p).blocksRead = 0 := by
  simp [bindJob]

theorem bindJob_job (h : Nat) (p : Port) (s : State) : (bindJob h p s).job h = (s.job h).map (fun j => { j with binding := some p }) := by
  simp [bindJob, modJob_job]

/-- A job's binding changes job records, card ports and readers alone. -/
theorem bindJob_frame (h : Nat) (p : Port) (s : State) :
    ∃ jobs ports readers, bindJob h p s = { s with jobs := jobs, ports := ports, readers := readers } := by
  obtain ⟨jobs, he⟩ := modJob_frame s h (fun j => { j with binding := some p })
  rw [bindJob, he]
  exact ⟨_, _, _, rfl⟩

/-- Settles O22, by whether a card-ABSENT job of an equal card is found. -/
theorem surveyCompletionIdentifiesOrRebinds : Obligations.SurveyCompletionIdentifiesOrRebinds := by
  intro s v a ms data id hlow ⟨hkeys, _⟩ hs hstep hr hlen hid
  have hid' : id = ⟨a.capacity, a.writeProtect, a.adapterType, a.label, fingerprintOf data⟩ := by rw [hid, fingerprintOf_eq hlen]
  have he := exec_surveyReadDone hlow hs hstep hr data
  rw [← hid'] at he
  have htold := cardIdentified_told v.port id s
  rcases absentJob_cases hkeys id with ⟨h, j, habsent, hjob, haw⟩ | ⟨habsent, hnone⟩
  · rw [completeSurvey_rebinds habsent] at he
    obtain ⟨jobs, ports, readers, hbound⟩ := bindJob_frame h v.port (cardIdentified v.port id s)
    have hport := bindJob_port h v.port (cardIdentified v.port id s)
    refine ⟨_, he, ?_, ?_, ?_, notify_keeps_told (s := bindJob h v.port (cardIdentified v.port id s)) ?_ _, ?_, ?_, ?_, ?_⟩
    · simp [hbound, cardIdentified_survey]
    · simp [refresh_port, hport, CardPort.withLamp]
    · simp [refresh_port, hport, CardPort.withLamp]
    · rw [hbound]
      exact htold
    · simp [hbound, cardIdentified_known]
    · simp [hbound, cardIdentified_clips]
    · intro i k hi hopen habsent' hfinger hcap hunique
      obtain ⟨hst, hb, hf, hc⟩ := haw
      obtain rfl : h = i := hunique h j hjob hst hb hf hc
      obtain rfl : j = k := Option.some.inj (hjob.symm.trans hi)
      refine ⟨?_, ?_, ?_, ?_, notify_told _ _⟩
      · simp [refresh_port, hport, CardPort.withLamp]
      · simp [refresh_port, hport, CardPort.withLamp]
      · simp [bindJob_job, hjob]
      · simp [refresh_reader, bindJob_blocksRead]
    · intro hno
      obtain ⟨hst, hb, hf, hc⟩ := haw
      rcases hno h j hjob with h' | h' | h' | h' <;> contradiction
  · rw [completeSurvey_unmatched habsent] at he
    obtain ⟨w, hw⟩ : ∃ w, w = if id.fingerprint ∈ s.known then notify (.cardKnown v.port id.fingerprint) (cardIdentified v.port id s)
      else cardIdentified v.port id s := ⟨_, rfl⟩
    obtain ⟨sending, waiting, notices, missed, hframe⟩ : ∃ sending waiting notices missed, w =
        { cardIdentified v.port id s with sending := sending, waitingReply := waiting, notices := notices, missed := missed } := by
      rw [hw]
      split
      · exact ⟨_, _, _, _, notify_frame _ _⟩
      · exact ⟨_, _, _, _, rfl⟩
    have hport : w.port v.port = { s.port v.port with request := none, state := .identified, identity := some id } := by
      rw [hframe]
      exact cardIdentified_port v.port id s
    have htells : w.Told (.cardIdentified v.port id) := by
      rw [hw]
      split
      · exact notify_keeps_told htold _
      · exact htold
    rw [← hw] at he
    refine ⟨_, he, ?_, ?_, ?_, htells, ?_, ?_, ?_, ?_⟩
    · simp [hframe, cardIdentified_survey]
    · simp [refresh_port, hport, CardPort.withLamp]
    · simp [refresh_port, hport, CardPort.withLamp]
    · simp [hframe, cardIdentified_known]
    · simp [hframe, cardIdentified_clips]
    · intro h j hjob hopen habs hfinger hcap
      exact absurd ⟨hopen, habs, hfinger, hcap⟩ (hnone h j hjob)
    · intro _
      refine ⟨?_, ?_, ?_, fun hknown => ?_⟩
      · simp [refresh_port, hport, CardPort.withLamp]
      · simp [refresh_port, hport, CardPort.withLamp]
      · simp [hframe]
      · change w.Told _
        rw [hw, if_pos hknown]
        exact notify_told _ _

/-! ### CARD_RELEASE (R33, R146) -/

/-- The tests at an event's end do nothing with a CLOSING job but the free test (R38, R47). -/
theorem closeJobs_closing {h : Nat} {j : Job} (hj : s.job h = some j) (hst : j.state = .closing) : closeJobs [h] s = freeJob s h := by
  have hdrain : drainJob s h = s := by simp [drainJob, hj, drainMet, hst]
  have heval : evalJob s h = s := by simp [evalJob, hj, hst]
  change freeJob (evalJob (drainJob s h) h) h = _
  rw [hdrain, heval]

/-- A free test leaves its job's record or frees it, with the job's clips; nothing else but the notices changes (R46). -/
theorem freeJob_frame (h : Nat) (s : State) :
    ∃ jobs clips sending waiting notices missed, (jobs = s.jobs ∨ jobs = erase s.jobs h) ∧
      freeJob s h = { s with jobs := jobs, clips := clips, sending := sending, waitingReply := waiting, notices := notices,
                             missed := missed } := by
  unfold freeJob
  split
  · split
    · exact ⟨_, _, _, _, _, _, .inr rfl, notify_frame _ _⟩
    · exact ⟨_, _, _, _, _, _, .inl rfl, rfl⟩
  · exact ⟨_, _, _, _, _, _, .inl rfl, rfl⟩

/-- The job's bound port, and no other, changes state and loses its job (R21). -/
theorem unbindPort_port (binding : Option Port) (st : PortState) (s : State) (q : Port) :
    (unbindPort binding st s).port q = if binding = some q then { s.port q with state := st, job := none } else s.port q := by
  cases binding with
  | none => simp [unbindPort]
  | some p =>
    by_cases h : q = p
    · subst h
      simp [unbindPort]
    · simp [unbindPort, setPort_port_of_ne _ h, Ne.symm h]

theorem unbindPort_frame (binding : Option Port) (st : PortState) (s : State) :
    ∃ ports, unbindPort binding st s = { s with ports := ports } := by
  cases binding with
  | none => exact ⟨_, rfl⟩
  | some p => exact ⟨_, rfl⟩

/-- A released fingerprint's place in the Known-Card List (R33). -/
theorem addKnown_eq (known : List (BitVec 64)) (f : BitVec 64) :
    addKnown known f =
      (if f ∈ known then known.filter (fun g => decide (g ≠ f)) else if known.length < 64 then known else known.drop 1) ++ [f] := by
  unfold addKnown Config.knownEntries
  split
  · rfl
  · split <;> rfl

/-- The block as CARD_RELEASE leaves it, but for the lamps: the tests at the event's end may free the job (R46, R146). -/
theorem releaseJob_eq (h : Nat) (j : Job) (s : State) :
    ∃ ports jobs clips sending waiting notices missed,
      releaseJob h j s =
        refresh { s with
          known := addKnown s.known j.identity.fingerprint, ports := ports, jobs := jobs, clips := clips, sending := sending,
          waitingReply := waiting, notices := notices, missed := missed } ∧
      (∀ q : Port, ports[q.val] = if j.binding = some q then { s.port q with state := .released, job := none } else s.port q) ∧
      (lookup jobs h = none ∨ lookup jobs h = some { j with state := .closing, binding := none }) := by
  let u : State := unbindPort j.binding .released { s with known := addKnown s.known j.identity.fingerprint }
  let w : State := setJob u h { j with state := .closing, binding := none }
  obtain ⟨ports, hports⟩ : ∃ ports, u = { s with known := addKnown s.known j.identity.fingerprint, ports := ports } :=
    unbindPort_frame j.binding .released { s with known := addKnown s.known j.identity.fingerprint }
  obtain ⟨jobs, clips, sending, waiting, notices, missed, hjobs, hfreed⟩ := freeJob_frame h w
  have hclosed : closeJobs [h] w = freeJob w h := closeJobs_closing (setJob_job_self u h _) rfl
  refine ⟨ports, jobs, clips, sending, waiting, notices, missed, ?_, fun q => ?_, ?_⟩
  · change refresh (closeJobs [h] w) = _
    rw [hclosed, hfreed]
    simp only [w, hports, setJob]
  · have hport : u.port q = ports[q.val] := by rw [hports]; rfl
    rw [← hport]
    exact unbindPort_port _ _ _ q
  · rcases hjobs with rfl | rfl
    · exact .inr (setJob_job_self u h _)
    · exact .inl (lookup_erase_self _ _)

/-- A RELEASED port without a job shows GREEN (R23). -/
theorem lampOf_released (hst : (s.port p).state = .released) (hjob : (s.port p).job = none) : lampOf s p = .green := by
  simp [lampOf, hst, hjob]

/-- Settles O29: CARD_RELEASE's owner by the job's state, and `releaseJob_eq` for a job that is taken. -/
theorem releaseTakesClearableCard : Obligations.ReleaseTakesClearableCard := by
  intro s f rest b j ho hk hp hj
  have he : exec .cardRelease s = .next (serve 0x16 readOne cardRelease s) := rfl
  have hreply (st : Status) : replyFrame f (statusOnly st) = ⟨0x96, f.tag, [BitVec.ofNat 8 st.code]⟩ := by
    rw [replyFrame, hk]
    rfl
  have howner : cardRelease b.toNat (s.taken f rest) =
      if j.state = .closing then (statusOnly .badState, s.taken f rest)
      else if j.clearable = false then (statusOnly .notClearable, s.taken f rest)
      else (statusOnly .ok, releaseJob b.toNat j (s.taken f rest)) := by
    have hjob : (s.taken f rest).job b.toNat = some j := hj
    rw [cardRelease, withJob, hjob]
  rw [he, serve_one ho hk hp, howner]
  refine ⟨fun hst => ?_, fun hst hclear => ?_, fun hst hclear => ?_⟩
  · rw [if_pos hst, hreply]
    rfl
  · rw [if_neg hst, if_pos hclear, hreply]
    rfl
  · rw [if_neg hst, if_neg (by simp [hclear]), hreply]
    obtain ⟨ports, jobs, clips, sending, waiting, notices, missed, hrel, hports, hjobs⟩ := releaseJob_eq b.toNat j (s.taken f rest)
    have hport (q : Port) : ((releaseJob b.toNat j (s.taken f rest)).port q).state = ports[q.val].state ∧
        ((releaseJob b.toNat j (s.taken f rest)).port q).job = ports[q.val].job ∧
        ((releaseJob b.toNat j (s.taken f rest)).port q).identity = ports[q.val].identity := by
      rw [hrel, refresh_port]
      exact ⟨rfl, rfl, rfl⟩
    refine ⟨_, rfl, sendFrame_replyOut _ _, ?_, fun p hbind => ?_, ?_, fun q hq => ?_, ?_⟩
    · simp only [sendFrame_known, hrel, refresh_known, addKnown_eq]
      rfl
    · have hbind : j.binding = some p := hbind
      obtain ⟨hstate, hjob, hid⟩ := hport p
      rw [hports, if_pos hbind] at hstate hjob hid
      refine ⟨by rw [sendFrame_port]; exact hstate, by rw [sendFrame_port]; exact hjob, ?_, by rw [sendFrame_port]; exact hid⟩
      rw [sendFrame_port, hrel, refresh_port]
      refine lampOf_released ?_ ?_
      · exact (congrArg CardPort.state ((hports p).trans (if_pos hbind)))
      · exact (congrArg CardPort.job ((hports p).trans (if_pos hbind)))
    · simp only [sendFrame_job, hrel, refresh_job]
      exact hjobs
    · obtain ⟨hstate, hjob, _⟩ := hport q
      rw [hports, if_neg (Ne.symm hq)] at hstate hjob
      exact ⟨by rw [sendFrame_port]; exact hstate, by rw [sendFrame_port]; exact hjob⟩
    · refine ⟨?_, ?_, ?_, ?_⟩ <;> simp only [sendFrame_dests, sendFrame_slots, sendFrame_verifyQueue, sendFrame_engines, hrel] <;> rfl

end Sys2Proof.Machine
end

section
/-! SUPPORT. A removal (R20, R32, R39, R79, R134): what the tests at an event's end keep of the records, how the work at a port ends with its
card, and what the removal leaves. -/

namespace Sys2Proof.Machine

-- One theorem at a time: checking them all at once needs more threads than the sandbox gives.
set_option Elab.async false

open Sys2Proof

variable {s t : State} {p : Port} {e : EngineIx}

/-! ### Clip records that outlive an event -/

/-- A clip's checkpoint and source state are as they were, and a source verify that is QUEUED stays so. -/
structure Clip.Survives (k k' : Clip) : Prop where
  nextBlock : k'.nextBlock = k.nextBlock
  acc : k'.acc = k.acc
  sourceState : k'.sourceState = k.sourceState
  queued : k.sv = .queued → k'.sv = .queued

theorem Clip.Survives.refl (k : Clip) : k.Survives k := ⟨rfl, rfl, rfl, id⟩

theorem Clip.Survives.trans {k l m : Clip} (h : k.Survives l) (i : l.Survives m) : k.Survives m :=
  ⟨i.nextBlock.trans h.nextBlock, i.acc.trans h.acc, i.sourceState.trans h.sourceState, i.queued ∘ h.queued⟩

/-- A clip table stays keyed, and each of its records was a record before. -/
structure ClipsSurvive (t u : Table Clip) : Prop where
  keyed : (t.map Prod.fst).Pairwise (· < ·) → (u.map Prod.fst).Pairwise (· < ·)
  record : ∀ c k', (c, k') ∈ u → ∃ k : Clip, (c, k) ∈ t ∧ k.Survives k'

theorem ClipsSurvive.refl (t : Table Clip) : ClipsSurvive t t := ⟨id, fun _ k h => ⟨k, h, .refl k⟩⟩

theorem ClipsSurvive.trans {t u v : Table Clip} (h : ClipsSurvive t u) (i : ClipsSurvive u v) : ClipsSurvive t v := by
  refine ⟨i.keyed ∘ h.keyed, fun c k'' hin => ?_⟩
  obtain ⟨k', hin', hk'⟩ := i.record c k'' hin
  obtain ⟨k, hin, hk⟩ := h.record c k' hin'
  exact ⟨k, hin, hk.trans hk'⟩

theorem ClipsSurvive.filter (t : Table Clip) (keep : Nat × Clip → Bool) : ClipsSurvive t (t.filter keep) :=
  ⟨fun h => h.sublist (List.filter_sublist.map _), fun _ k h => ⟨k, (List.mem_filter.mp h).1, .refl k⟩⟩

/-- A record stored over one in a keyed table leaves the numbers as they are. -/
theorem store_keys {α : Type} {t : Table α} {k : Nat} {a : α} (b : α) (hkeys : (t.map Prod.fst).Pairwise (· < ·))
    (h : lookup t k = some a) : (store t k b).map Prod.fst = t.map Prod.fst := by
  induction t with
  | nil => simp [lookup] at h
  | cons e rest ih =>
    obtain ⟨i, c⟩ := e
    rw [List.map_cons, List.pairwise_cons] at hkeys
    by_cases hi : i = k
    · simp [store, hi]
    · rw [lookup, if_neg hi] at h
      have hlt : i < k := hkeys.1 k (List.mem_map_of_mem (mem_of_lookup h))
      simp [store, hi, Nat.not_lt.mpr hlt.le, ih hkeys.2 h]

/-- A stored table holds the new record and records that it held before. -/
theorem mem_store {α : Type} {t : Table α} {k : Nat} {a : α} {x : Nat × α} (h : x ∈ store t k a) : x = (k, a) ∨ x ∈ t := by
  induction t with
  | nil => simpa [store] using h
  | cons e rest ih =>
    obtain ⟨i, b⟩ := e
    simp only [store] at h
    split at h
    · simpa using h
    · split at h
      · exact (List.mem_cons.mp h).imp id (List.mem_cons_of_mem _)
      · rcases List.mem_cons.mp h with rfl | h
        · exact .inr (by simp)
        · exact (ih h).imp id (List.mem_cons_of_mem _)

theorem ClipsSurvive.store {t : Table Clip} {c : Nat} {k k' : Clip} (hk : lookup t c = some k) (h : k.Survives k') :
    ClipsSurvive t (store t c k') := by
  refine ⟨fun hkeys => by rwa [store_keys k' hkeys hk], fun i x hin => ?_⟩
  rcases mem_store hin with heq | hin
  · obtain ⟨rfl, rfl⟩ := Prod.mk.inj heq
    exact ⟨k, mem_of_lookup hk, h⟩
  · exact ⟨x, hin, .refl x⟩

theorem modClip_survive (c : Nat) {f : Clip → Clip} (hf : ∀ k : Clip, k.Survives (f k)) (s : State) : ClipsSurvive s.clips (modClip c f s).clips := by
  unfold modClip
  split
  next k hk => exact .store hk (hf k)
  · exact .refl _

/-- What a surviving table says of a clip that is read before and after. -/
theorem ClipsSurvive.read (h : ClipsSurvive s.clips t.clips) (hkeys : (s.clips.map Prod.fst).Pairwise (· < ·)) {c : Nat} {k k' : Clip}
    (hk : s.clip c = some k) (hk' : t.clip c = some k') : k.Survives k' := by
  obtain ⟨l, hin, hl⟩ := h.record c k' (mem_of_lookup hk')
  obtain rfl : k = l := Option.some.inj (hk.symm.trans (lookup_of_mem hkeys hin))
  exact hl

/-- Every record of the clip, if there is any, has its source verify QUEUED. -/
def SvQueued (t : Table Clip) (c : Nat) : Prop := ∀ k, (c, k) ∈ t → k.sv = .queued

theorem SvQueued.survives {t u : Table Clip} {c : Nat} (h : SvQueued t c) (hs : ClipsSurvive t u) : SvQueued u c := by
  intro k' hin
  obtain ⟨k, hin, hk⟩ := hs.record c k' hin
  exact hk.queued (h k hin)

/-! ### The tests at an event's end -/

/-- What the drained tests, the evaluations and the free tests keep: told notices stay told, the Verify Queue gains SOURCE tasks at its end,
card bindings stay, and clips survive. -/
structure Tested (s t : State) : Prop where
  told : ∀ n, s.Told n → t.Told n
  queue : ∃ more, t.verifyQueue = s.verifyQueue ++ more ∧ ∀ u ∈ more, u.target = .source
  binding : ∀ h, ∀ j' ∈ t.job h, ∃ j ∈ s.job h, j'.binding = j.binding
  clips : ClipsSurvive s.clips t.clips

theorem Tested.refl (s : State) : Tested s s := ⟨fun _ => id, ⟨[], by simp⟩, fun _ j hj => ⟨j, hj, rfl⟩, .refl _⟩

theorem Tested.trans {u : State} (h : Tested s t) (i : Tested t u) : Tested s u := by
  obtain ⟨more, hq, hmore⟩ := h.queue
  obtain ⟨more', hq', hmore'⟩ := i.queue
  refine ⟨fun n => i.told n ∘ h.told n, ⟨more ++ more', by rw [hq', hq, List.append_assoc], fun x hx => ?_⟩, fun r j'' hj'' => ?_,
    h.clips.trans i.clips⟩
  · exact (List.mem_append.mp hx).elim (hmore x) (hmore' x)
  · obtain ⟨j', hj', hb'⟩ := i.binding r j'' hj''
    obtain ⟨j, hj, hb⟩ := h.binding r j' hj'
    exact ⟨j, hj, hb'.trans hb⟩

theorem Tested.foldl {α : Type} {g : State → α → State} (h : ∀ s a, Tested s (g s a)) (l : List α) (s : State) : Tested s (l.foldl g s) := by
  induction l generalizing s with
  | nil => exact .refl s
  | cons a l ih => exact (h s a).trans (ih (g s a))

theorem Tested.notify (n : Notice) (s : State) : Tested s (notify n s) := by
  refine ⟨fun m hm => notify_keeps_told hm n, ⟨[], by simp⟩, fun h j hj => ?_, ?_⟩
  · rw [notify_job] at hj
    exact ⟨j, hj, rfl⟩
  · rw [notify_clips]
    exact .refl _

theorem Tested.setJob {h : Nat} {j j' : Job} (hj : s.job h = some j) (hb : j'.binding = j.binding) : Tested s (setJob s h j') := by
  refine ⟨fun _ => id, ⟨[], by simp⟩, fun i x hx => ?_, .refl _⟩
  by_cases hi : i = h
  · subst hi
    rw [setJob_job_self] at hx
    obtain rfl := Option.some.inj hx
    exact ⟨j, hj, hb⟩
  · rw [setJob_job_of_ne _ hi] at hx
    exact ⟨x, hx, rfl⟩

theorem issueTask_tested (s : State) (c : Nat) : Tested s (issueTask s c) := by
  unfold issueTask
  split
  next k hk =>
    split
    · exact ⟨fun _ => id, ⟨_, rfl, by simp⟩, fun _ j hj => ⟨j, hj, rfl⟩, .store hk ⟨rfl, rfl, rfl, fun _ => rfl⟩⟩
    · exact .refl s
  · exact .refl s

theorem drainJob_tested (s : State) (h : Nat) : Tested s (drainJob s h) := by
  unfold drainJob
  split
  next j hj =>
    split
    · have hdrained : Tested s (Machine.notify (.jobDrained h) (Machine.setJob s h { j with state := .drained, tasksIssued := true })) :=
        .trans (.setJob (j' := { j with state := .drained, tasksIssued := true }) hj rfl) (.notify _ _)
      dsimp only
      split
      · exact hdrained.trans (.foldl issueTask_tested _ _)
      · exact hdrained
    · exact .refl s
  · exact .refl s

theorem evalJob_tested (s : State) (h : Nat) : Tested s (evalJob s h) := by
  unfold evalJob
  split
  next j hj =>
    split
    · exact .refl s
    · have hset : Tested s (Machine.setJob s h { j with attention := attentionMet s j, clearable := clearableMet s j }) := .setJob hj rfl
      dsimp only
      split
      · exact hset
      · split <;> exact hset.trans (.notify _ _)
  · exact .refl s

theorem freeJob_tested (s : State) (h : Nat) : Tested s (freeJob s h) := by
  unfold freeJob
  split
  · split
    · refine Tested.trans ?_ (.notify _ _)
      refine ⟨fun _ => id, ⟨[], by simp⟩, fun i j hj => ?_, .filter _ _⟩
      by_cases hi : i = h
      · subst hi
        cases (lookup_erase_self s.jobs i).symm.trans hj
      · exact ⟨j, (lookup_erase_of_ne s.jobs hi).symm.trans hj, rfl⟩
    · exact .refl s
  · exact .refl s

theorem closeJobs_tested (hs : List Nat) (s : State) : Tested s (closeJobs hs s) :=
  ((Tested.foldl drainJob_tested hs s).trans (.foldl evalJob_tested hs _)).trans (.foldl freeJob_tested hs _)

/-! ### The request and the chunk read of a port that loses its card (R15, R79) -/

/-- The request on the link becomes an abandoned one; one whose ERROR is held leaves the link free (R15, assumption log 13). -/
theorem abandonCard_port (p : Port) (s : State) (q : Port) :
    (abandonCard p s).port q =
      if q = p then
        { s.port p with
          request := (s.port p).request.bind fun r =>
            if r.errorHeld then none else some { r with owner := .abandoned (cardReadJob s p) } }
      else s.port q := by
  unfold abandonCard
  split
  next r hr =>
    by_cases hq : q = p
    · subst hq
      cases hh : r.errorHeld <;> simp [clearCard, hr, hh]
    · cases hh : r.errorHeld <;> simp [clearCard, setPort_port_of_ne _ hq, hq]
  next hr =>
    by_cases hq : q = p
    · subst hq
      rw [if_pos rfl, hr, Option.bind_none, ← hr]
    · simp [hq]

/-- A rolled-back chunk read changes clip and slot records, the free list and its reader alone (R79). -/
theorem rollBack_frame (p : Port) (s : State) :
    ∃ clips slots free readers, rollBack p s = { s with clips := clips, slots := slots, freeSlots := free, readers := readers } := by
  unfold rollBack
  split
  next c hc =>
    dsimp only
    split
    · obtain ⟨clips, h⟩ := modClip_frame (freeSlot c.slot (setReader s p { s.reader p with chunk := none, retries := 0 })) c.clip
        (fun k => { k with passMembers := 0 })
      exact ⟨_, _, _, _, h⟩
    · exact ⟨_, _, _, _, rfl⟩
  · exact ⟨_, _, _, _, rfl⟩

/-- The chunk read is over and its slot is FREE, at the tail of the list; the segments at the port, and the checkpoints, stay. -/
theorem rollBack_spec (p : Port) (s : State) :
    ((rollBack p s).reader p).chunk = none ∧
      (∀ q, ((rollBack p s).reader q).segment = (s.reader q).segment ∧ ((rollBack p s).reader q).segWaiting = (s.reader q).segWaiting) ∧
      (rollBack p s).freeSlots = s.freeSlots ++ ((s.reader p).chunk.map ChunkRead.slot).toList ∧
      (∀ c ∈ (s.reader p).chunk, (rollBack p s).slot c.slot = none) ∧ ClipsSurvive s.clips (rollBack p s).clips := by
  cases hc : (s.reader p).chunk with
  | none =>
    have hsame : rollBack p s = s := by simp [rollBack, hc]
    rw [hsame]
    exact ⟨hc, fun _ => ⟨rfl, rfl⟩, by simp, by simp, .refl _⟩
  | some c =>
    let u : State := freeSlot c.slot (setReader s p { s.reader p with chunk := none, retries := 0 })
    have hreader (q : Port) : (u.reader q).segment = (s.reader q).segment ∧ (u.reader q).segWaiting = (s.reader q).segWaiting := by
      by_cases hq : q = p
      · subst hq
        simp [u]
      · simp [u, setReader_reader_of_ne _ hq]
    have hslot : u.slot c.slot = none := lookup_erase_self _ _
    have hchunk : (u.reader p).chunk = none := by simp [u]
    have hover : rollBack p s = if c.recopy = true ∧ c.first = 0 then modClip c.clip (fun k => { k with passMembers := 0 }) u else u := by
      simp [rollBack, hc, u]
    have hclips : ClipsSurvive s.clips (rollBack p s).clips := by
      rw [hover]
      split
      · exact modClip_survive c.clip (f := fun k => { k with passMembers := 0 }) (fun k => ⟨rfl, rfl, rfl, id⟩) u
      · exact .refl _
    obtain ⟨clips, hframe⟩ : ∃ clips, rollBack p s = { u with clips := clips } := by
      rw [hover]
      split
      · exact modClip_frame _ _ _
      · exact ⟨_, rfl⟩
    refine ⟨by rw [hframe]; exact hchunk, fun q => by rw [hframe]; exact hreader q, by rw [hframe]; rfl, fun d hd => ?_, hclips⟩
    obtain rfl : c = d := Option.some.inj hd
    rw [hframe]
    exact hslot

/-! ### The engines at a port that loses its card (R134, R136) -/

/-- Engine `e` gives up its SOURCE task at port `p`, or has none there: `held` is the task, if it has one. -/
def GivesUpAt (s : State) (p : Port) (e : EngineIx) (held : List Task) : Prop :=
  (held = [] ∧ e ∉ (s.reader p).segWaiting ∧ ∀ g ∈ (s.reader p).segment, g.engine ≠ e) ∨
    ∃ u h, held = [u] ∧ (s.engine e).task = some (u, h) ∧ u.target = .source ∧
      (e ∈ (s.reader p).segWaiting ∨ ∃ g ∈ (s.reader p).segment, g.engine = e) ∧
      ∀ g ∈ (s.reader p).segment, g.engine = e → g.cancelled = false

/-- Whether an engine gives up is decided by its task and by the segments at the port. -/
theorem GivesUpAt.congr {held : List Task} (h : GivesUpAt s p e held) (htask : (t.engine e).task = (s.engine e).task)
    (hwait : e ∈ (t.reader p).segWaiting ↔ e ∈ (s.reader p).segWaiting) (hseg : (t.reader p).segment = (s.reader p).segment) :
    GivesUpAt t p e held := by
  rwa [GivesUpAt, htask, hwait, hseg]

/-- An engine's waiting segment is withdrawn from every reader; nothing else of the readers changes. -/
theorem withdraw_reader (e : EngineIx) (s : State) (q : Port) :
    (withdraw e s).reader q = { s.reader q with segWaiting := (s.reader q).segWaiting.filter (fun x => decide (x ≠ e)) } := by
  simp [withdraw, State.reader]

theorem setSv_frame (c : Nat) (sv : SvState) (s : State) : ∃ clips, setSv c sv s = { s with clips := clips } := modClip_frame s c _

/-- Giving a task up changes readers, destination ports, engines, clip records and the Verify Queue alone. -/
theorem giveUp_frame (e : EngineIx) (s : State) :
    ∃ readers dests engines clips queue,
      giveUp e s = { s with readers := readers, dests := dests, engines := engines, clips := clips, verifyQueue := queue } := by
  unfold giveUp
  split
  next u h _ =>
    obtain ⟨clips, he⟩ := setSv_frame u.clip .queued (freeEngine e (withdraw e s))
    rw [he]
    exact ⟨_, _, _, _, _, rfl⟩
  · exact ⟨_, _, _, _, _, rfl⟩

theorem svLetGo_frame (u : Task) (s : State) : ∃ clips, svLetGo u s = { s with clips := clips } := by
  unfold svLetGo
  split
  · exact modClip_frame s _ _
  · exact ⟨_, rfl⟩

theorem letGo_frame (e : EngineIx) (s : State) :
    ∃ readers dests engines clips,
      letGo e s = { s with readers := readers, dests := dests, engines := engines, clips := clips } := by
  unfold letGo
  split
  next u h _ =>
    obtain ⟨clips, he⟩ := svLetGo_frame u (freeEngine e (withdraw e s))
    exact ⟨_, _, _, clips, he⟩
  · exact ⟨_, _, _, _, rfl⟩

/-- A SOURCE task given up goes to the head of the Verify Queue, its engine is free and waits nowhere, and its clip is QUEUED again (R134). -/
theorem giveUp_spec {u : Task} {h : Nat} (htask : (s.engine e).task = some (u, h)) :
    (giveUp e s).verifyQueue = u :: s.verifyQueue ∧ (giveUp e s).engine e = Engine.idle ∧
      (∀ f, f ≠ e → (giveUp e s).engine f = s.engine f) ∧
      (∀ q, (giveUp e s).reader q = { s.reader q with segWaiting := (s.reader q).segWaiting.filter (fun x => decide (x ≠ e)) }) ∧
      ∀ c, (giveUp e s).clip c = if c = u.clip then (s.clip c).map (fun k => { k with sv := .queued }) else s.clip c := by
  obtain ⟨clips, hsv⟩ := setSv_frame u.clip .queued (freeEngine e (withdraw e s))
  have hgive : giveUp e s = { setSv u.clip .queued (freeEngine e (withdraw e s)) with verifyQueue := u :: s.verifyQueue } := by
    rw [giveUp, htask]
    simp only [hsv]
    rfl
  have hclip (c : Nat) : (setSv u.clip .queued (freeEngine e (withdraw e s))).clip c =
      if c = u.clip then (s.clip c).map (fun k => { k with sv := .queued }) else s.clip c := by
    rw [setSv, modClip_clip]
    split
    next hc =>
      rw [hc]
      rfl
    · rfl
  refine ⟨by rw [hgive], ?_, fun f hf => ?_, fun q => ?_, fun c => ?_⟩
  · rw [hgive, hsv]
    exact setEngine_engine_self (withdraw e s) e _
  · rw [hgive, hsv]
    exact setEngine_engine_of_ne (withdraw e s) hf _
  · rw [hgive, hsv]
    exact withdraw_reader e s q
  · rw [hgive]
    exact hclip c

theorem giveUp_survive (e : EngineIx) (s : State) : ClipsSurvive s.clips (giveUp e s).clips := by
  unfold giveUp
  split
  · exact modClip_survive _ (f := fun k => { k with sv := .queued }) (fun k => ⟨rfl, rfl, rfl, fun _ => rfl⟩) (freeEngine e (withdraw e s))
  · exact .refl _

theorem letGo_survive (e : EngineIx) (s : State) : ClipsSurvive s.clips (letGo e s).clips := by
  unfold letGo
  split
  · unfold svLetGo
    split
    · refine modClip_survive _ (fun k => ?_) (freeEngine e (withdraw e s))
      split
      next hv => exact ⟨rfl, rfl, rfl, fun hq => by simp [hv] at hq⟩
      · exact .refl k
    · exact .refl _
  · exact .refl _

/-- In a keyed table the clip of a task that is given up is QUEUED. -/
theorem giveUp_queued {u : Task} {h : Nat} (htask : (s.engine e).task = some (u, h)) (hkeys : (s.clips.map Prod.fst).Pairwise (· < ·)) :
    SvQueued (giveUp e s).clips u.clip := by
  intro k hin
  obtain ⟨_, _, _, _, hclip⟩ := giveUp_spec htask
  have hk : (giveUp e s).clip u.clip = some k := lookup_of_mem ((giveUp_survive e s).keyed hkeys) hin
  rw [hclip, if_pos rfl] at hk
  obtain ⟨k0, _, rfl⟩ := Option.map_eq_some_iff.mp hk
  rfl

/-- A reader's chunk read and segment are as they were; of the segments that wait there some may have been withdrawn. -/
def Reader.KeepsReads (r r' : Reader) : Prop := r'.chunk = r.chunk ∧ r'.segment = r.segment ∧ ∀ e ∈ r'.segWaiting, e ∈ r.segWaiting

theorem Reader.KeepsReads.refl (r : Reader) : r.KeepsReads r := ⟨rfl, rfl, fun _ => id⟩

theorem Reader.KeepsReads.trans {r r' r'' : Reader} (h : r.KeepsReads r') (i : r'.KeepsReads r'') : r.KeepsReads r'' := by
  obtain ⟨hc, hs, hw⟩ := h
  obtain ⟨hc', hs', hw'⟩ := i
  exact ⟨hc'.trans hc, hs'.trans hs, fun e he => hw e (hw' e he)⟩

theorem withdraw_reads (e : EngineIx) (s : State) (q : Port) : (s.reader q).KeepsReads ((withdraw e s).reader q) := by
  rw [withdraw_reader]
  exact ⟨rfl, rfl, fun _ hx => (List.mem_filter.mp hx).1⟩

theorem giveUp_reads (e : EngineIx) (s : State) (q : Port) : (s.reader q).KeepsReads ((giveUp e s).reader q) := by
  cases htask : (s.engine e).task with
  | none =>
    rw [giveUp, htask]
    exact .refl _
  | some x =>
    obtain ⟨_, _, _, hreader, _⟩ := giveUp_spec htask
    rw [hreader, ← withdraw_reader]
    exact withdraw_reads e s q

theorem letGo_reads (e : EngineIx) (s : State) (q : Port) : (s.reader q).KeepsReads ((letGo e s).reader q) := by
  unfold letGo
  split
  next u h _ =>
    obtain ⟨clips, he⟩ := svLetGo_frame u (freeEngine e (withdraw e s))
    rw [he]
    exact withdraw_reads e s q
  · exact .refl _

theorem removeEngine_reads (p : Port) (s : State) (e : EngineIx) (q : Port) : (s.reader q).KeepsReads ((removeEngine p s e).reader q) := by
  unfold removeEngine
  split
  · split
    · exact letGo_reads e s q
    · exact giveUp_reads e s q
  · exact .refl _

theorem removeEngine_frame (p : Port) (s : State) (e : EngineIx) :
    ∃ readers dests engines clips queue,
      removeEngine p s e = { s with readers := readers, dests := dests, engines := engines, clips := clips, verifyQueue := queue } := by
  unfold removeEngine
  split
  · split
    · obtain ⟨readers, dests, engines, clips, he⟩ := letGo_frame e s
      exact ⟨readers, dests, engines, clips, s.verifyQueue, he⟩
    · exact giveUp_frame e s
  · exact ⟨_, _, _, _, _, rfl⟩

theorem removeEngine_survive (p : Port) (s : State) (e : EngineIx) : ClipsSurvive s.clips (removeEngine p s e).clips := by
  unfold removeEngine
  split
  · split
    · exact letGo_survive e s
    · exact giveUp_survive e s
  · exact .refl _

/-- An engine that gives up at the port does so; one with nothing there is left alone. -/
theorem removeEngine_cases {held : List Task} (h : GivesUpAt s p e held) :
    (held = [] ∧ removeEngine p s e = s) ∨
      ∃ u i, held = [u] ∧ (s.engine e).task = some (u, i) ∧ removeEngine p s e = giveUp e s := by
  rcases h with ⟨hheld, hwait, hseg⟩ | ⟨u, i, hheld, htask, _, hat, hlive⟩
  · refine .inl ⟨hheld, if_neg ?_⟩
    cases hg : (s.reader p).segment <;> simp_all [engineAtPort]
  · have hpresent : engineAtPort s p e = true := by
      cases hg : (s.reader p).segment <;> simp_all [engineAtPort]
    have hnot : (s.reader p).segment.any (fun g => decide (g.engine = e) && g.cancelled) = false := by
      cases hg : (s.reader p).segment <;> simp_all
    exact .inr ⟨u, i, hheld, htask, by rw [removeEngine, if_pos hpresent, hnot]; rfl⟩

/-- What one engine's giving up leaves: its task at the head of the queue, and the other engine as it was. -/
theorem removeEngine_gives {held : List Task} (h : GivesUpAt s p e held) (hkeys : (s.clips.map Prod.fst).Pairwise (· < ·)) :
    (removeEngine p s e).verifyQueue = held ++ s.verifyQueue ∧
      (∀ u ∈ held, (removeEngine p s e).engine e = Engine.idle ∧ (∀ q, e ∉ ((removeEngine p s e).reader q).segWaiting) ∧
        SvQueued (removeEngine p s e).clips u.clip) ∧
      ∀ f, f ≠ e → (removeEngine p s e).engine f = s.engine f ∧
        (f ∈ ((removeEngine p s e).reader p).segWaiting ↔ f ∈ (s.reader p).segWaiting) := by
  rcases removeEngine_cases h with ⟨rfl, he⟩ | ⟨u, i, rfl, htask, he⟩
  · rw [he]
    exact ⟨rfl, by simp, fun f _ => ⟨rfl, .rfl⟩⟩
  · obtain ⟨hqueue, hidle, hother, hreader, _⟩ := giveUp_spec htask
    rw [he]
    refine ⟨by rw [hqueue]; rfl, fun x hx => ?_, fun f hf => ⟨hother f hf, ?_⟩⟩
    · obtain rfl := List.mem_singleton.mp hx
      exact ⟨hidle, fun q => by rw [hreader]; simp, giveUp_queued htask hkeys⟩
    · rw [hreader]
      simp [hf]

/-- The engines at the port, engine 1 before engine 0, give their tasks up or let go of them (R134, R136). -/
def removeEngines (p : Port) (s : State) : State := removeEngine p (removeEngine p s 1) 0

theorem removeEngines_frame (p : Port) (s : State) :
    ∃ readers dests engines clips queue,
      removeEngines p s = { s with readers := readers, dests := dests, engines := engines, clips := clips, verifyQueue := queue } := by
  obtain ⟨_, _, _, _, _, h1⟩ := removeEngine_frame p s 1
  obtain ⟨readers, dests, engines, clips, queue, h0⟩ := removeEngine_frame p (removeEngine p s 1) 0
  refine ⟨readers, dests, engines, clips, queue, ?_⟩
  rw [removeEngines, h0, h1]

theorem removeEngines_reads (p : Port) (s : State) (q : Port) : (s.reader q).KeepsReads ((removeEngines p s).reader q) :=
  (removeEngine_reads p s 1 q).trans (removeEngine_reads p _ 0 q)

theorem removeEngines_survive (p : Port) (s : State) : ClipsSurvive s.clips (removeEngines p s).clips :=
  (removeEngine_survive p s 1).trans (removeEngine_survive p _ 0)

/-- Engine `e` is free and waits at no card port, and the clip of task `u` is QUEUED. -/
def HasGivenUp (s : State) (e : EngineIx) (u : Task) : Prop :=
  s.engine e = Engine.idle ∧ (∀ q, e ∉ (s.reader q).segWaiting) ∧ SvQueued s.clips u.clip

/-- What an engine has given up stays so while engines stay, readers gain no waiting segment and clips survive. -/
theorem HasGivenUp.keeps {u : Task} (h : HasGivenUp s e u) (hengine : t.engine e = s.engine e)
    (hwait : ∀ q, e ∈ (t.reader q).segWaiting → e ∈ (s.reader q).segWaiting) (hclips : ClipsSurvive s.clips t.clips) : HasGivenUp t e u := by
  obtain ⟨hidle, hnone, hsv⟩ := h
  exact ⟨hengine.trans hidle, fun q hin => hnone q (hwait q hin), hsv.survives hclips⟩

/-- Both engines' tasks are back at the head of the queue, engine 0's before engine 1's (R134). -/
theorem removeEngines_gives {held : EngineIx → List Task} (h : ∀ e, GivesUpAt s p e (held e))
    (hkeys : (s.clips.map Prod.fst).Pairwise (· < ·)) :
    (removeEngines p s).verifyQueue = held 0 ++ held 1 ++ s.verifyQueue ∧ ∀ e, ∀ u ∈ held e, HasGivenUp (removeEngines p s) e u := by
  obtain ⟨hqueue1, hgave1, hother1⟩ := removeEngine_gives (h 1) hkeys
  obtain ⟨hengine0, hwait0⟩ := hother1 0 (by decide)
  obtain ⟨_, hseg, _⟩ := removeEngine_reads p s 1 p
  have hzero : GivesUpAt (removeEngine p s 1) p 0 (held 0) := (h 0).congr (congrArg Engine.task hengine0) hwait0 hseg
  obtain ⟨hqueue0, hgave0, hother0⟩ := removeEngine_gives hzero ((removeEngine_survive p s 1).keyed hkeys)
  refine ⟨by rw [removeEngines, hqueue0, hqueue1, List.append_assoc], fun e u hu => ?_⟩
  match e with
  | 0 => exact hgave0 u hu
  | 1 =>
    exact HasGivenUp.keeps (hgave1 u hu) (hother0 1 (by decide)).1 (fun q => (removeEngine_reads p _ 0 q).2.2 1)
      (removeEngine_survive p _ 0)

/-! ### What is left of the work at a port that loses its card -/

/-- The block once the work at port `p` has ended with its card (R15, R79, R134). -/
def workEnded (p : Port) (s : State) : State := removeSegments p (rollBack p (abandonCard p s))

theorem removeSegments_cases (p : Port) (s : State) :
    (((removeEngines p s).reader p).segment = none ∧ removeSegments p s = removeEngines p s) ∨
      removeSegments p s = setReader (removeEngines p s) p { (removeEngines p s).reader p with segment := none, retries := 0 } := by
  have hfold : [1, 0].foldl (removeEngine p) s = removeEngines p s := rfl
  rw [removeSegments, hfold]
  cases hseg : ((removeEngines p s).reader p).segment with
  | none => exact .inl ⟨rfl, rfl⟩
  | some g => exact .inr rfl

/-- The segment in flight at the port is over; readers are otherwise as the engines left them, and nothing else changes. -/
theorem removeSegments_spec (p : Port) (s : State) :
    (∃ readers, removeSegments p s = { removeEngines p s with readers := readers }) ∧ ((removeSegments p s).reader p).segment = none ∧
      ∀ q, ((removeSegments p s).reader q).chunk = ((removeEngines p s).reader q).chunk ∧
        ((removeSegments p s).reader q).segWaiting = ((removeEngines p s).reader q).segWaiting := by
  rcases removeSegments_cases p s with ⟨hnone, he⟩ | he
  · rw [he]
    exact ⟨⟨_, rfl⟩, hnone, fun q => ⟨rfl, rfl⟩⟩
  · rw [he]
    refine ⟨⟨_, rfl⟩, by simp, fun q => ?_⟩
    by_cases hq : q = p
    · subst hq
      simp
    · rw [setReader_reader_of_ne _ hq]
      exact ⟨rfl, rfl⟩

/-- The end of the work at a port changes its records, the readers, the engines and the Verify Queue alone. -/
theorem workEnded_frame (p : Port) (s : State) :
    ∃ ports clips slots free readers dests queue engines,
      workEnded p s = { s with
        ports := ports, clips := clips, slots := slots, freeSlots := free, readers := readers, dests := dests, verifyQueue := queue,
        engines := engines } := by
  obtain ⟨ports, ha⟩ := abandonCard_frame s p
  obtain ⟨_, slots, free, _, hb⟩ := rollBack_frame p (abandonCard p s)
  obtain ⟨_, dests, engines, clips, queue, hc⟩ := removeEngines_frame p (rollBack p (abandonCard p s))
  obtain ⟨⟨readers, hd⟩, _⟩ := removeSegments_spec p (rollBack p (abandonCard p s))
  refine ⟨ports, clips, slots, free, readers, dests, queue, engines, ?_⟩
  rw [workEnded, hd, hc, hb, ha]

/-- Once the work at a port has ended, its chunk read and its segment are over, the slot is FREE and the clips' checkpoints stand (R79). -/
theorem workEnded_spec (p : Port) (s : State) :
    (∀ q, (workEnded p s).port q = (abandonCard p s).port q) ∧ ((workEnded p s).reader p).chunk = none ∧
      ((workEnded p s).reader p).segment = none ∧
      (workEnded p s).freeSlots = s.freeSlots ++ ((s.reader p).chunk.map ChunkRead.slot).toList ∧
      (∀ c ∈ (s.reader p).chunk, (workEnded p s).slot c.slot = none) ∧ ClipsSurvive s.clips (workEnded p s).clips := by
  obtain ⟨ports, ha⟩ := abandonCard_frame s p
  obtain ⟨_, _, _, _, hb⟩ := rollBack_frame p (abandonCard p s)
  obtain ⟨hchunk, _, hfree, hslot, hclips⟩ := rollBack_spec p (abandonCard p s)
  have hkeeps := removeEngines_reads p (rollBack p (abandonCard p s)) p
  have hsurvive := removeEngines_survive p (rollBack p (abandonCard p s))
  obtain ⟨_, _, _, _, _, hc⟩ := removeEngines_frame p (rollBack p (abandonCard p s))
  obtain ⟨⟨_, hd⟩, hseg, hreads⟩ := removeSegments_spec p (rollBack p (abandonCard p s))
  have hreader : (abandonCard p s).reader p = s.reader p := by rw [ha]; rfl
  rw [hreader] at hfree hslot
  refine ⟨fun q => ?_, (hreads p).1.trans (hkeeps.1.trans hchunk), hseg, ?_, fun c hin => ?_, ?_⟩
  · rw [workEnded, hd, hc, hb]
    rfl
  · rw [workEnded, hd, hc]
    exact hfree.trans (by rw [ha])
  · rw [workEnded, hd, hc]
    exact hslot c hin
  · have hfirst : ClipsSurvive s.clips (rollBack p (abandonCard p s)).clips := by
      have hsame : (abandonCard p s).clips = s.clips := by rw [ha]
      rwa [hsame] at hclips
    rw [workEnded, hd]
    exact hfirst.trans hsurvive

/-- What decides whether an engine gives up at a port stands through the end of the request and of the chunk read. -/
theorem GivesUpAt.rolledBack {held : List Task} (h : GivesUpAt s p e held) : GivesUpAt (rollBack p (abandonCard p s)) p e held := by
  obtain ⟨_, ha⟩ := abandonCard_frame s p
  obtain ⟨_, _, _, _, hb⟩ := rollBack_frame p (abandonCard p s)
  obtain ⟨_, hreads, _, _, _⟩ := rollBack_spec p (abandonCard p s)
  have hreader : (abandonCard p s).reader p = s.reader p := by rw [ha]; rfl
  refine h.congr ?_ ?_ ?_
  · rw [hb, ha]
    rfl
  · rw [(hreads p).2, hreader]
  · rw [(hreads p).1, hreader]

/-- The engines at a port that loses its card have given their tasks up (R134). -/
theorem workEnded_gives {held : EngineIx → List Task} (h : ∀ e, GivesUpAt s p e (held e)) (hkeys : (s.clips.map Prod.fst).Pairwise (· < ·)) :
    (workEnded p s).verifyQueue = held 0 ++ held 1 ++ s.verifyQueue ∧ ∀ e, ∀ u ∈ held e, HasGivenUp (workEnded p s) e u := by
  obtain ⟨b, hb⟩ : ∃ b, b = rollBack p (abandonCard p s) := ⟨_, rfl⟩
  have hgives (e : EngineIx) : GivesUpAt b p e (held e) := hb ▸ (h e).rolledBack
  obtain ⟨hsame, hbkeys⟩ : b.verifyQueue = s.verifyQueue ∧ (b.clips.map Prod.fst).Pairwise (· < ·) := by
    obtain ⟨_, ha⟩ := abandonCard_frame s p
    obtain ⟨_, _, _, _, hr⟩ := rollBack_frame p (abandonCard p s)
    obtain ⟨_, _, _, _, hclips⟩ := rollBack_spec p (abandonCard p s)
    exact ⟨by rw [hb, hr, ha], by rw [hb]; exact hclips.keyed (by rw [ha]; exact hkeys)⟩
  obtain ⟨hqueue, hgave⟩ := removeEngines_gives hgives hbkeys
  obtain ⟨⟨_, hd⟩, _, hreads⟩ := removeSegments_spec p b
  have hended : workEnded p s = removeSegments p b := by rw [hb]; rfl
  rw [hended]
  refine ⟨by rw [hd, ← hsame, ← hqueue], fun e u hu => (hgave e u hu).keeps ?_ (fun q hin => ?_) ?_⟩
  · rw [hd]
    rfl
  · rwa [← (hreads q).2]
  · rw [hd]
    exact ClipsSurvive.refl (removeEngines p b).clips

/-! ### The removal (R20) -/

theorem unbind_frame (job : Option Nat) (s : State) : ∃ jobs, unbind job s = { s with jobs := jobs } := by
  cases job with
  | none => exact ⟨_, rfl⟩
  | some h => exact modJob_frame s h _

/-- The job's card is ABSENT (R39). -/
theorem unbind_binding {job : Option Nat} {h : Nat} (hh : h ∈ job) (s : State) : ∀ j ∈ (unbind job s).job h, j.binding = none := by
  obtain rfl : job = some h := hh
  intro j hj
  rw [unbind, Option.mem_def, modJob_job, if_pos rfl] at hj
  obtain ⟨_, _, rfl⟩ := Option.map_eq_some_iff.mp hj
  rfl

/-- The card leaves port `p`, which was bound to `job`, and CARD_REMOVED is told (R20, R32, R39). -/
def takeCard (p : Port) (job : Option Nat) (s : State) : State :=
  let s1 := unbind job (leaveSurveyQueue p (endSurvey p s))
  notify (.cardRemoved p job) (setPort s1 p (s1.port p).emptied)

theorem removeCard_eq (p : Port) (s : State) :
    removeCard p s =
      refresh (closeJobs (liveJobs (takeCard p (s.port p).job (workEnded p s))) (takeCard p (s.port p).job (workEnded p s))) := rfl

/-- As its card leaves, a port is EMPTY, its survey and its place in the queue are gone, and its job's card is ABSENT. -/
theorem takeCard_spec (p : Port) (job : Option Nat) (s : State) :
    (∃ ports jobs sending waiting notices missed, takeCard p job s =
      { s with
        ports := ports, surveyQueue := s.surveyQueue.filter (fun q => decide (q ≠ p)),
        survey := s.survey.filter (fun v => decide (v.port ≠ p)), jobs := jobs, sending := sending, waitingReply := waiting,
        notices := notices, missed := missed }) ∧
      (∀ q, (takeCard p job s).port q = if q = p then (s.port p).emptied else s.port q) ∧
      (∀ h ∈ job, ∀ j ∈ (takeCard p job s).job h, j.binding = none) ∧ (takeCard p job s).Told (.cardRemoved p job) := by
  obtain ⟨u, hu⟩ : ∃ u, u = leaveSurveyQueue p (endSurvey p s) := ⟨_, rfl⟩
  obtain ⟨jobs, hjobs⟩ := unbind_frame job u
  have htake : takeCard p job s = notify (.cardRemoved p job) (setPort (unbind job u) p ((unbind job u).port p).emptied) := by rw [hu]; rfl
  have hport (q : Port) : (unbind job u).port q = s.port q := by rw [hjobs, hu]; rfl
  refine ⟨?_, fun q => ?_, fun h hh j hj => ?_, by rw [htake]; exact notify_told _ _⟩
  · rw [htake, notify_frame, hjobs, hu]
    exact ⟨_, _, _, _, _, _, rfl⟩
  · rw [htake, notify_port]
    by_cases hq : q = p
    · subst hq
      rw [if_pos rfl, setPort_port_self, hport]
    · rw [if_neg hq, setPort_port_of_ne _ hq, hport]
  · rw [htake, notify_job, setPort_job] at hj
    exact unbind_binding hh u j hj

/-- What a removal leaves is what the departed card leaves (`takeCard_spec`), tested, with the lamps following. -/
theorem removeCard_spec (p : Port) (s : State) :
    ∃ g, g = takeCard p (s.port p).job (workEnded p s) ∧ Tested g (removeCard p s) ∧
      (∃ lamp : Port → Lamp, (∀ q, (removeCard p s).port q = (g.port q).withLamp (lamp q)) ∧
        ((g.port p).state = .empty → (g.port p).job = none → lamp p = .off)) ∧
      (∃ waiting : Port → Bool, ∀ q, (removeCard p s).reader q = { g.reader q with waiting := waiting q }) ∧
      ∃ ports readers portUse jobs clips queue monitors sending waiting notices missed,
        removeCard p s = { g with
          ports := ports, readers := readers, portUse := portUse, jobs := jobs, clips := clips, verifyQueue := queue,
          monitors := monitors, sending := sending, waitingReply := waiting, notices := notices, missed := missed } := by
  obtain ⟨g, hg⟩ : ∃ g, g = takeCard p (s.port p).job (workEnded p s) := ⟨_, rfl⟩
  obtain ⟨c, hc⟩ : ∃ c, c = closeJobs (liveJobs g) g := ⟨_, rfl⟩
  have hremoved : removeCard p s = refresh c := by rw [removeCard_eq, hc, hg]
  have htested : Tested g c := hc ▸ closeJobs_tested _ g
  obtain ⟨_, _, _, _, _, _, _, _, hset⟩ := hc ▸ closeJobs_settles g (liveJobs g)
  have hport (q : Port) : c.port q = g.port q := by rw [hset]; rfl
  have hreader (q : Port) : c.reader q = g.reader q := by rw [hset]; rfl
  rw [hremoved]
  refine ⟨g, hg, htested.trans ⟨fun _ => id, ⟨[], by simp⟩, fun _ j hj => ⟨j, hj, rfl⟩, .refl _⟩,
    ⟨lampOf c, fun q => by rw [refresh_port, hport], fun hst hjob => ?_⟩,
    ⟨startCondition c, fun q => by rw [refresh_reader, hreader]⟩, ?_⟩
  · rw [← hport] at hst hjob
    rw [lampOf_no_job hjob (by simp [hst]) (by simp [hst]), if_pos (.inl hst)]
  · rw [refresh, hset]
    exact ⟨_, _, _, _, _, _, _, _, _, _, _, rfl⟩

/-- Settles O15: the end of the work (`workEnded_spec`, `workEnded_gives`), then what the departed card leaves (`takeCard_spec`). -/
theorem removalEmptiesThePort : Obligations.RemovalEmptiesThePort := by
  intro p s hlow habsence
  have he : exec (.cardRemoval p) s = .next (absenceExpired p s) := congrArg _ (awake_of_high hlow _)
  rw [he, absenceExpired, if_pos habsence]
  refine ⟨fun hst => by rw [hst]; rfl, fun hempty hsettling ⟨_, hkeys, _⟩ => ⟨removeCard p s, ?_, ?_⟩⟩
  · cases hst : (s.port p).state <;> simp_all
  obtain ⟨w, hw⟩ : ∃ w, w = workEnded p s := ⟨_, rfl⟩
  obtain ⟨hworkPort, hchunk, hsegment, hfree, hslot, hclips⟩ := workEnded_spec p s
  obtain ⟨_, _, _, _, _, _, _, _, hended⟩ := workEnded_frame p s
  obtain ⟨g, hg, htested, ⟨lamp, hlamp, hoff⟩, ⟨waits, hwaits⟩, _, _, _, _, _, _, _, _, _, _, _, hframe⟩ := removeCard_spec p s
  rw [← hw] at hworkPort hchunk hsegment hfree hslot hclips hended hg
  obtain ⟨⟨_, _, _, _, _, _, hgone⟩, hport, hbinding, htold⟩ := takeCard_spec p (s.port p).job w
  rw [← hg] at hgone hport hbinding htold
  obtain ⟨t, ht⟩ : ∃ t, t = removeCard p s := ⟨_, rfl⟩
  rw [← ht] at htested hlamp hwaits hframe ⊢
  have hreader (q : Port) : t.reader q = { w.reader q with waiting := waits q } := by
    rw [hwaits, hgone]
    rfl
  have hself : t.port p = ((abandonCard p s).port p).emptied.withLamp (lamp p) := by rw [hlamp, hport, if_pos rfl, hworkPort]
  have hsurvive : ClipsSurvive w.clips t.clips := by
    have hsame : g.clips = w.clips := by rw [hgone]
    exact hsame ▸ htested.clips
  rw [abandonCard_port, if_pos rfl] at hself
  have hdark : lamp p = .off := by
    have hgport : g.port p = (w.port p).emptied := by rw [hport, if_pos rfl]
    exact hoff (by rw [hgport]; rfl) (by rw [hgport]; rfl)
  have hothers : t.freeSlots = w.freeSlots ∧ t.slots = w.slots ∧ t.known = s.known ∧ t.cfg = s.cfg ∧ t.mem = s.mem ∧ t.engines = w.engines ∧
      t.surveyQueue = s.surveyQueue.filter (fun q => decide (q ≠ p)) ∧ t.survey = s.survey.filter (fun v => decide (v.port ≠ p)) := by
    refine ⟨?_, ?_, ?_, ?_, ?_, ?_, ?_, ?_⟩ <;> simp only [hframe, hgone, hended]
  obtain ⟨hfree', hslots', hknown, hcfg, hmem, hengines, hsurveyQueue, hsurvey⟩ := hothers
  refine ⟨?_, ?_, ?_, ?_, ?_, ?_, ?_, ?_, ?_, ?_, ?_, ?_, ?_, ?_, ?_, ?_, ?_, hknown, hcfg, hmem, fun q hq => ?_⟩
  · rw [hself]; rfl
  · rw [hself]; rfl
  · rw [hself]; rfl
  · rw [hself]; rfl
  · rw [hself]; exact hdark
  · rw [hself]; rfl
  · rw [hsurveyQueue]; simp
  · rw [hsurvey]; simp [Option.filter_eq_some_iff]
  · rw [hreader]; exact hchunk
  · rw [hreader]; exact hsegment
  · rw [hfree', hfree]
  · intro c hc
    exact (congrArg (fun slots => lookup slots c.slot) hslots').trans (hslot c hc)
  · intro c _ k k' hk hk'
    have hkept := (hclips.trans hsurvive).read hkeys hk hk'
    exact ⟨hkept.nextBlock, hkept.acc, hkept.sourceState⟩
  · intro h hh j hj
    obtain ⟨j0, hj0, hb⟩ := htested.binding h j hj
    rw [hb]
    exact hbinding h hh j0 hj0
  · exact htested.told _ htold
  · intro r hr
    rw [hself, show (s.port p).request = some r from hr]
    cases hh : r.errorHeld
    · exact ⟨cardReadJob s p, by simp [CardPort.withLamp, CardPort.emptied, hh]⟩
    · simp [CardPort.withLamp, CardPort.emptied, hh]
  · intro held hheld
    obtain ⟨hqueue, hgave⟩ := workEnded_gives hheld hkeys
    simp only [← hw] at hqueue hgave
    obtain ⟨more, hmore, hsource⟩ := htested.queue
    refine ⟨⟨more, ?_, hsource⟩, fun e u hu => ?_⟩
    · rw [hmore, hgone, ← hqueue]
    · obtain ⟨hidle, hnowhere, hsv⟩ : HasGivenUp t e u := (hgave e u hu).keeps (congrArg (fun engines => engines[e.val]) hengines)
        (fun q hin => by rw [hreader] at hin; exact hin) hsurvive
      exact ⟨hidle, hnowhere, fun k' hk' => hsv k' (mem_of_lookup hk')⟩
  · rw [hlamp, hport, if_neg hq, hworkPort, abandonCard_port, if_neg hq]
    exact ⟨rfl, rfl, rfl, rfl⟩

end Sys2Proof.Machine
end

section
/-! SUPPORT. The Known-Card List (R33, R34): no operation but the release of a card, KNOWN_LIST_CLEAR and a hard reset touches it, said once
for each operation; and what the commands make of it. -/

namespace Sys2Proof.Machine

-- One theorem at a time: checking them all at once needs more threads than the sandbox gives.
set_option Elab.async false

open Sys2Proof

/-- A fold of steps that keep the Known-Card List keeps it. -/
@[simp] theorem foldl_known {α : Type} {g : State → α → State} (h : ∀ s a, (g s a).known = s.known) (s : State) (l : List α) :
    (l.foldl g s).known = s.known := by
  induction l generalizing s with
  | nil => rfl
  | cons a l ih => rw [List.foldl_cons, ih, h]

/-- The tests and the crossings at an event's end do not touch the list. -/
theorem Settles.known {s t : State} (h : s.Settles t) : t.known = s.known := by
  obtain ⟨_, _, _, _, _, _, _, _, rfl⟩ := h
  rfl

/-! ### Operations on records -/

@[simp] theorem modJob_known (h : Nat) (f : Job → Job) (s : State) : (modJob h f s).known = s.known := by
  obtain ⟨_, he⟩ := modJob_frame s h f
  rw [he]

@[simp] theorem modClip_known (c : Nat) (f : Clip → Clip) (s : State) : (modClip c f s).known = s.known := by
  obtain ⟨_, he⟩ := modClip_frame s c f
  rw [he]

@[simp] theorem modSlot_known (n : Nat) (f : Slot → Slot) (s : State) : (modSlot n f s).known = s.known := by
  obtain ⟨_, he⟩ := modSlot_frame s n f
  rw [he]

@[simp] theorem freeIfDone_known (n : Nat) (s : State) : (freeIfDone n s).known = s.known := by
  unfold freeIfDone
  repeat' split
  all_goals simp

@[simp] theorem cardSend_known (p : Port) (o : CardOwner) (a : Option CardAsk) (s : State) : (cardSend p o a s).known = s.known := by
  obtain ⟨_, he⟩ := cardSend_frame s p o a
  rw [he]

@[simp] theorem cardKick_known (p : Port) (s : State) : (cardKick p s).known = s.known := by
  obtain ⟨_, he⟩ := cardKick_frame s p
  rw [he]

@[simp] theorem clearCard_known (p : Port) (s : State) : (clearCard p s).known = s.known := rfl

@[simp] theorem abandonCard_known (p : Port) (s : State) : (abandonCard p s).known = s.known := by
  obtain ⟨_, he⟩ := abandonCard_frame s p
  rw [he]

@[simp] theorem bridgeSend_known (d : Dest) (a : Option BridgeAsk) (r : Bool) (s : State) : (bridgeSend d a r s).known = s.known := by
  obtain ⟨_, he⟩ := bridgeSend_frame s d a r
  rw [he]

@[simp] theorem bridgeKick_known (d : Dest) (s : State) : (bridgeKick d s).known = s.known := by
  obtain ⟨_, he⟩ := bridgeKick_frame s d
  rw [he]

@[simp] theorem clearBridge_known (d : Dest) (s : State) : (clearBridge d s).known = s.known := rfl

@[simp] theorem leaveRecopyList_known (c : Nat) (s : State) : (leaveRecopyList c s).known = s.known := by
  obtain ⟨_, he⟩ := leaveRecopyList_frame s c
  rw [he]

@[simp] theorem leaveRecopy_known (c : Nat) (d : Dest) (s : State) : (leaveRecopy c d s).known = s.known := by
  obtain ⟨_, _, _, he⟩ := leaveRecopy_frame (s := s) c d
  rw [he]

@[simp] theorem setCopyState_known (c : Nat) (d : Dest) (st : CopyState) (x : Cause) (s : State) :
    (setCopyState c d st x s).known = s.known := modClip_known _ _ s

@[simp] theorem setSv_known (c : Nat) (v : SvState) (s : State) : (setSv c v s).known = s.known := modClip_known _ _ s

@[simp] theorem tellCopy_known (c : Nat) (n : CopyNews) (x : Cause) (s : State) : (tellCopy c n x s).known = s.known := by
  unfold tellCopy
  repeat' split
  all_goals simp

@[simp] theorem failCopy_known (c : Nat) (d : Dest) (st : CopyState) (x : Cause) (s : State) :
    (failCopy c d st x s).known = s.known := by simp [failCopy]

/-! ### The end of an event -/

@[simp] theorem closeJobs_known (hs : List Nat) (s : State) : (closeJobs hs s).known = s.known := Settles.known (closeJobs_settles s hs)

@[simp] theorem closeSeen_known (hs : List Nat) (s : State) : (closeSeen hs s).known = s.known := Settles.known (closeSeen_settles s hs)

@[simp] theorem tellAll_known (ns : List Notice) (s : State) : (tellAll ns s).known = s.known := Settles.known (tellAll_settles s ns)

@[simp] theorem dropHolds_known (d : Dest) (a b : Bool) (s : State) : (dropHolds d a b s).known = s.known := rfl

@[simp] theorem evalJob_known (h : Nat) (s : State) : (evalJob s h).known = s.known := Settles.known (evalJob_settles s h)

/-! ### The Verify Engines and the loss procedure (spec/07, R117 to R119) -/

@[simp] theorem withdraw_known (e : EngineIx) (s : State) : (withdraw e s).known = s.known := rfl

@[simp] theorem freeEngine_known (e : EngineIx) (s : State) : (freeEngine e s).known = s.known := rfl

@[simp] theorem askSegment_known (e : EngineIx) (s : State) : (askSegment e s).known = s.known := by
  unfold askSegment
  dsimp only
  repeat' split
  all_goals simp

@[simp] theorem giveUp_known (e : EngineIx) (s : State) : (giveUp e s).known = s.known := by
  unfold giveUp
  repeat' split
  all_goals simp

@[simp] theorem svLetGo_known (u : Task) (s : State) : (svLetGo u s).known = s.known := by
  unfold svLetGo
  repeat' split
  all_goals simp

@[simp] theorem letGo_known (e : EngineIx) (s : State) : (letGo e s).known = s.known := by
  unfold letGo
  repeat' split
  all_goals simp

@[simp] theorem settleTarget_known (u : Task) (c : CopyState) (v : SvState) (x : Cause) (s : State) :
    (settleTarget u c v x s).known = s.known := by
  unfold settleTarget
  repeat' split
  all_goals simp

@[simp] theorem retryTarget_known (u : Task) (s : State) : (retryTarget u s).known = s.known := by
  unfold retryTarget
  repeat' split
  all_goals simp

@[simp] theorem compareTask_known (e : EngineIx) (u : Task) (h : Nat) (s : State) : (compareTask e u h s).known = s.known := by
  unfold compareTask
  dsimp only
  repeat' split
  all_goals simp

@[simp] theorem segmentComplete_known (g : Segment) (s : State) : (segmentComplete g s).known = s.known := by
  unfold segmentComplete
  dsimp only
  repeat' split
  all_goals simp

@[simp] theorem segmentFailed_known (g : Segment) (s : State) : (segmentFailed g s).known = s.known := by
  unfold segmentFailed
  repeat' split
  all_goals simp

@[simp] theorem foldSegment_known (g : Segment) (n : Nat) (data : List Byte) (s : State) : (foldSegment g n data s).known = s.known := by
  unfold foldSegment
  dsimp only
  repeat' split
  all_goals simp

@[simp] theorem startTarget_known (u : Task) (s : State) : (startTarget u s).known = s.known := by
  unfold startTarget
  repeat' split
  all_goals simp

@[simp] theorem takeTask_known (e : EngineIx) (u : Task) (h : Nat) (s : State) : (takeTask e u h s).known = s.known := by simp [takeTask]

@[simp] theorem takeNext_known (s : State) : (takeNext s).known = s.known := by
  unfold takeNext
  repeat' split
  all_goals simp

@[simp] theorem dropFromSlots_known (d : Dest) (s : State) : (dropFromSlots d s).known = s.known := by simp [dropFromSlots]

@[simp] theorem loseCopy_known (d : Dest) (lost : Option DestIdentity) (c : Nat) (s : State) : (loseCopy d lost s c).known = s.known := by
  unfold loseCopy
  repeat' split
  all_goals simp

@[simp] theorem dropTasks_known (d : Dest) (s : State) : (dropTasks d s).known = s.known := rfl

@[simp] theorem loseDest_known (d : Dest) (st : DestState) (r : DestReason) (s : State) :
    (loseDest d st r s).known = s.known := by simp [loseDest]

/-! ### Card ports and the survey (spec/02) -/

@[simp] theorem joinSurvey_known (p : Port) (s : State) : (joinSurvey p s).known = s.known := by
  unfold joinSurvey
  repeat' split
  all_goals simp

@[simp] theorem leaveSurveyQueue_known (p : Port) (s : State) : (leaveSurveyQueue p s).known = s.known := rfl

@[simp] theorem settled_known (p : Port) (s : State) : (settled p s).known = s.known := by
  unfold settled
  repeat' split
  all_goals simp

@[simp] theorem removeCard_known (p : Port) (s : State) : (removeCard p s).known = s.known := by
  obtain ⟨_, rfl, _, _, _, _, _, _, _, _, _, _, _, _, _, _, he⟩ := removeCard_spec p s
  obtain ⟨⟨_, _, _, _, _, _, ht⟩, _⟩ := takeCard_spec p (s.port p).job (workEnded p s)
  obtain ⟨_, _, _, _, _, _, _, _, hw⟩ := workEnded_frame p s
  rw [he, ht, hw]

@[simp] theorem absenceExpired_known (p : Port) (s : State) : (absenceExpired p s).known = s.known := by
  unfold absenceExpired
  repeat' split
  all_goals simp

@[simp] theorem holdError_known (p : Port) (s : State) : (holdError p s).known = s.known := by
  unfold holdError
  repeat' split
  all_goals simp

@[simp] theorem endAbandoned_known (p : Port) (s : State) : (endAbandoned p s).known = s.known := by
  unfold endAbandoned
  repeat' split
  all_goals simp

@[simp] theorem cardTimedOut_known (p : Port) (s : State) : (cardTimedOut p s).known = s.known := by
  unfold cardTimedOut
  repeat' split
  all_goals simp

@[simp] theorem blinkToggle_known (p : Port) (s : State) : (blinkToggle p s).known = s.known := by
  unfold blinkToggle
  repeat' split
  all_goals simp

@[simp] theorem startSurvey_known (s : State) : (startSurvey s).known = s.known := by
  unfold startSurvey
  repeat' split
  all_goals simp

@[simp] theorem failSurvey_known (p : Port) (x : SurveyCause) (s : State) : (failSurvey p x s).known = s.known := by simp [failSurvey]

@[simp] theorem surveyIdentified_known (a : AdapterIdentity) (s : State) : (surveyIdentified a s).known = s.known := by
  unfold surveyIdentified
  repeat' split
  all_goals simp

@[simp] theorem bindJob_known (h : Nat) (p : Port) (s : State) : (bindJob h p s).known = s.known := by simp [bindJob]

@[simp] theorem completeSurvey_known (p : Port) (id : CardIdentity) (s : State) : (completeSurvey p id s).known = s.known := by
  simp only [completeSurvey, refresh_known]
  repeat' split
  all_goals simp

@[simp] theorem surveyRead_known (data : List Byte) (s : State) : (surveyRead data s).known = s.known := by
  unfold surveyRead
  repeat' split
  all_goals simp

@[simp] theorem surveyError_known (p : Port) (s : State) : (surveyError p s).known = s.known := by
  unfold surveyError
  repeat' split
  all_goals simp

/-! ### Jobs and clips (spec/03) -/

@[simp] theorem unbindPort_known (b : Option Port) (st : PortState) (s : State) : (unbindPort b st s).known = s.known := by
  unfold unbindPort
  repeat' split
  all_goals simp

@[simp] theorem pauseEngine_known (h : Nat) (e : EngineIx) (s : State) : (pauseEngine h s e).known = s.known := by
  unfold pauseEngine
  repeat' split
  all_goals simp

@[simp] theorem abortClips_known (h : Nat) (s : State) : (abortClips h s).known = s.known := rfl

@[simp] theorem abortDest_known (h : Nat) (d : Dest) (s : State) : (abortDest h s d).known = s.known := by
  unfold abortDest
  dsimp only
  repeat' split
  all_goals simp

@[simp] theorem abortReader_known (h : Nat) (p : Port) (s : State) : (abortReader h s p).known = s.known := by
  unfold abortReader
  extract_lets _ s1
  have hs1 : s1.known = s.known := by
    unfold s1
    repeat' split
    all_goals simp
  clear_value s1
  repeat' split
  all_goals simp [hs1]

@[simp] theorem abortEngine_known (h : Nat) (e : EngineIx) (s : State) : (abortEngine h s e).known = s.known := by
  unfold abortEngine
  repeat' split
  all_goals simp

@[simp] theorem abortSlots_known (h : Nat) (s : State) : (abortSlots h s).known = s.known := by simp [abortSlots]

@[simp] theorem abortJob_known (h : Nat) (j : Job) (s : State) : (abortJob h j s).known = s.known := by simp [abortJob]

@[simp] theorem reverify_known (c : Nat) (k : Clip) (u : Target) (s : State) : (reverify c k u s).known = s.known := by simp [reverify]

@[simp] theorem recopy_known (c : Nat) (k : Clip) (j : Job) (d : Dest) (s : State) : (recopy c k j d s).known = s.known := by simp [recopy]

/-! ### The destination ports (spec/06) -/

@[simp] theorem destState_known (d : Dest) (st : DestState) (r : DestReason) (s : State) :
    (destState d st r s).known = s.known := by simp [destState]

@[simp] theorem startIdentify_known (d : Dest) (r : DestReason) (s : State) :
    (startIdentify d r s).known = s.known := by simp [startIdentify]

@[simp] theorem linkComesUp_known (d : Dest) (s : State) : (linkComesUp d s).known = s.known := by
  unfold linkComesUp
  repeat' split
  all_goals simp

@[simp] theorem linkGoesDown_known (d : Dest) (s : State) : (linkGoesDown d s).known = s.known := by
  unfold linkGoesDown
  repeat' split
  all_goals simp

@[simp] theorem identifyAnswered_known (d : Dest) (a : Option DestIdentity) (s : State) : (identifyAnswered d a s).known = s.known := by
  unfold identifyAnswered
  repeat' split
  all_goals simp

@[simp] theorem attach_known (d : Dest) (s : State) : (attach d s).known = s.known := by simp [attach]

@[simp] theorem startFlush_known (d : Dest) (s : State) : (startFlush d s).known = s.known := by simp [startFlush]

@[simp] theorem startWrite_known (d : Dest) (n : Nat) (rest : List Nat) (s : State) :
    (startWrite d n rest s).known = s.known := by simp [startWrite]

@[simp] theorem startDestSegment_known (d : Dest) (e : EngineIx) (rest : List EngineIx) (s : State) :
    (startDestSegment d e rest s).known = s.known := by simp [startDestSegment]

@[simp] theorem chooseOp_known (d : Dest) (s : State) : (chooseOp d s).known = s.known := by
  unfold chooseOp
  repeat' split
  all_goals simp

@[simp] theorem decideOp_known (d : Dest) (s : State) : (decideOp d s).known = s.known := by
  unfold decideOp
  repeat' split
  all_goals simp

@[simp] theorem countChunk_known (c : Nat) (d : Dest) (s : State) : (countChunk c d s).known = s.known := by
  unfold countChunk
  dsimp only
  repeat' split
  all_goals simp

@[simp] theorem finishWrite_known (d : Dest) (n : Nat) (s : State) : (finishWrite d n s).known = s.known := by
  simp only [finishWrite, refresh_known, closeSeen_known, freeIfDone_known, modSlot_known]
  exact foldl_known (fun _ _ => by simp) _ _

@[simp] theorem endAbortedWrite_known (d : Dest) (n : Nat) (s : State) :
    (endAbortedWrite d n s).known = s.known := by simp [endAbortedWrite]

@[simp] theorem writeAnswered_known (d : Dest) (s : State) : (writeAnswered d s).known = s.known := by
  unfold writeAnswered
  repeat' split
  all_goals simp

@[simp] theorem failPort_known (d : Dest) (r : DestReason) (s : State) : (failPort d r s).known = s.known := by simp [failPort]

@[simp] theorem resend_known (d : Dest) (a : BridgeAsk) (s : State) : (resend d a s).known = s.known := bridgeSend_known d _ _ s

@[simp] theorem failWrite_known (d : Dest) (n : Nat) (s : State) : (failWrite d n s).known = s.known := by
  simp only [failWrite, tellAll_known, failPort_known]
  exact foldl_known (fun _ _ => by split <;> simp) _ _

@[simp] theorem noteError_known (d : Dest) (a : BridgeAsk) (b : Bool) (s : State) : (noteError d a b s).known = s.known := rfl

@[simp] theorem writeError_known (d : Dest) (b : Bool) (s : State) : (writeError d b s).known = s.known := by
  unfold writeError
  repeat' split
  all_goals simp

@[simp] theorem flushCopy_known (d : Dest) (c : Nat) (s : State) : (flushCopy d s c).known = s.known := by
  unfold flushCopy
  repeat' split
  all_goals simp

@[simp] theorem flushAnswered_known (d : Dest) (s : State) : (flushAnswered d s).known = s.known := by
  unfold flushAnswered
  repeat' split
  all_goals simp

@[simp] theorem flushError_known (d : Dest) (b : Bool) (s : State) : (flushError d b s).known = s.known := by
  unfold flushError
  repeat' split
  all_goals simp

@[simp] theorem endDestSegment_known (d : Dest) (g : Segment) (ok : Bool) (s : State) : (endDestSegment d g ok s).known = s.known := by
  unfold endDestSegment
  repeat' split
  all_goals simp

@[simp] theorem readAnswered_known (d : Dest) (data : List Byte) (s : State) : (readAnswered d data s).known = s.known := by
  unfold readAnswered
  dsimp only
  repeat' split
  all_goals simp

@[simp] theorem readError_known (d : Dest) (b : Bool) (s : State) : (readError d b s).known = s.known := by
  unfold readError
  repeat' split
  all_goals simp

@[simp] theorem endAbandonedBridge_known (d : Dest) (s : State) : (endAbandonedBridge d s).known = s.known := by
  unfold endAbandonedBridge
  repeat' split
  all_goals simp

@[simp] theorem identifyTimedOut_known (d : Dest) (s : State) : (identifyTimedOut d s).known = s.known := by
  unfold identifyTimedOut
  repeat' split
  all_goals simp

@[simp] theorem bridgeTimedOut_known (d : Dest) (s : State) : (bridgeTimedOut d s).known = s.known := by
  unfold bridgeTimedOut
  repeat' split
  all_goals simp

/-! ### The line, the monitors and the Pace Timer (spec/01, spec/09, spec/10) -/

@[simp] theorem discardFrame_known (f : LinkFlags) (x : LinkCause) (s : State) :
    (discardFrame f x s).known = s.known := by simp [discardFrame]

@[simp] theorem offerFrame_known (f : Frame) (s : State) : (offerFrame f s).known = s.known := by
  unfold offerFrame
  repeat' split
  all_goals simp

@[simp] theorem takeField_known (bytes : List Byte) (s : State) : (takeField bytes s).known = s.known := by
  unfold takeField
  dsimp only
  repeat' split
  all_goals simp

@[simp] theorem receive_known (b : Byte) (x y : Bool) (s : State) : (receive b x y s).known = s.known := by
  unfold receive
  repeat' split
  all_goals simp

@[simp] theorem gapExpired_known (s : State) : (gapExpired s).known = s.known := by
  unfold gapExpired
  repeat' split
  all_goals simp

@[simp] theorem softResetState_known (s : State) : (softResetState s).known = s.known := by simp [softResetState]

@[simp] theorem frameEnds_known (s : State) : (frameEnds s).known = s.known := by
  unfold frameEnds
  repeat' split
  all_goals simp

@[simp] theorem refuseUnknown_known (s : State) : (refuseUnknown s).known = s.known := by
  unfold refuseUnknown
  repeat' split
  all_goals simp

@[simp] theorem nextWindow_known (s : State) : (nextWindow s).known = s.known := rfl

@[simp] theorem monitorsExpire_known (who : DestSet) (s : State) : (monitorsExpire who s).known = s.known := rfl

@[simp] theorem offerReport_known (s : State) : (offerReport s).known = s.known := by
  unfold offerReport
  repeat' split
  all_goals simp

@[simp] theorem reporterExpires_known (s : State) : (reporterExpires s).known = s.known := by
  unfold reporterExpires
  repeat' split
  all_goals simp

@[simp] theorem windowExpires_known (before : DestSet) (s : State) : (windowExpires before s).known = s.known := by simp [windowExpires]

/-! ### The slot allocator, chunk reads and segments (spec/04) -/

@[simp] theorem startChunk_known (n : Nat) (p : Port) (h : Nat) (j : Job) (nc : NextChunk) (k : Clip) (s : State) :
    (startChunk n p h j nc k s).known = s.known := by simp [startChunk]

@[simp] theorem grant_known (s : State) : (grant s).known = s.known := by
  unfold grant
  repeat' split
  all_goals simp

@[simp] theorem dropChunk_known (p : Port) (c : ChunkRead) (s : State) : (dropChunk p c s).known = s.known := rfl

@[simp] theorem endCancelled_known (p : Port) (c : ChunkRead) (s : State) : (endCancelled p c s).known = s.known := by simp [endCancelled]

@[simp] theorem placeSlot_known (n : Nat) (set : DestSet) (s : State) : (placeSlot n set s).known = s.known := by
  unfold placeSlot
  split
  · simp
  · dsimp only
    exact (foldl_known (fun _ _ => setDest_known ..) _ _).trans (modSlot_known ..)

@[simp] theorem advance_known (c : ChunkRead) (s : State) : (advance c s).known = s.known := by
  unfold advance
  dsimp only
  repeat' split
  all_goals simp

@[simp] theorem stage_known (p : Port) (c : ChunkRead) (s : State) : (stage p c s).known = s.known := by
  unfold stage
  split
  · have hlost := foldl_known (fun t d => failCopy_known c.clip d .failed .destLost t)
    simp only [refresh_known, closeSeen_known]
    split <;> simp [hlost]
  · rfl

@[simp] theorem chunkProgress_known (p : Port) (c : ChunkRead) (n : Nat) (data : List Byte) (s : State) :
    (chunkProgress p c n data s).known = s.known := by
  simp only [chunkProgress]
  split <;> simp

@[simp] theorem chunkAnswered_known (p : Port) (data : List Byte) (ms : Nat) (s : State) : (chunkAnswered p data ms s).known = s.known := by
  unfold chunkAnswered
  repeat' split
  all_goals simp

@[simp] theorem failPending_known (c : Nat) (set : DestSet) (s : State) :
    (failPending c set s).known = s.known := foldl_known (fun _ _ => by split <;> simp) _ _

@[simp] theorem tellReadError_known (c : ChunkRead) (s : State) : (tellReadError c s).known = s.known := by
  unfold tellReadError
  repeat' split
  all_goals simp

@[simp] theorem failChunk_known (p : Port) (c : ChunkRead) (s : State) : (failChunk p c s).known = s.known := by
  unfold failChunk
  repeat' split
  all_goals simp

@[simp] theorem chunkError_known (p : Port) (c : ChunkRead) (s : State) : (chunkError p c s).known = s.known := by
  unfold chunkError
  repeat' split
  all_goals simp

@[simp] theorem startSegment_known (p : Port) (e : EngineIx) (rest : List EngineIx) (s : State) :
    (startSegment p e rest s).known = s.known := by simp [startSegment]

@[simp] theorem arbitrate_known (p : Port) (b : Bool) (s : State) : (arbitrate p b s).known = s.known := by
  unfold arbitrate
  repeat' split
  all_goals simp

@[simp] theorem endSegment_known (p : Port) (g : Segment) (ok : Bool) (s : State) : (endSegment p g ok s).known = s.known := by
  unfold endSegment
  repeat' split
  all_goals simp

@[simp] theorem segmentAnswered_known (p : Port) (data : List Byte) (s : State) : (segmentAnswered p data s).known = s.known := by
  unfold segmentAnswered
  dsimp only
  repeat' split
  all_goals simp

@[simp] theorem segmentError_known (p : Port) (g : Segment) (s : State) : (segmentError p g s).known = s.known := by
  unfold segmentError
  repeat' split
  all_goals simp

@[simp] theorem deliverError_known (p : Port) (o : CardOwner) (s : State) : (deliverError p o s).known = s.known := by
  unfold deliverError
  repeat' split
  all_goals simp

@[simp] theorem confirmError_known (p : Port) (s : State) : (confirmError p s).known = s.known := by
  unfold confirmError
  repeat' split
  all_goals simp

/-! ### The answers to the host's requests -/

/-- A request's owner does not touch the Known-Card List of the state it answers in. -/
def KnownOwner {α : Type} (owner : α → State → Reply × State) : Prop := ∀ a s, (owner a s).2.known = s.known

theorem known_of_withJob {h : Nat} {s : State} {owner : Job → Reply × State} (hk : ∀ j, (owner j).2.known = s.known) :
    (withJob h s owner).2.known = s.known := by
  unfold withJob
  split
  · exact hk _
  · rfl

theorem known_of_withClip {c : Nat} {s : State} {owner : Clip → Job → Reply × State} (hk : ∀ k j, (owner k j).2.known = s.known) :
    (withClip c s owner).2.known = s.known := by
  unfold withClip
  split
  · split
    · exact hk _ _
    · rfl
  · rfl

/-- A request whose owner does not touch the list leaves it. -/
theorem serve_known {α : Type} {kind : Byte} {fields : List Byte → Option α} {owner : α → State → Reply × State} (hk : KnownOwner owner)
    {s : State} : (serve kind fields owner s).known = s.known := by
  refine serve_induction (P := fun t => t.known = s.known) rfl fun f rest r u _ hu => ?_
  rw [sendFrame_known]
  rcases hu with rfl | ⟨a, rfl⟩
  · rfl
  · rw [hk]
    rfl

theorem statusGet_known : KnownOwner statusGet := fun _ _ => rfl

theorem deviceReset_known : KnownOwner deviceReset := fun _ _ => rfl

theorem flagsClear_known : KnownOwner flagsClear := fun _ _ => rfl

theorem knownListQuery_known : KnownOwner knownListQuery := fun _ _ => rfl

theorem cardSurvey_known : KnownOwner cardSurvey := by
  intro a s
  unfold cardSurvey
  repeat' split
  all_goals simp

theorem jobOpen_known : KnownOwner jobOpen := by
  intro a s
  unfold jobOpen
  repeat' split
  all_goals simp

theorem jobQuery_known : KnownOwner jobQuery := fun _ _ => known_of_withJob fun _ => rfl

theorem jobFinal_known : KnownOwner jobFinal := fun _ s =>
  known_of_withJob fun _ => by
    repeat' split
    all_goals simp

theorem jobPause_known : KnownOwner jobPause := fun _ s =>
  known_of_withJob fun _ => by
    repeat' split
    all_goals simp

theorem jobResume_known : KnownOwner jobResume := fun _ s =>
  known_of_withJob fun _ => by
    repeat' split
    all_goals simp

theorem jobAbort_known : KnownOwner jobAbort := fun _ s =>
  known_of_withJob fun _ => by
    repeat' split
    all_goals simp

theorem clipBegin_known : KnownOwner clipBegin := fun _ s =>
  known_of_withJob fun _ => by
    repeat' split
    all_goals simp

theorem clipQuery_known : KnownOwner clipQuery := fun _ _ => known_of_withClip fun _ _ => rfl

theorem extentsAdd_known : KnownOwner extentsAdd := fun _ s =>
  known_of_withClip fun _ _ => by
    repeat' split
    all_goals simp

theorem clipCommit_known : KnownOwner clipCommit := fun _ s =>
  known_of_withClip fun _ _ => by
    repeat' split
    all_goals simp

theorem clipCancel_known : KnownOwner clipCancel := fun _ s =>
  known_of_withClip fun _ _ => by
    repeat' split
    all_goals simp

theorem clipRecopy_known : KnownOwner clipRecopy := fun _ s =>
  known_of_withClip fun _ _ => by
    repeat' split
    all_goals simp

theorem clipReverify_known : KnownOwner clipReverify := fun _ s =>
  known_of_withClip fun _ _ => by
    repeat' split
    all_goals simp

theorem destAttach_known : KnownOwner destAttach := by
  intro a s
  unfold destAttach
  repeat' split
  all_goals simp

theorem destDetach_known : KnownOwner destDetach := by
  intro a s
  unfold destDetach
  repeat' split
  all_goals simp

theorem destQuery_known : KnownOwner destQuery := by
  intro a s
  unfold destQuery
  repeat' split
  all_goals simp

theorem monitorSet_known : KnownOwner monitorSet := by
  intro a s
  unfold monitorSet
  repeat' split
  all_goals simp

theorem holdResume_known : KnownOwner holdResume := by
  intro a s
  unfold holdResume
  repeat' split
  all_goals simp

theorem configSet_known : KnownOwner configSet := by
  intro a s
  unfold configSet
  repeat' split
  all_goals simp

/-! ### The commands -/

/-- A command that sleeps while RESET is low leaves the list when its event does. -/
theorem awake_known {f : State → State} {s : State} (h : (f s).known = s.known) : (awake f s).known = s.known := by
  unfold awake
  split
  · rfl
  · exact h

/-- Every command but a hard reset, KNOWN_LIST_CLEAR and CARD_RELEASE leaves the Known-Card List. -/
theorem exec_known (i : Instr) (s : State) (hhard : ∀ r, i ≠ .hardReset r) (hclear : i ≠ .knownListClear) (hrelease : i ≠ .cardRelease) :
    Completes (fun s t => t.known = s.known) i s := by
  cases i with
  | hardReset r => exact absurd rfl (hhard r)
  | knownListClear => exact absurd rfl hclear
  | cardRelease => exact absurd rfl hrelease
  | softReset =>
    refine ⟨_, rfl, ?_⟩
    split
    · exact softResetState_known s
    · rfl
  | resetHeldLow => exact ⟨_, rfl, rfl⟩
  | frameSendEnd => exact ⟨_, rfl, awake_known (frameEnds_known _)⟩
  | rxByte => exact ⟨_, rfl, awake_known (receive_known ..)⟩
  | interbyteGapTimeout => exact ⟨_, rfl, awake_known (gapExpired_known _)⟩
  | unknownRequest => exact ⟨_, rfl, refuseUnknown_known s⟩
  | identify => exact ⟨_, rfl, serve_known fun _ _ => rfl⟩
  | statusGet => exact ⟨_, rfl, serve_known statusGet_known⟩
  | configSet => exact ⟨_, rfl, serve_known configSet_known⟩
  | flagsClear => exact ⟨_, rfl, serve_known flagsClear_known⟩
  | deviceReset => exact ⟨_, rfl, serve_known deviceReset_known⟩
  | cardSurvey => exact ⟨_, rfl, serve_known cardSurvey_known⟩
  | jobOpen => exact ⟨_, rfl, serve_known jobOpen_known⟩
  | jobFinal => exact ⟨_, rfl, serve_known jobFinal_known⟩
  | jobPause => exact ⟨_, rfl, serve_known jobPause_known⟩
  | jobResume => exact ⟨_, rfl, serve_known jobResume_known⟩
  | jobAbort => exact ⟨_, rfl, serve_known jobAbort_known⟩
  | jobQuery => exact ⟨_, rfl, serve_known jobQuery_known⟩
  | clipBegin => exact ⟨_, rfl, serve_known clipBegin_known⟩
  | extentsAdd => exact ⟨_, rfl, serve_known extentsAdd_known⟩
  | clipCommit => exact ⟨_, rfl, serve_known clipCommit_known⟩
  | clipCancel => exact ⟨_, rfl, serve_known clipCancel_known⟩
  | clipQuery => exact ⟨_, rfl, serve_known clipQuery_known⟩
  | clipRecopy => exact ⟨_, rfl, serve_known clipRecopy_known⟩
  | clipReverify => exact ⟨_, rfl, serve_known clipReverify_known⟩
  | destAttach => exact ⟨_, rfl, serve_known destAttach_known⟩
  | destDetach => exact ⟨_, rfl, serve_known destDetach_known⟩
  | destQuery => exact ⟨_, rfl, serve_known destQuery_known⟩
  | monitorSet => exact ⟨_, rfl, serve_known monitorSet_known⟩
  | holdResume => exact ⟨_, rfl, serve_known holdResume_known⟩
  | knownListQuery => exact ⟨_, rfl, serve_known knownListQuery_known⟩
  | presenceAppear p =>
    refine ⟨_, rfl, ?_⟩
    repeat' split
    all_goals simp
  | presenceDrop p =>
    refine ⟨_, rfl, ?_⟩
    repeat' split
    all_goals simp
  | settleTimerExpiry p => exact ⟨_, rfl, awake_known (settled_known ..)⟩
  | cardRemoval p => exact ⟨_, rfl, awake_known (absenceExpired_known ..)⟩
  | adapterErrorAnswer p => exact ⟨_, rfl, awake_known (holdError_known ..)⟩
  | cardRequestTimeout p => exact ⟨_, rfl, awake_known (cardTimedOut_known ..)⟩
  | errorConfirm p => exact ⟨_, rfl, awake_known (confirmError_known ..)⟩
  | cardAbandonedAnswer p => exact ⟨_, rfl, awake_known (endAbandoned_known ..)⟩
  | lampBlinkToggle p => exact ⟨_, rfl, awake_known (blinkToggle_known ..)⟩
  | surveyStart => exact ⟨_, rfl, awake_known (startSurvey_known _)⟩
  | surveyIdentifyAnswer => exact ⟨_, rfl, awake_known (surveyIdentified_known ..)⟩
  | surveyReadDone => exact ⟨_, rfl, awake_known (surveyRead_known ..)⟩
  | slotGrant => exact ⟨_, rfl, awake_known (grant_known _)⟩
  | chunkRequestDone => exact ⟨_, rfl, awake_known (chunkAnswered_known ..)⟩
  | sourceSegmentStart => exact ⟨_, rfl, awake_known (arbitrate_known ..)⟩
  | sourceSegmentRequestDone => exact ⟨_, rfl, awake_known (segmentAnswered_known ..)⟩
  | destLinkUp d =>
    refine ⟨_, rfl, ?_⟩
    split
    · rfl
    · exact linkComesUp_known d s
  | destLinkDown d =>
    refine ⟨_, rfl, ?_⟩
    split
    · rfl
    · exact linkGoesDown_known d s
  | destIdentifyAnswer => exact ⟨_, rfl, awake_known (identifyAnswered_known ..)⟩
  | destRequestTimeout => exact ⟨_, rfl, awake_known (bridgeTimedOut_known ..)⟩
  | bridgeAbandonedAnswer => exact ⟨_, rfl, awake_known (endAbandonedBridge_known ..)⟩
  | destArbiterDecide => exact ⟨_, rfl, awake_known (decideOp_known ..)⟩
  | destWriteOk => exact ⟨_, rfl, awake_known (writeAnswered_known ..)⟩
  | destWriteError => exact ⟨_, rfl, awake_known (writeError_known ..)⟩
  | destFlushOk => exact ⟨_, rfl, awake_known (flushAnswered_known ..)⟩
  | destFlushError => exact ⟨_, rfl, awake_known (flushError_known ..)⟩
  | destReadOk => exact ⟨_, rfl, awake_known (readAnswered_known ..)⟩
  | destReadError => exact ⟨_, rfl, awake_known (readError_known ..)⟩
  | engineTakeTask => exact ⟨_, rfl, awake_known (takeNext_known _)⟩
  | paceTimerExpiry => exact ⟨_, rfl, awake_known (windowExpires_known ..)⟩

/-- The list `known` is that of the state with the fingerprint of a clearable job, not CLOSING, at its newest end. -/
def Joined (s : State) (known : List (BitVec 64)) : Prop :=
  ∃ h j, s.job h = some j ∧ j.clearable = true ∧ j.state ≠ .closing ∧ known = addKnown s.known j.identity.fingerprint

/-- CARD_RELEASE leaves the list, or adds to it the fingerprint of the job it takes (R33, R146). -/
theorem cardRelease_known (h : Nat) (s : State) : (cardRelease h s).2.known = s.known ∨ Joined s (cardRelease h s).2.known := by
  unfold cardRelease withJob
  split
  case h_2 => exact .inl rfl
  case h_1 j hj =>
    dsimp only
    split
    · exact .inl rfl
    · rename_i hopen
      split
      · exact .inl rfl
      · rename_i hclear
        obtain ⟨_, _, _, _, _, _, _, he, -⟩ := releaseJob_eq h j s
        refine .inr ⟨h, j, hj, by simpa using hclear, hopen, ?_⟩
        change (releaseJob h j s).known = _
        rw [he, refresh_known]

theorem exec_cardRelease_known (s : State) :
    Completes (fun s t => t.known = s.known ∨ Joined s t.known) .cardRelease s := by
  refine ⟨_, rfl, serve_induction (P := fun t => t.known = s.known ∨ Joined s t.known) (.inl rfl) fun f rest r u _ hu => ?_⟩
  rw [sendFrame_known]
  rcases hu with rfl | ⟨h, rfl⟩
  · exact .inl rfl
  · exact cardRelease_known h (s.taken f rest)

/-- Settles O23: the query and the clear are their owners' answers; of the other commands only CARD_RELEASE's owner touches the list. -/
theorem knownCardListGrowsOnlyByRelease : Obligations.KnownCardListGrowsOnlyByRelease := by
  refine ⟨fun s f rest ho hk hp => ?_, fun s f rest ho hk hp => ?_, fun c s t he hhard hclear => ?_⟩
  · have he : exec .knownListQuery s = .next (serve 0x30 readNone knownListQuery s) := rfl
    rw [he, serve_empty ho hk hp, replyFrame, hk]
    rfl
  · have he : exec .knownListClear s = .next (serve 0x31 readNone knownListClear s) := rfl
    rw [he, serve_empty ho hk hp, replyFrame, hk]
    rfl
  · by_cases hrelease : c = .cardRelease
    · subst hrelease
      rcases (exec_cardRelease_known s).of_next he with hsame | ⟨h, j, hj, hclearable, hopen, hknown⟩
      · exact .inl hsame
      · rw [addKnown_eq] at hknown
        exact .inr ⟨rfl, h, j, hj, hclearable, hopen, fun hmem => by simpa [hmem] using hknown,
          fun hmem hroom => by simpa [hmem, hroom] using hknown, fun hmem hfull => by simpa [hmem, hfull.not_gt] using hknown⟩
    · exact .inl ((exec_known c s hhard hclear hrelease).of_next he)

end Sys2Proof.Machine
end


section
/-! SUPPORT. The forms that every command keeps (R36, R49, R89) and the life of a job (R36 to R38, R44, R47, R139, R146), as two relations
between a state and a later one: `Works` for the work of an event, in which no job changes its state, and `Ended` for an event with the
tests at its end. Here the relations and their rules for the shared operations. -/

namespace Sys2Proof.Machine

-- One theorem at a time: checking them all at once needs more threads than the sandbox gives.
set_option Elab.async false

open Sys2Proof

/-! ### The relations -/

/-- The canonical memory, the keyed tables and the reduced accumulators that were so before are so after. -/
structure KeepsForms (s t : State) : Prop where
  mem : Memory.wf s.mem = true → Memory.wf t.mem = true
  keyed : s.TablesKeyed → t.TablesKeyed
  accs : s.AccsReduced → t.AccsReduced

/-- What JOB_OPEN recorded of a job is as it was, and so is its order list (R36). -/
structure Job.Recorded (j j' : Job) : Prop where
  identity : j'.identity = j.identity
  destSet : j'.destSet = j.destSet
  destIds : j'.destIds = j.destIds
  required : j'.required = j.required
  sourceVerify : j'.sourceVerify = j.sourceVerify
  quota : j'.quota = j.quota
  order : j'.order = j.order

/-- A job's state and the results of its last evaluation are as they were, too. -/
structure Job.Kept (j j' : Job) : Prop extends Job.Recorded j j' where
  state : j'.state = j.state
  clearable : j'.clearable = j.clearable
  attention : j'.attention = j.attention

/-- The work of an event: live jobs stay live and are kept, and clips stay with their jobs. -/
structure Works (s t : State) : Prop where
  forms : KeepsForms s t
  jobs : ∀ h j, s.job h = some j → ∃ j', t.job h = some j' ∧ j.Kept j'
  owners : s.TablesKeyed → ∀ c k', t.clip c = some k' → ∃ k, s.clip c = some k ∧ k'.job = k.job

/-- The clips on a job's order list, as far as they are live, are the job's own (R36). -/
def State.OrdersOwned (s : State) : Prop := ∀ h j, s.job h = some j → ∀ c ∈ j.order, ∀ k, s.clip c = some k → k.job = h

/-- What an event in which no job is aborted, released or recopied may make of a live job's record: state `t` is the one after it. -/
structure Job.Passed (t : State) (j j' : Job) : Prop extends Job.Recorded j j' where
  closing : j.state = .closing → j'.state = .closing ∧ j'.clearable = j.clearable ∧ j'.attention = j.attention
  opened : j.state ≠ .closing → j'.state ≠ .closing
  drained : j.state = .drained → j'.state ≠ .reading
  drains : j.state = .reading → j'.state = .drained → j'.intakeFinal = true ∧ j'.recopy = [] ∧ ∀ i ∈ j'.order, clipRead t i = true

/-- An event with the tests at its end: a job is gone only if it was CLOSING, and passes on otherwise. -/
structure Ended (s t : State) : Prop where
  forms : KeepsForms s t
  owners : s.TablesKeyed → ∀ c k', t.clip c = some k' → ∃ k, s.clip c = some k ∧ k'.job = k.job
  life : s.TablesKeyed → s.OrdersOwned → ∀ h j, s.job h = some j →
    (t.job h = none → j.state = .closing) ∧ ∀ j', t.job h = some j' → j.Passed t j'

theorem KeepsForms.refl (s : State) : KeepsForms s s := ⟨id, id, id⟩

theorem KeepsForms.trans {s t u : State} (h : KeepsForms s t) (k : KeepsForms t u) : KeepsForms s u :=
  ⟨k.mem ∘ h.mem, k.keyed ∘ h.keyed, k.accs ∘ h.accs⟩

theorem Job.Recorded.trans {j j' j'' : Job} (h : j.Recorded j') (k : j'.Recorded j'') : j.Recorded j'' :=
  ⟨k.identity.trans h.identity, k.destSet.trans h.destSet, k.destIds.trans h.destIds, k.required.trans h.required,
    k.sourceVerify.trans h.sourceVerify, k.quota.trans h.quota, k.order.trans h.order⟩

theorem Job.Kept.trans {j j' j'' : Job} (h : j.Kept j') (k : j'.Kept j'') : j.Kept j'' :=
  ⟨h.toRecorded.trans k.toRecorded, k.state.trans h.state, k.clearable.trans h.clearable, k.attention.trans h.attention⟩

/-- The fields that the work of an event may change. -/
theorem Job.Kept.of_work {j : Job} {binding : Option Port} {intakeFinal paused tasksIssued holdChanged : Bool} {cursor : Nat}
    {recopy : List Nat} {soft hard : DestSet} :
    j.Kept { j with
      binding := binding, intakeFinal := intakeFinal, paused := paused, cursor := cursor, recopy := recopy, softHold := soft,
      hardHold := hard, tasksIssued := tasksIssued, holdChanged := holdChanged } :=
  ⟨⟨rfl, rfl, rfl, rfl, rfl, rfl, rfl⟩, rfl, rfl, rfl⟩

theorem Job.Kept.refl (j : Job) : j.Kept j := .of_work

theorem withHolds_kept (j : Job) (soft hard : DestSet) : j.Kept (j.withHolds soft hard) := by
  unfold Job.withHolds
  extract_lets j'
  split <;> exact .of_work

theorem Works.refl (s : State) : Works s s := ⟨.refl s, fun _ j hj => ⟨j, hj, .refl j⟩, fun _ _ k hk => ⟨k, hk, rfl⟩⟩

theorem Works.after_foldl {α : Type} {g : State → α → State} {s t : State} (h : Works s t) (step : ∀ u a, Works s u → Works s (g u a))
    (l : List α) : Works s (l.foldl g t) := by
  induction l generalizing t with
  | nil => exact h
  | cons a l ih => exact ih (step t a h)

theorem Works.after_if {s t u : State} {c : Prop} [Decidable c] (h : Works s t) (k : Works s u) : Works s (if c then t else u) := by
  split
  · exact h
  · exact k

theorem Ended.after_foldl {α : Type} {g : State → α → State} {s t : State} (h : Ended s t) (step : ∀ u a, Ended s u → Ended s (g u a))
    (l : List α) : Ended s (l.foldl g t) := by
  induction l generalizing t with
  | nil => exact h
  | cons a l ih => exact ih (step t a h)

theorem Ended.after_if {s t u : State} {c : Prop} [Decidable c] (h : Ended s t) (k : Ended s u) : Ended s (if c then t else u) := by
  split
  · exact h
  · exact k

/-- An event that ends without its tests. -/
theorem Works.ended {s t : State} (h : Works s t) : Ended s t := by
  refine ⟨h.forms, h.owners, fun _ _ i j hj => ?_⟩
  obtain ⟨j', hj', hkept⟩ := h.jobs i j hj
  refine ⟨fun hgone => by simp [hgone] at hj', fun j'' hj'' => ?_⟩
  obtain rfl : j' = j'' := Option.some.inj (hj'.symm.trans hj'')
  exact ⟨hkept.toRecorded, fun hc => ⟨hkept.state.trans hc, hkept.clearable, hkept.attention⟩, fun ho => hkept.state ▸ ho,
    fun hd hr => by simp [hkept.state, hd] at hr, fun hr hd => by simp [hkept.state, hr] at hd⟩

/-! ### Keyed tables -/

/-- A table with a record stored over another one is keyed as it was. -/
theorem pairwise_store {α : Type} {t : Table α} {k : Nat} {a b : α} (hk : (t.map Prod.fst).Pairwise (· < ·)) (ha : lookup t k = some a) :
    ((store t k b).map Prod.fst).Pairwise (· < ·) := by rwa [store_keys b hk ha]

/-- The numbers of a table with a record stored are that record's and those of before. -/
theorem mem_store_keys {α : Type} {t : Table α} {k i : Nat} {b : α} (h : i ∈ (store t k b).map Prod.fst) :
    i = k ∨ i ∈ t.map Prod.fst := by
  obtain ⟨e, he, rfl⟩ := List.mem_map.mp h
  rcases mem_store he with rfl | he
  · exact .inl rfl
  · exact .inr (List.mem_map_of_mem he)

/-- The number of a record that is read is listed. -/
theorem mem_keys_of_lookup {α : Type} {t : Table α} {k : Nat} {a : α} (h : lookup t k = some a) : k ∈ t.map Prod.fst :=
  List.mem_map_of_mem (f := Prod.fst) (mem_of_lookup h)

/-- A record that is read from a keyed table with some records left out was read from the whole table. -/
theorem lookup_of_filter {α : Type} {t : Table α} {keep : Nat × α → Bool} {k : Nat} {a : α} (hk : (t.map Prod.fst).Pairwise (· < ·))
    (h : lookup (t.filter keep) k = some a) : lookup t k = some a :=
  lookup_of_mem hk (List.mem_filter.mp (mem_of_lookup h)).1

/-- A kept record of a keyed table is read from it with other records left out. -/
theorem lookup_filter_of_keep {α : Type} {t : Table α} {keep : Nat × α → Bool} {k : Nat} {a : α} (hk : (t.map Prod.fst).Pairwise (· < ·))
    (h : lookup t k = some a) (hkeep : keep (k, a) = true) : lookup (t.filter keep) k = some a :=
  lookup_of_mem (hk.sublist (List.filter_sublist.map _)) (List.mem_filter.mpr ⟨mem_of_lookup h, hkeep⟩)

/-! ### Changes of the fields -/

section
variable {s t : State}

/-- No form reads, and no test of a job's life, the line, the ports, the slots, the queues and the settings. -/
theorem Works.after_rest (h : Works s t) {resetLow rate : Bool} {rx : Receiver} {inbound : List Frame}
    {dispatch waitingReply sending : Option Frame} {resetPending : Bool} {linkFlags : LinkFlags} {cfg : Settings} {ports : Vector CardPort 8}
    {surveyQueue : List Port} {survey : Option Survey} {known : List (BitVec 64)} {slots : Table Slot} {freeSlots : List Nat}
    {lastGranted : Port} {portUse : Vector PortUse 8} {dests : Vector DestPort 4} {verifyQueue : List Task}
    {windowPeriod windowStart windowCount : Nat} {monitors : Vector Monitor 4} {notices : List Notice} {missed : BitVec 32}
    {expiryCount now : Nat} {pending : List Instr} :
    Works s { t with
      resetLow := resetLow, rate := rate, rx := rx, inbound := inbound, dispatch := dispatch, waitingReply := waitingReply,
      sending := sending, resetPending := resetPending, linkFlags := linkFlags, cfg := cfg, ports := ports, surveyQueue := surveyQueue,
      survey := survey, known := known, slots := slots, freeSlots := freeSlots, lastGranted := lastGranted, portUse := portUse,
      dests := dests, verifyQueue := verifyQueue, windowPeriod := windowPeriod, windowStart := windowStart, windowCount := windowCount,
      monitors := monitors, notices := notices, missed := missed, expiryCount := expiryCount, now := now, pending := pending } :=
  ⟨h.forms.trans ⟨id, id, id⟩, h.jobs, h.owners⟩

theorem Ended.after_rest (h : Ended s t) {resetLow rate : Bool} {rx : Receiver} {inbound : List Frame}
    {dispatch waitingReply sending : Option Frame} {resetPending : Bool} {linkFlags : LinkFlags} {cfg : Settings} {ports : Vector CardPort 8}
    {surveyQueue : List Port} {survey : Option Survey} {known : List (BitVec 64)} {slots : Table Slot} {freeSlots : List Nat}
    {lastGranted : Port} {portUse : Vector PortUse 8} {dests : Vector DestPort 4} {verifyQueue : List Task}
    {windowPeriod windowStart windowCount : Nat} {monitors : Vector Monitor 4} {notices : List Notice} {missed : BitVec 32}
    {expiryCount now : Nat} {pending : List Instr} :
    Ended s { t with
      resetLow := resetLow, rate := rate, rx := rx, inbound := inbound, dispatch := dispatch, waitingReply := waitingReply,
      sending := sending, resetPending := resetPending, linkFlags := linkFlags, cfg := cfg, ports := ports, surveyQueue := surveyQueue,
      survey := survey, known := known, slots := slots, freeSlots := freeSlots, lastGranted := lastGranted, portUse := portUse,
      dests := dests, verifyQueue := verifyQueue, windowPeriod := windowPeriod, windowStart := windowStart, windowCount := windowCount,
      monitors := monitors, notices := notices, missed := missed, expiryCount := expiryCount, now := now, pending := pending } :=
  ⟨h.forms.trans ⟨id, id, id⟩, h.owners, fun hkeyed howned i j hj =>
    have ⟨hgone, hpassed⟩ := h.life hkeyed howned i j hj
    ⟨hgone, fun j' hj' => have p := hpassed j' hj'; ⟨p.toRecorded, p.closing, p.opened, p.drained, p.drains⟩⟩⟩

theorem Works.after_mem (h : Works s t) {mem : List Host.Cell} (hm : Memory.wf t.mem = true → Memory.wf mem = true) :
    Works s { t with mem := mem } :=
  ⟨h.forms.trans ⟨hm, id, id⟩, h.jobs, h.owners⟩

theorem Works.after_readers (h : Works s t) {readers : Vector Reader 8}
    (hr : s.AccsReduced → ∀ p : Port, ∀ c ∈ readers[p.val].chunk, c.acc.Reduced) : Works s { t with readers := readers } :=
  ⟨⟨h.forms.mem, h.forms.keyed, fun hs => ⟨(h.forms.accs hs).1, hr hs, (h.forms.accs hs).2.2⟩⟩, h.jobs, h.owners⟩

theorem Works.after_engines (h : Works s t) {engines : Vector Engine 2}
    (he : s.AccsReduced → ∀ e : EngineIx, ∀ acc ∈ engines[e.val].acc, acc.Reduced) : Works s { t with engines := engines } :=
  ⟨⟨h.forms.mem, h.forms.keyed, fun hs => ⟨(h.forms.accs hs).1, (h.forms.accs hs).2.1, he hs⟩⟩, h.jobs, h.owners⟩

/-- The accumulators of the chunk reads that stand before an event's end are reduced. -/
theorem Works.chunk_reduced (h : Works s t) (hs : s.AccsReduced) {p : Port} {c : ChunkRead} (hc : (t.reader p).chunk = some c) :
    c.acc.Reduced := (h.forms.accs hs).2.1 p c hc

/-- The checkpoints that stand before an event's end are reduced. -/
theorem Works.clip_reduced (h : Works s t) (hs : s.AccsReduced) {c : Nat} {k : Clip} (hk : t.clip c = some k) : k.acc.Reduced :=
  (h.forms.accs hs).1 (c, k) (mem_of_lookup hk)

theorem Works.after_setReader_chunk (h : Works s t) {p : Port} {x : Reader} (hx : s.AccsReduced → ∀ c ∈ x.chunk, c.acc.Reduced) :
    Works s (setReader t p x) := by
  refine h.after_readers fun hs q c hc => ?_
  change c ∈ ((setReader t p x).reader q).chunk at hc
  by_cases hq : q = p
  · subst hq
    rw [setReader_reader_self] at hc
    exact hx hs c hc
  · rw [setReader_reader_of_ne _ hq] at hc
    exact h.chunk_reduced hs hc

/-- A reader that keeps its chunk read. -/
theorem Works.after_setReader (h : Works s t) {p : Port} {x : Reader} (hx : x.chunk = (t.reader p).chunk := by rfl) :
    Works s (setReader t p x) :=
  h.after_setReader_chunk fun hs _ hc => h.chunk_reduced hs (hx ▸ hc)

/-- A reader whose chunk read is over. -/
theorem Works.after_setReader_none (h : Works s t) {p : Port} {x : Reader} (hx : x.chunk = none := by rfl) : Works s (setReader t p x) :=
  h.after_setReader_chunk fun _ c hc => by simp [hx] at hc

theorem Works.after_setEngine_acc (h : Works s t) {e : EngineIx} {x : Engine} (hx : s.AccsReduced → ∀ acc ∈ x.acc, acc.Reduced) :
    Works s (setEngine t e x) := by
  refine h.after_engines fun hs f acc hacc => ?_
  change acc ∈ ((setEngine t e x).engine f).acc at hacc
  by_cases hf : f = e
  · subst hf
    rw [setEngine_engine_self] at hacc
    exact hx hs acc hacc
  · rw [setEngine_engine_of_ne _ hf] at hacc
    exact (h.forms.accs hs).2.2 f acc hacc

/-- An engine that keeps its accumulators. -/
theorem Works.after_setEngine (h : Works s t) {e : EngineIx} {x : Engine} (hx : x.acc = (t.engine e).acc := by rfl) :
    Works s (setEngine t e x) :=
  h.after_setEngine_acc fun hs acc hacc => (h.forms.accs hs).2.2 e acc (hx ▸ hacc)

theorem Works.after_freeEngine (h : Works s t) {e : EngineIx} : Works s (freeEngine e t) :=
  h.after_setEngine_acc fun _ acc hacc => by simp [Engine.idle] at hacc

theorem Works.after_setPort (h : Works s t) {p : Port} {x : CardPort} : Works s (setPort t p x) := h.after_rest

theorem Works.after_setDest (h : Works s t) {d : Dest} {x : DestPort} : Works s (setDest t d x) := h.after_rest

theorem Works.after_setMonitor (h : Works s t) {d : Dest} {x : Monitor} : Works s (setMonitor t d x) := h.after_rest

theorem Works.after_setSlot (h : Works s t) {n : Nat} {x : Slot} : Works s (setSlot t n x) := h.after_rest

/-- A stored job record of a live job keeps the forms. -/
theorem setJob_forms {i : Nat} {j j' : Job} (hj : t.job i = some j) : KeepsForms t (setJob t i j') := by
  refine ⟨id, fun ⟨hjobs, hclips, hlow, hlow'⟩ => ⟨pairwise_store hjobs hj, hclips, fun x hx => ?_, hlow'⟩, id⟩
  rcases mem_store_keys hx with rfl | hx
  · exact hlow _ (mem_keys_of_lookup hj)
  · exact hlow x hx

theorem Works.after_setJob (h : Works s t) {i : Nat} {j j' : Job} (hj : t.job i = some j) (hk : j.Kept j') : Works s (setJob t i j') := by
  refine ⟨h.forms.trans (setJob_forms hj), fun r x hx => ?_, h.owners⟩
  obtain ⟨x', hx', hkept⟩ := h.jobs r x hx
  by_cases hr : r = i
  · subst hr
    obtain rfl : j = x' := Option.some.inj (hj.symm.trans hx')
    exact ⟨j', setJob_job_self _ _ _, hkept.trans hk⟩
  · exact ⟨x', (setJob_job_of_ne _ hr _).trans hx', hkept⟩

theorem Works.after_modJob (h : Works s t) {i : Nat} {f : Job → Job} (hf : ∀ j : Job, j.Kept (f j)) : Works s (modJob i f t) := by
  unfold modJob
  split
  next j hj => exact h.after_setJob hj (hf j)
  · exact h

/-- A change of every job record in place. -/
theorem Works.after_mapJobs (h : Works s t) {f : Nat → Job → Job} (hf : ∀ i (j : Job), j.Kept (f i j)) :
    Works s { t with jobs := t.jobs.map (fun e => (e.1, f e.1 e.2)) } := by
  have hkeys : (t.jobs.map (fun e => (e.1, f e.1 e.2))).map Prod.fst = t.jobs.map Prod.fst := by simp
  refine ⟨h.forms.trans ⟨id, fun hk => ?_, id⟩, fun r x hx => ?_, h.owners⟩
  · simpa only [State.TablesKeyed, hkeys] using hk
  · obtain ⟨x', hx', hkept⟩ := h.jobs r x hx
    refine ⟨f r x', ?_, hkept.trans (hf r x')⟩
    exact (lookup_map f t.jobs r).trans (congrArg (Option.map (f r)) hx')

/-- A stored record of a live clip keeps the tables keyed. -/
theorem setClip_keyed {c : Nat} {k k' : Clip} (hk : t.clip c = some k) : t.TablesKeyed → (setClip t c k').TablesKeyed := by
  rintro ⟨hjobs, hclips, hlow, hlow'⟩
  refine ⟨hjobs, pairwise_store hclips hk, hlow, fun x hx => ?_⟩
  rcases mem_store_keys hx with rfl | hx
  · exact hlow' _ (mem_keys_of_lookup hk)
  · exact hlow' x hx

/-- A stored clip record with a reduced checkpoint keeps the accumulators reduced. -/
theorem setClip_accs {c : Nat} {k' : Clip} (hacc : t.AccsReduced) (ha : k'.acc.Reduced) : (setClip t c k').AccsReduced := by
  refine ⟨fun e he => ?_, hacc.2⟩
  rcases mem_store he with rfl | he
  · exact ha
  · exact hacc.1 e he

theorem Works.after_setClip_acc (h : Works s t) {c : Nat} {k k' : Clip} (hk : t.clip c = some k)
    (ha : s.AccsReduced → k'.acc.Reduced) (hj : k'.job = k.job := by rfl) : Works s (setClip t c k') := by
  refine ⟨⟨h.forms.mem, fun hs => setClip_keyed hk (h.forms.keyed hs), fun hs => setClip_accs (h.forms.accs hs) (ha hs)⟩, h.jobs,
    fun hs i x hx => ?_⟩
  by_cases hi : i = c
  · subst hi
    obtain rfl : k' = x := Option.some.inj ((setClip_clip_self _ _ _).symm.trans hx)
    rw [hj]
    exact h.owners hs i k hk
  · exact h.owners hs i x ((setClip_clip_of_ne _ hi _).symm.trans hx)

/-- A clip that keeps its checkpoint's accumulators. -/
theorem Works.after_setClip (h : Works s t) {c : Nat} {k k' : Clip} (hk : t.clip c = some k) (ha : k'.acc = k.acc := by rfl)
    (hj : k'.job = k.job := by rfl) : Works s (setClip t c k') :=
  h.after_setClip_acc hk (fun hs => ha ▸ h.clip_reduced hs hk) hj

theorem Works.after_modClip (h : Works s t) {c : Nat} {f : Clip → Clip} (ha : ∀ k, (f k).acc = k.acc := by exact fun _ => rfl)
    (hj : ∀ k, (f k).job = k.job := by exact fun _ => rfl) : Works s (modClip c f t) := by
  unfold modClip
  split
  next k hk => exact h.after_setClip hk (ha k) (hj k)
  · exact h

/-- Some clip records are freed. -/
theorem Works.after_filterClips (h : Works s t) {keep : Nat × Clip → Bool} : Works s { t with clips := t.clips.filter keep } := by
  refine ⟨h.forms.trans ⟨id, fun ⟨hjobs, hclips, hlow, hlow'⟩ => ?_, fun hacc => ⟨fun e he => ?_, hacc.2⟩⟩, h.jobs, fun hs c x hx => ?_⟩
  · refine ⟨hjobs, hclips.sublist (List.filter_sublist.map _), hlow, fun x hx => hlow' x ?_⟩
    exact (List.filter_sublist.map _).subset hx
  · exact hacc.1 e (List.mem_filter.mp he).1
  · exact h.owners hs c x (lookup_of_filter (h.forms.keyed hs).2.1 hx)

/-! ### The line and the Notice Queue -/

theorem Works.after_pump (h : Works s t) : Works s (pump t) := by
  rw [pump_frame]
  exact h.after_rest

theorem Works.after_notify (h : Works s t) {n : Notice} : Works s (notify n t) := by
  rw [notify_frame]
  exact h.after_rest

theorem Works.after_sendFrame (h : Works s t) {r : Frame} : Works s (sendFrame r t) := by
  rw [sendFrame_frame]
  exact h.after_rest

theorem Ended.after_notify (h : Ended s t) {n : Notice} : Ended s (notify n t) := by
  rw [notify_frame]
  exact h.after_rest

theorem Ended.after_sendFrame (h : Ended s t) {r : Frame} : Ended s (sendFrame r t) := by
  rw [sendFrame_frame]
  exact h.after_rest

theorem Ended.after_tellAll (h : Ended s t) {ns : List Notice} : Ended s (tellAll ns t) := h.after_foldl (fun _ _ hu => hu.after_notify) ns

theorem Ended.after_setDest (h : Ended s t) {d : Dest} {x : DestPort} : Ended s (setDest t d x) := h.after_rest

/-! ### Operations on records -/

theorem Works.after_modSlot (h : Works s t) {n : Nat} {f : Slot → Slot} : Works s (modSlot n f t) := by
  obtain ⟨_, e⟩ := modSlot_frame t n f
  rw [e]
  exact h.after_rest

theorem Works.after_freeSlot (h : Works s t) {n : Nat} : Works s (freeSlot n t) := h.after_rest

theorem Works.after_freeIfDone (h : Works s t) {n : Nat} : Works s (freeIfDone n t) := by
  obtain ⟨_, _, e⟩ := freeIfDone_frame t n
  rw [e]
  exact h.after_rest

theorem Works.after_cardKick (h : Works s t) {p : Port} : Works s (cardKick p t) := by
  obtain ⟨_, e⟩ := cardKick_frame t p
  rw [e]
  exact h.after_rest

theorem Works.after_clearCard (h : Works s t) {p : Port} : Works s (clearCard p t) := h.after_setPort

theorem Works.after_abandonCard (h : Works s t) {p : Port} : Works s (abandonCard p t) := by
  obtain ⟨_, e⟩ := abandonCard_frame t p
  rw [e]
  exact h.after_rest

theorem Works.after_bridgeSend (h : Works s t) {d : Dest} {ask : Option BridgeAsk} {again : Bool} : Works s (bridgeSend d ask again t) := by
  obtain ⟨_, e⟩ := bridgeSend_frame t d ask again
  rw [e]
  exact h.after_rest

theorem Works.after_bridgeKick (h : Works s t) {d : Dest} : Works s (bridgeKick d t) := by
  obtain ⟨_, e⟩ := bridgeKick_frame t d
  rw [e]
  exact h.after_rest

theorem Works.after_clearBridge (h : Works s t) {d : Dest} : Works s (clearBridge d t) := h.after_setDest

/-- A cancelled pass leaves every chunk read's accumulators (R82). -/
theorem Works.after_cancelPass (h : Works s t) {c : Nat} : Works s (cancelPass c t) := by
  refine h.after_readers fun hs p x hx => ?_
  rw [Vector.getElem_map] at hx
  obtain ⟨y, hy, rfl⟩ := Option.map_eq_some_iff.mp hx
  have hreduced := h.chunk_reduced hs (p := p) hy
  split <;> exact hreduced

theorem Works.after_leaveRecopyList (h : Works s t) {c : Nat} : Works s (leaveRecopyList c t) := by
  unfold leaveRecopyList
  split
  · exact .after_if (h.after_modJob fun _ => .of_work) h
  · exact h

theorem Works.after_leaveRecopy (h : Works s t) {c : Nat} {d : Dest} : Works s (leaveRecopy c d t) := by
  unfold leaveRecopy
  split
  next k hk => exact .after_if (.after_leaveRecopyList (.after_if (h.after_setClip hk).after_cancelPass (h.after_setClip hk))) h
  · exact h

theorem Works.after_setCopyState (h : Works s t) {c : Nat} {d : Dest} {st : CopyState} {cause : Cause} :
    Works s (setCopyState c d st cause t) := h.after_modClip

theorem Works.after_setSv (h : Works s t) {c : Nat} {sv : SvState} : Works s (setSv c sv t) := h.after_modClip

theorem Works.after_tellCopy (h : Works s t) {c : Nat} {news : CopyNews} {cause : Cause} : Works s (tellCopy c news cause t) := by
  unfold tellCopy
  split
  · exact h.after_notify
  · exact h

theorem Works.after_failCopy (h : Works s t) {c : Nat} {d : Dest} {st : CopyState} {cause : Cause} : Works s (failCopy c d st cause t) :=
  h.after_setCopyState.after_leaveRecopy.after_tellCopy

theorem Works.after_dropHolds (h : Works s t) {d : Dest} {soft hard : Bool} : Works s (dropHolds d soft hard t) :=
  h.after_mapJobs (f := fun _ j =>
    j.withHolds (if soft then derase j.softHold d else j.softHold) (if hard then derase j.hardHold d else j.hardHold))
    fun _ _ => withHolds_kept _ _ _

/-- A job with destination `d` added to a hold set, if it is READING and uses `d` (R159). -/
def Job.heldBy (d : Dest) (hard : Bool) (j : Job) : Job :=
  if j.state = .reading ∧ dmem j.destSet d = true then
    if hard then j.withHolds j.softHold (dinsert j.hardHold d) else j.withHolds (dinsert j.softHold d) j.hardHold
  else j

theorem addHolds_eq (d : Dest) (hard : Bool) (s : State) :
    addHolds d hard s = { s with jobs := s.jobs.map (fun e => (e.1, e.2.heldBy d hard)) } := by
  have hmap : (fun e : Nat × Job => (e.1, e.2.heldBy d hard)) = fun e =>
      if e.2.state = .reading ∧ dmem e.2.destSet d = true then
        (e.1, if hard then e.2.withHolds e.2.softHold (dinsert e.2.hardHold d) else e.2.withHolds (dinsert e.2.softHold d) e.2.hardHold)
      else e := by
    funext e
    unfold Job.heldBy
    split <;> rfl
  rw [addHolds, hmap]

theorem heldBy_kept (d : Dest) (hard : Bool) (j : Job) : j.Kept (j.heldBy d hard) := by
  unfold Job.heldBy
  split
  · split <;> exact withHolds_kept _ _ _
  · exact .refl j

theorem Works.after_addHolds (h : Works s t) {d : Dest} {hard : Bool} : Works s (addHolds d hard t) := by
  rw [addHolds_eq]
  exact h.after_mapJobs (f := fun _ j => j.heldBy d hard) fun _ j => heldBy_kept d hard j

/-! ### The end of an event -/

theorem Works.after_refresh (h : Works s t) : Works s (refresh t) := by
  have hreaders : Works s { t with readers := (refresh t).readers } := by
    refine h.after_readers fun hs p c hc => ?_
    change c ∈ ((refresh t).reader p).chunk at hc
    rw [refresh_reader] at hc
    exact h.chunk_reduced hs hc
  exact hreaders.after_rest

theorem Ended.after_refresh (h : Ended s t) : Ended s (refresh t) := by
  have hforms : KeepsForms s (refresh t) := h.forms.trans (Works.refl t).after_refresh.forms
  refine ⟨hforms, h.owners, fun hkeyed howned i j hj => ?_⟩
  obtain ⟨hgone, hpassed⟩ := h.life hkeyed howned i j hj
  exact ⟨hgone, fun j' hj' => have p := hpassed j' hj'; ⟨p.toRecorded, p.closing, p.opened, p.drained, p.drains⟩⟩

/-- A record stored over a live job's, which passes on where the old one did. -/
theorem Ended.after_setJob (h : Ended s t) {i : Nat} {j j' : Job} (hj : t.job i = some j)
    (hp : ∀ j0 : Job, j0.Passed t j → j0.Passed t j') : Ended s (setJob t i j') := by
  refine ⟨h.forms.trans (setJob_forms hj), h.owners, fun hkeyed howned r x hx => ?_⟩
  obtain ⟨hgone, hpassed⟩ := h.life hkeyed howned r x hx
  by_cases hr : r = i
  · subst hr
    rw [setJob_job_self]
    refine ⟨by simp, fun y hy => ?_⟩
    obtain rfl := Option.some.inj hy
    have p := hp x (hpassed j hj)
    exact ⟨p.toRecorded, p.closing, p.opened, p.drained, p.drains⟩
  · rw [setJob_job_of_ne _ hr]
    exact ⟨hgone, fun y hy => have p := hpassed y hy; ⟨p.toRecorded, p.closing, p.opened, p.drained, p.drains⟩⟩

/-- Whether a clip has been read is decided by its source state alone. -/
theorem clipRead_congr {u v : State} {c : Nat} (h : (u.clip c).map Clip.sourceState = (v.clip c).map Clip.sourceState) :
    clipRead u c = clipRead v c := by
  unfold clipRead
  cases hu : u.clip c <;> cases hv : v.clip c <;> simp_all

/-- A clip that has been read is live. -/
theorem clip_of_clipRead {u : State} {c : Nat} (h : clipRead u c = true) : ∃ k, u.clip c = some k := by
  unfold clipRead at h
  split at h
  next k hk => exact ⟨k, hk⟩
  · simp at h

/-- The issue of a SOURCE task does not move a clip's source state. -/
theorem issueTask_clipRead (u : State) (c i : Nat) : clipRead (issueTask u c) i = clipRead u i := by
  refine clipRead_congr ?_
  unfold issueTask
  split
  next k hk =>
    split
    · by_cases hi : i = c
      · subst hi
        have hnew : (setClip u i { k with sv := .queued }).clip i = some { k with sv := .queued } := setClip_clip_self _ _ _
        exact (congrArg (Option.map Clip.sourceState) hnew).trans (congrArg (Option.map Clip.sourceState) hk).symm
      · exact congrArg (Option.map Clip.sourceState) (setClip_clip_of_ne u hi _)
    · rfl
  · rfl

theorem Works.after_issueTask (h : Works s t) {c : Nat} : Works s (issueTask t c) := by
  unfold issueTask
  split
  next k hk => exact .after_if (Works.after_rest (h.after_setClip hk)) h
  · exact h

theorem issueTask_job (u : State) (c i : Nat) : (issueTask u c).job i = u.job i := by
  unfold issueTask
  split
  · split <;> rfl
  · rfl

theorem Ended.after_issueTask (h : Ended s t) {c : Nat} : Ended s (issueTask t c) := by
  have hwork := (Works.refl t).after_issueTask (c := c)
  refine ⟨h.forms.trans hwork.forms, fun hs i k hk => ?_, fun hkeyed howned i j hj => ?_⟩
  · obtain ⟨k', hk', hjob'⟩ := hwork.owners (h.forms.keyed hs) i k hk
    obtain ⟨k'', hk'', hjob''⟩ := h.owners hs i k' hk'
    exact ⟨k'', hk'', hjob'.trans hjob''⟩
  · obtain ⟨hgone, hpassed⟩ := h.life hkeyed howned i j hj
    rw [issueTask_job]
    refine ⟨hgone, fun j' hj' => ?_⟩
    have p := hpassed j' hj'
    exact ⟨p.toRecorded, p.closing, p.opened, p.drained, by simpa only [issueTask_clipRead] using p.drains⟩

/-- A job that meets the four conditions of R38 is drained. -/
theorem Ended.after_drainJob (h : Ended s t) {i : Nat} : Ended s (drainJob t i) := by
  unfold drainJob
  split
  next j hj =>
    split
    next hmet =>
      have hdrained : Ended s (setJob t i { j with state := .drained, tasksIssued := true }) := by
        simp only [drainMet, Bool.and_eq_true, decide_eq_true_eq, List.all_eq_true, List.isEmpty_iff] at hmet
        obtain ⟨⟨⟨⟨hreading, hfinal⟩, hread⟩, hrecopy⟩, _⟩ := hmet
        refine h.after_setJob hj fun j0 p => ⟨⟨p.identity, p.destSet, p.destIds, p.required, p.sourceVerify, p.quota, p.order⟩,
          fun hc => ?_, fun _ => by simp, fun _ => by simp, fun _ _ => ⟨hfinal, hrecopy, hread⟩⟩
        simp [(p.closing hc).1] at hreading
      exact .after_if (hdrained.after_notify.after_foldl (fun _ _ hu => hu.after_issueTask) _) hdrained.after_notify
    · exact h
  · exact h

/-- An evaluation leaves a CLOSING job, and every job's state (R145, R47). -/
theorem Ended.after_evalJob (h : Ended s t) {i : Nat} : Ended s (evalJob t i) := by
  unfold evalJob
  split
  next j hj =>
    split
    · exact h
    next hopen =>
      have hset : Ended s (setJob t i { j with attention := attentionMet t j, clearable := clearableMet t j }) := by
        refine h.after_setJob hj fun j0 p => ⟨⟨p.identity, p.destSet, p.destIds, p.required, p.sourceVerify, p.quota, p.order⟩,
          fun hc => absurd (p.closing hc).1 hopen, p.opened, p.drained, p.drains⟩
      exact .after_if hset (.after_if hset.after_notify hset.after_notify)
  · exact h

/-- A freed job record keeps the forms. -/
theorem eraseJob_forms {i : Nat} : KeepsForms t { t with jobs := erase t.jobs i } := by
  refine ⟨id, fun ⟨hjobs, hclips, hlow, hlow'⟩ => ⟨hjobs.sublist (List.filter_sublist.map _), hclips, fun y hy => hlow y ?_, hlow'⟩, id⟩
  exact (List.filter_sublist.map _).subset hy

/-- A free test frees a CLOSING job with its clips; those of another job's order list are that job's own (R46). -/
theorem Ended.after_freeJob (h : Ended s t) {i : Nat} : Ended s (freeJob t i) := by
  unfold freeJob
  split
  next j hj =>
    split
    next hfree =>
      obtain ⟨hclosing, _⟩ := hfree
      have hclips := (Works.refl t).after_filterClips (keep := fun e => decide (e.2.job ≠ i))
      refine Ended.after_notify ⟨h.forms.trans (hclips.forms.trans eraseJob_forms), fun hs c k hk => ?_, fun hkeyed howned r x hx => ?_⟩
      · exact h.owners hs c k (lookup_of_filter (h.forms.keyed hs).2.1 hk)
      · obtain ⟨hgone, hpassed⟩ := h.life hkeyed howned r x hx
        by_cases hr : r = i
        · subst hr
          exact ⟨fun _ => by_contra fun hopen => (hpassed j hj).opened hopen hclosing,
            fun y hy => nomatch (lookup_erase_self t.jobs r).symm.trans hy⟩
        · have hsame : lookup (erase t.jobs i) r = t.job r := lookup_erase_of_ne t.jobs hr
          refine ⟨fun hnone => hgone (hsame.symm.trans hnone), fun y hy => ?_⟩
          have p := hpassed y (hsame.symm.trans hy)
          refine ⟨p.toRecorded, p.closing, p.opened, p.drained, fun hreading hdrained => ?_⟩
          obtain ⟨hfinal, hrecopy, hread⟩ := p.drains hreading hdrained
          refine ⟨hfinal, hrecopy, fun c hc => ?_⟩
          obtain ⟨k, hk⟩ := clip_of_clipRead (hread c hc)
          obtain ⟨k0, hk0, hjob⟩ := h.owners hkeyed c k hk
          have hother : k.job ≠ i := by
            rw [hjob, howned r x hx c (p.order ▸ hc) k0 hk0]
            exact hr
          rw [← hread c hc]
          refine clipRead_congr (congrArg (Option.map Clip.sourceState) ?_)
          exact (lookup_filter_of_keep (h.forms.keyed hkeyed).2.1 hk (by simpa using hother)).trans hk.symm
    · exact h
  · exact h

theorem Ended.after_closeJobs (h : Ended s t) {hs : List Nat} : Ended s (closeJobs hs t) :=
  ((h.after_foldl (fun _ _ hu => hu.after_drainJob) hs).after_foldl (fun _ _ hu => hu.after_evalJob) hs).after_foldl
    (fun _ _ hu => hu.after_freeJob) hs

theorem Works.after_closeJobs (h : Works s t) {hs : List Nat} : Ended s (closeJobs hs t) := h.ended.after_closeJobs

theorem Works.after_seeBacklog (h : Works s t) {d : Dest} : Works s (seeBacklog t d) := by
  have hholds (m : Monitor) (x : Monitor) : Works s (crossingHolds d m (setMonitor t d x)) := by
    unfold crossingHolds
    split
    · exact h.after_setMonitor.after_addHolds
    · exact h.after_setMonitor.after_addHolds
    · exact h.after_setMonitor
  unfold seeBacklog
  exact .after_if h (.after_if (.after_if h.after_setMonitor (hholds _ _)) h.after_setMonitor)

theorem Works.after_closeSeen (h : Works s t) {hs : List Nat} : Ended s (closeSeen hs t) :=
  (h.after_foldl (fun _ _ hu => hu.after_seeBacklog) _).after_closeJobs.after_tellAll

end

end Sys2Proof.Machine
end


section
/-! SUPPORT. The forms and the life of a job, block by block: what the engines, the loss procedure, the cards, the jobs, the destination
ports, the line, the monitors and the readers do is the work of an event, or an event with the tests at its end. -/

namespace Sys2Proof.Machine

-- One theorem at a time: checking them all at once needs more threads than the sandbox gives.
set_option Elab.async false

open Sys2Proof

section
variable {s t : State}

/-! ### The Verify Engines and the loss procedure (spec/07, R117 to R119) -/

theorem Works.after_withdraw (h : Works s t) {e : EngineIx} : Works s (withdraw e t) := by
  have hreaders : Works s { t with readers := (withdraw e t).readers } := by
    refine h.after_readers fun hs p c hc => ?_
    change c ∈ ((withdraw e t).reader p).chunk at hc
    rw [withdraw_reader] at hc
    exact h.chunk_reduced hs hc
  exact hreaders.after_rest

theorem Works.after_askSegment (h : Works s t) {e : EngineIx} : Works s (askSegment e t) := by
  unfold askSegment
  split
  · dsimp only
    split
    · exact h.after_setEngine.after_setDest
    · split
      · exact h.after_setEngine.after_setReader
      · exact h.after_setEngine
  · exact h

theorem Works.after_giveUp (h : Works s t) {e : EngineIx} : Works s (giveUp e t) := by
  unfold giveUp
  split
  · exact Works.after_rest h.after_withdraw.after_freeEngine.after_setSv
  · exact h

theorem Works.after_svLetGo (h : Works s t) {u : Task} : Works s (svLetGo u t) := by
  unfold svLetGo
  split
  · exact h.after_modClip (fun k => by split <;> rfl) (fun k => by split <;> rfl)
  · exact h

theorem Works.after_letGo (h : Works s t) {e : EngineIx} : Works s (letGo e t) := by
  unfold letGo
  split
  · exact h.after_withdraw.after_freeEngine.after_svLetGo
  · exact h

theorem Works.after_settleTarget (h : Works s t) {u : Task} {copy : CopyState} {sv : SvState} {cause : Cause} :
    Works s (settleTarget u copy sv cause t) := by
  unfold settleTarget
  split
  · exact .after_if h.after_setCopyState.after_tellCopy h.after_failCopy
  · exact h.after_setSv.after_tellCopy

theorem Works.after_retryTarget (h : Works s t) {u : Task} : Works s (retryTarget u t) := by
  unfold retryTarget
  split
  · exact h.after_modClip
  · exact h.after_setSv

theorem Works.after_compareTask (h : Works s t) {e : EngineIx} {u : Task} {i : Nat} : Ended s (compareTask e u i t) := by
  unfold compareTask
  refine .after_if h.after_freeEngine.after_settleTarget.after_closeJobs (.after_if ?_ h.after_freeEngine.after_settleTarget.after_closeJobs)
  exact Works.after_closeJobs (Works.after_rest h.after_freeEngine.after_retryTarget)

theorem Works.after_segmentComplete (h : Works s t) {g : Segment} : Ended s (segmentComplete g t) := by
  unfold segmentComplete
  split
  · exact .after_if h.after_letGo.after_closeJobs (.after_if h.after_giveUp.after_closeJobs
      (.after_if h.after_setEngine.after_askSegment.ended h.after_setEngine.after_compareTask))
  · exact h.ended

theorem Works.after_segmentFailed (h : Works s t) {g : Segment} : Ended s (segmentFailed g t) := by
  unfold segmentFailed
  split
  · exact .after_if h.after_letGo.after_closeJobs
      (.after_if h.after_giveUp.after_closeJobs h.after_freeEngine.after_settleTarget.after_closeJobs)
  · exact h.ended

/-- The data folded into an engine's accumulators leave them reduced (R89, R91). -/
theorem Works.after_foldSegment (h : Works s t) {g : Segment} {count : Nat} {data : List Byte} : Works s (foldSegment g count data t) := by
  unfold foldSegment
  dsimp only
  split
  next k acc _ hacc =>
    refine h.after_setEngine_acc fun hs x hx => ?_
    obtain rfl := Option.some.inj hx
    exact foldStream_reduced ((h.forms.accs hs).2.2 g.engine acc hacc) _ _
  · exact h

theorem Works.after_startTarget (h : Works s t) {u : Task} : Works s (startTarget u t) := by
  unfold startTarget
  split
  · exact h.after_modClip
  · exact h.after_setSv

theorem Works.after_takeTask (h : Works s t) {e : EngineIx} {u : Task} {i : Nat} : Works s (takeTask e u i t) := by
  have hstart : Works s (startTarget u { t with verifyQueue := t.verifyQueue.erase u }) := Works.after_startTarget h.after_rest
  refine Works.after_askSegment (hstart.after_setEngine_acc fun _ x hx => ?_)
  obtain rfl := Option.some.inj hx
  exact start_reduced

theorem Works.after_takeNext (h : Works s t) : Ended s (takeNext t) := by
  unfold takeNext
  split
  · split
    · exact h.after_takeTask.after_closeJobs.after_refresh
    · exact h.ended
  · exact h.ended

theorem Works.after_loseCopy (h : Works s t) {d : Dest} {lost : Option DestIdentity} {c : Nat} : Works s (loseCopy d lost t c) := by
  unfold loseCopy
  split
  · split
    · refine .after_if ?_ h
      split
      · exact h.after_failCopy
      · exact h.after_setCopyState.after_tellCopy
      · exact h
    · exact h
  · exact h

theorem Works.after_dropFromSlots (h : Works s t) {d : Dest} : Works s (dropFromSlots d t) :=
  Works.after_foldl h.after_rest (fun _ _ hu => hu.after_freeIfDone) _

theorem Works.after_dropTasks (h : Works s t) {d : Dest} : Works s (dropTasks d t) := by
  have hengines : Works s { t with engines := t.engines.map (fun e => if e.isFor d then Engine.idle else e) } := by
    refine h.after_engines fun hs e x hx => ?_
    rw [Vector.getElem_map] at hx
    split at hx
    · simp [Engine.idle] at hx
    · exact (h.forms.accs hs).2.2 e x hx
  exact hengines.after_rest

theorem Works.after_loseDest (h : Works s t) {d : Dest} {st : DestState} {reason : DestReason} : Ended s (loseDest d st reason t) := by
  refine Ended.after_refresh (Works.after_closeJobs (Works.after_setMonitor (Works.after_dropHolds (Works.after_dropTasks ?_))))
  exact h.after_setDest.after_dropFromSlots.after_notify.after_foldl (fun _ _ hu => hu.after_loseCopy) _

/-! ### Card ports and the survey (spec/02) -/

theorem Works.after_joinSurvey (h : Works s t) {p : Port} : Works s (joinSurvey p t) := by
  rw [joinSurvey_eq]
  exact h.after_rest

theorem Works.after_settled (h : Works s t) {p : Port} : Works s (settled p t) := by
  unfold settled
  exact .after_if (Works.after_if h.after_setPort.after_notify.after_joinSurvey h.after_setPort.after_notify).after_refresh h

theorem Works.after_rollBack (h : Works s t) {p : Port} : Works s (rollBack p t) := by
  unfold rollBack
  split
  · exact .after_if h.after_setReader_none.after_freeSlot.after_modClip h.after_setReader_none.after_freeSlot
  · exact h

theorem Works.after_removeEngine (h : Works s t) {p : Port} {e : EngineIx} : Works s (removeEngine p t e) := by
  unfold removeEngine
  exact .after_if (.after_if h.after_letGo h.after_giveUp) h

theorem Works.after_removeSegments (h : Works s t) {p : Port} : Works s (removeSegments p t) := by
  have hengines : Works s (removeEngines p t) := h.after_removeEngine.after_removeEngine
  rcases removeSegments_cases p t with ⟨_, he⟩ | he
  · rw [he]
    exact hengines
  · rw [he]
    exact hengines.after_setReader

theorem Works.after_unbind (h : Works s t) {job : Option Nat} : Works s (unbind job t) := by
  unfold unbind
  split
  · exact h.after_modJob fun _ => .of_work
  · exact h

theorem Works.after_endSurvey (h : Works s t) {p : Port} : Works s (endSurvey p t) := by
  unfold endSurvey
  exact h.after_rest

theorem Works.after_leaveSurveyQueue (h : Works s t) {p : Port} : Works s (leaveSurveyQueue p t) := by
  unfold leaveSurveyQueue
  exact h.after_rest

theorem Works.after_workEnded (h : Works s t) {p : Port} : Works s (workEnded p t) := h.after_abandonCard.after_rollBack.after_removeSegments

theorem Works.after_takeCard (h : Works s t) {p : Port} {job : Option Nat} : Works s (takeCard p job t) :=
  h.after_endSurvey.after_leaveSurveyQueue.after_unbind.after_setPort.after_notify

theorem Works.after_removeCard (h : Works s t) {p : Port} : Ended s (removeCard p t) := by
  rw [removeCard_eq]
  exact h.after_workEnded.after_takeCard.after_closeJobs.after_refresh

theorem Works.after_absenceExpired (h : Works s t) {p : Port} : Ended s (absenceExpired p t) := by
  unfold absenceExpired
  refine .after_if ?_ h.ended
  split
  · exact h.ended
  · exact h.after_setPort.after_refresh.ended
  · exact h.after_removeCard

theorem Works.after_holdError (h : Works s t) {p : Port} : Works s (holdError p t) := by
  unfold holdError
  split
  · split
    · exact h
    · exact h.after_setPort
  · exact h

theorem Works.after_endAbandoned (h : Works s t) {p : Port} : Ended s (endAbandoned p t) := by
  unfold endAbandoned
  split
  · split
    · exact h.after_clearCard.after_cardKick.after_closeJobs.after_refresh
    · exact h.ended
  · exact h.ended

theorem Works.after_cardTimedOut (h : Works s t) {p : Port} : Ended s (cardTimedOut p t) := by
  unfold cardTimedOut
  split
  · split
    · exact h.after_endAbandoned
    · exact h.after_holdError.ended
  · exact h.ended

theorem Works.after_blinkToggle (h : Works s t) {p : Port} : Works s (blinkToggle p t) := by
  unfold blinkToggle
  exact .after_if h.after_setPort h

theorem Works.after_startSurvey (h : Works s t) : Works s (startSurvey t) := by
  unfold startSurvey
  split
  · exact (Works.after_setPort h.after_rest).after_cardKick.after_refresh
  · exact h

theorem Works.after_failSurvey (h : Works s t) {p : Port} {cause : SurveyCause} : Works s (failSurvey p cause t) :=
  (Works.after_setPort h.after_rest).after_notify.after_refresh

theorem Works.after_surveyIdentified (h : Works s t) {answer : AdapterIdentity} : Works s (surveyIdentified answer t) := by
  unfold surveyIdentified
  split
  · exact .after_if (.after_if h.after_clearCard.after_failSurvey (.after_if h.after_clearCard.after_failSurvey
      (Works.after_cardKick (Works.after_rest h.after_clearCard)))) h
  · exact h

theorem Works.after_bindJob (h : Works s t) {i : Nat} {p : Port} : Works s (bindJob i p t) :=
  (h.after_modJob fun _ => .of_work).after_setPort.after_setReader

theorem Works.after_completeSurvey (h : Works s t) {p : Port} {card : CardIdentity} : Works s (completeSurvey p card t) := by
  have hidentified : Works s (notify (.cardIdentified p card)
      (setPort { t with survey := none } p { t.port p with state := .identified, identity := some card })) :=
    (Works.after_setPort h.after_rest).after_notify
  refine Works.after_refresh ?_
  split
  · exact hidentified.after_bindJob.after_notify
  · exact .after_if hidentified.after_notify hidentified

theorem Works.after_surveyRead (h : Works s t) {data : List Byte} : Works s (surveyRead data t) := by
  unfold surveyRead
  split
  · split
    · exact .after_if h.after_clearCard.after_completeSurvey h
    · exact h
  · exact h

theorem Works.after_surveyError (h : Works s t) {p : Port} : Works s (surveyError p t) := by
  unfold surveyError
  split
  · exact .after_if (Works.after_cardKick h.after_rest) h.after_failSurvey
  · exact h

/-! ### Jobs (spec/03) -/

theorem Works.after_unbindPort (h : Works s t) {binding : Option Port} {st : PortState} : Works s (unbindPort binding st t) := by
  obtain ⟨_, e⟩ := unbindPort_frame binding st t
  rw [e]
  exact h.after_rest

theorem Works.after_pauseEngine (h : Works s t) {i : Nat} {e : EngineIx} : Works s (pauseEngine i t e) := by
  unfold pauseEngine
  split
  · exact .after_if h.after_giveUp h
  · exact h

/-- A change of every clip record in place that keeps its checkpoint's accumulators and its job. -/
theorem Works.after_mapClips (h : Works s t) {f : Nat → Clip → Clip} (ha : ∀ c k, (f c k).acc = k.acc) (hj : ∀ c k, (f c k).job = k.job) :
    Works s { t with clips := t.clips.map (fun e => (e.1, f e.1 e.2)) } := by
  have hkeys : (t.clips.map (fun e => (e.1, f e.1 e.2))).map Prod.fst = t.clips.map Prod.fst := by simp
  refine ⟨h.forms.trans ⟨id, fun hk => ?_, fun hacc => ⟨fun e he => ?_, hacc.2⟩⟩, h.jobs, fun hs c k' hk' => ?_⟩
  · simpa only [State.TablesKeyed, hkeys] using hk
  · obtain ⟨x, hx, rfl⟩ := List.mem_map.mp he
    exact ha x.1 x.2 ▸ hacc.1 x hx
  · obtain ⟨k, hk, rfl⟩ := Option.map_eq_some_iff.mp ((lookup_map f t.clips c).symm.trans hk')
    obtain ⟨k0, hk0, hjob⟩ := h.owners hs c k hk
    exact ⟨k0, hk0, (hj c k).trans hjob⟩

/-- The clips of an aborted job, one by one: BUILDING ones are freed, the others change in place (R44). -/
theorem abortClips_eq (i : Nat) (s : State) :
    abortClips i s = { s with
      clips := (s.clips.filter (fun e => !(decide (e.2.job = i) && decide (e.2.sourceState = .building)))).map
        (fun e => (e.1, if e.2.job = i then e.2.aborted else e.2)) } := by
  have hmap : (fun e : Nat × Clip => (e.1, if e.2.job = i then e.2.aborted else e.2)) =
      fun e => if e.2.job = i then (e.1, e.2.aborted) else e := by
    funext e
    split <;> rfl
  rw [abortClips, hmap]

theorem Works.after_abortClips (h : Works s t) {i : Nat} : Works s (abortClips i t) := by
  rw [abortClips_eq]
  refine Works.after_mapClips h.after_filterClips (f := fun _ k => if k.job = i then k.aborted else k) (fun _ k => ?_) (fun _ k => ?_) <;>
    split <;> rfl

theorem Works.after_abortDest (h : Works s t) {i : Nat} {d : Dest} : Works s (abortDest i t d) := by
  unfold abortDest
  dsimp only
  split
  · exact .after_if (.after_if h.after_setDest (Works.after_modSlot h.after_setDest)) h.after_setDest
  · exact .after_if (.after_if h.after_setDest (Works.after_letGo h.after_setDest)) h.after_setDest
  · exact h.after_setDest

theorem Works.after_abortReader (h : Works s t) {i : Nat} {p : Port} : Works s (abortReader i t p) := by
  unfold abortReader
  extract_lets _ s1
  have hchunk : Works s s1 := by
    unfold s1
    split
    next c hc =>
      refine .after_if (.after_if (h.after_setReader_chunk fun hs x hx => ?_) h.after_setReader_none.after_freeSlot) h
      obtain rfl := Option.some.inj hx
      have hacc : c.acc.Reduced := h.chunk_reduced hs hc
      exact hacc
    · exact h
  clear_value s1
  split
  · exact .after_if (.after_if hchunk.after_setReader hchunk.after_setReader.after_letGo) hchunk
  · exact hchunk

theorem Works.after_abortEngine (h : Works s t) {i : Nat} {e : EngineIx} : Works s (abortEngine i t e) := by
  unfold abortEngine
  exact .after_if h.after_letGo h

theorem Works.after_abortSlots (h : Works s t) {i : Nat} : Works s (abortSlots i t) :=
  Works.after_foldl h.after_rest (fun _ _ hu => hu.after_freeIfDone) _

/-! ### The destination ports (spec/06) -/

theorem Works.after_destState (h : Works s t) {d : Dest} {st : DestState} {reason : DestReason} : Works s (destState d st reason t) :=
  h.after_setDest.after_notify

theorem Works.after_startIdentify (h : Works s t) {d : Dest} {reason : DestReason} : Works s (startIdentify d reason t) :=
  h.after_setDest.after_destState.after_bridgeKick

theorem Works.after_linkComesUp (h : Works s t) {d : Dest} : Works s (linkComesUp d t) := by
  unfold linkComesUp
  exact .after_if h h.after_setDest.after_startIdentify

theorem Works.after_linkGoesDown (h : Works s t) {d : Dest} : Ended s (linkGoesDown d t) := by
  unfold linkGoesDown
  exact .after_if (.after_if h.after_setDest.after_loseDest.after_setDest h.after_setDest.after_setDest.after_destState.ended) h.ended

theorem Works.after_identifyAnswered (h : Works s t) {d : Dest} {answer : Option DestIdentity} : Works s (identifyAnswered d answer t) := by
  unfold identifyAnswered
  refine .after_if ?_ h
  dsimp only
  split
  · exact h.after_clearBridge.after_setDest.after_destState
  · exact h.after_clearBridge.after_destState

theorem Works.after_attach (h : Works s t) {d : Dest} : Works s (attach d t) :=
  h.after_setDest.after_setMonitor.after_destState.after_refresh

theorem Works.after_startWrite (h : Works s t) {d : Dest} {n : Nat} {rest : List Nat} : Works s (startWrite d n rest t) :=
  h.after_setDest.after_modSlot.after_bridgeKick

theorem Works.after_startDestSegment (h : Works s t) {d : Dest} {e : EngineIx} {rest : List EngineIx} :
    Works s (startDestSegment d e rest t) :=
  h.after_setEngine.after_setDest.after_bridgeKick

theorem Works.after_decideOp (h : Works s t) {d : Dest} : Works s (decideOp d t) := by
  have hflush : Works s (startFlush d t) := h.after_setDest.after_bridgeKick
  have hchoose : Works s (chooseOp d t) := by
    unfold chooseOp
    split
    · exact h.after_startWrite
    · exact h.after_startDestSegment
    · exact .after_if h.after_startDestSegment h.after_startWrite
    · exact h
  unfold decideOp
  exact .after_if (.after_if hflush hchoose) h

theorem Works.after_countChunk (h : Works s t) {c : Nat} {d : Dest} : Works s (countChunk c d t) := by
  unfold countChunk
  split
  next k hk =>
    exact .after_if (.after_if (h.after_setClip hk) (.after_if (h.after_setClip hk).after_failCopy (Works.after_setDest (h.after_setClip hk)))) h
  · exact h

theorem Works.after_finishWrite (h : Works s t) {d : Dest} {n : Nat} : Ended s (finishWrite d n t) :=
  (h.after_setDest.after_foldl (fun _ _ hu => hu.after_countChunk) _).after_modSlot.after_freeIfDone.after_closeSeen.after_refresh

theorem Works.after_endAbortedWrite (h : Works s t) {d : Dest} {n : Nat} : Ended s (endAbortedWrite d n t) :=
  h.after_setDest.after_modSlot.after_freeIfDone.after_closeSeen.after_refresh

theorem Works.after_writeAnswered (h : Works s t) {d : Dest} : Ended s (writeAnswered d t) := by
  unfold writeAnswered
  split
  · exact .after_if h.after_setDest.after_endAbortedWrite
      (.after_if h.after_setDest.after_bridgeKick.ended h.after_setDest.after_finishWrite)
  · exact h.ended

theorem Works.after_failPort (h : Works s t) {d : Dest} {reason : DestReason} : Ended s (failPort d reason t) :=
  h.after_setDest.after_loseDest

theorem Works.after_failWrite (h : Works s t) {d : Dest} {n : Nat} : Ended s (failWrite d n t) :=
  (h.after_foldl (fun _ _ hu => .after_if hu.after_failCopy hu) _).after_failPort.after_tellAll

theorem Works.after_noteError (h : Works s t) {d : Dest} {ask : BridgeAsk} {timedOut : Bool} : Works s (noteError d ask timedOut t) :=
  h.after_setDest

theorem Works.after_resend (h : Works s t) {d : Dest} {ask : BridgeAsk} : Works s (resend d ask t) := h.after_bridgeSend

theorem Works.after_writeError (h : Works s t) {d : Dest} {timedOut : Bool} : Ended s (writeError d timedOut t) := by
  unfold writeError
  split
  · exact .after_if h.after_noteError.after_endAbortedWrite
      (.after_if h.after_noteError.after_failWrite h.after_noteError.after_resend.ended)
  · exact h.ended

theorem Works.after_flushCopy (h : Works s t) {d : Dest} {c : Nat} : Works s (flushCopy d t c) := by
  unfold flushCopy
  exact .after_if (Works.after_rest h.after_modClip) h

theorem Works.after_flushAnswered (h : Works s t) {d : Dest} : Ended s (flushAnswered d t) := by
  unfold flushAnswered
  split
  · exact (h.after_setDest.after_foldl (fun _ _ hu => hu.after_flushCopy) _).after_closeJobs.after_refresh
  · exact h.ended

theorem Works.after_flushError (h : Works s t) {d : Dest} {timedOut : Bool} : Ended s (flushError d timedOut t) := by
  unfold flushError
  split
  · exact .after_if h.after_noteError.after_failPort h.after_noteError.after_resend.ended
  · exact h.ended

theorem Works.after_endDestSegment (h : Works s t) {d : Dest} {g : Segment} {ok : Bool} : Ended s (endDestSegment d g ok t) :=
  (Ended.after_if h.after_setDest.after_segmentComplete h.after_setDest.after_segmentFailed).after_refresh

theorem Works.after_readAnswered (h : Works s t) {d : Dest} {data : List Byte} : Ended s (readAnswered d data t) := by
  unfold readAnswered
  split
  · exact .after_if h.after_clearBridge.after_endDestSegment
      (.after_if h.after_clearBridge.after_foldSegment.after_setDest.after_bridgeKick.ended
        h.after_clearBridge.after_foldSegment.after_endDestSegment)
  · exact h.ended

theorem Works.after_readError (h : Works s t) {d : Dest} {timedOut : Bool} : Ended s (readError d timedOut t) := by
  unfold readError
  split
  · exact .after_if h.after_noteError.after_endDestSegment h.after_noteError.after_resend.ended
  · exact h.ended

theorem Works.after_endAbandonedBridge (h : Works s t) {d : Dest} : Works s (endAbandonedBridge d t) := by
  unfold endAbandonedBridge
  exact .after_if h.after_clearBridge.after_bridgeKick h

theorem Works.after_identifyTimedOut (h : Works s t) {d : Dest} : Works s (identifyTimedOut d t) := by
  unfold identifyTimedOut
  exact .after_if h.after_noteError.after_destState h

theorem Works.after_bridgeTimedOut (h : Works s t) {d : Dest} : Ended s (bridgeTimedOut d t) := by
  unfold bridgeTimedOut
  split
  · refine .after_if h.after_endAbandonedBridge.ended ?_
    split
    · exact h.after_identifyTimedOut.ended
    · exact h.after_writeError
    · exact h.after_flushError
    · exact h.after_readError
  · exact h.ended

/-! ### The line, the monitors and the Pace Timer (spec/01, spec/09, spec/10) -/

theorem Works.after_discardFrame (h : Works s t) {flags : LinkFlags} {cause : LinkCause} : Works s (discardFrame flags cause t) :=
  Works.after_notify h.after_rest

theorem Works.after_offerFrame (h : Works s t) {f : Frame} : Works s (offerFrame f t) := by
  unfold offerFrame
  exact .after_if h.after_rest h.after_discardFrame

theorem Works.after_takeField (h : Works s t) {bytes : List Byte} : Works s (takeField bytes t) := by
  unfold takeField
  exact .after_if h.after_rest (.after_if h.after_discardFrame (.after_if h.after_rest (.after_if h.after_offerFrame h.after_discardFrame)))

theorem Works.after_receive (h : Works s t) {bits : Byte} {parityBit stopBit : Bool} : Works s (receive bits parityBit stopBit t) := by
  unfold receive
  split
  · exact .after_if h.after_rest h
  · exact .after_if h.after_discardFrame (.after_if h.after_discardFrame h.after_takeField)

theorem Works.after_gapExpired (h : Works s t) : Works s (gapExpired t) := by
  unfold gapExpired
  split
  · exact h.after_discardFrame
  · exact h

theorem Works.after_refuseUnknown (h : Works s t) : Works s (refuseUnknown t) := by
  unfold refuseUnknown
  refine .after_if ?_ h
  split
  · exact .after_if h (Works.after_sendFrame h.after_rest)
  · exact h

/-- At the end of a frame that is no DEVICE_RESET reply the arbiter chooses again (R8). -/
theorem Works.after_frameEnds (h : Works s t) (hreset : resetReplyOnLine t = false) : Works s (frameEnds t) := by
  unfold frameEnds
  split
  · rw [hreset, if_neg Bool.false_ne_true]
    exact Works.after_pump h.after_rest
  · exact h

theorem Works.after_monitorsExpire (h : Works s t) {who : DestSet} : Works s (monitorsExpire who t) :=
  h.after_mapJobs (f := fun _ j => j.withHolds ((allDests.filter (dmem who)).foldl (softAtExpiry t j) j.softHold) j.hardHold)
    fun _ _ => withHolds_kept _ _ _

theorem Works.after_reporterExpires (h : Works s t) : Works s (reporterExpires t) := by
  have hoffer {u : State} (hu : Works s u) : Works s (offerReport u) := by
    have hclear : Works s { u with jobs := u.jobs.map (fun e => (e.1, { e.2 with holdChanged := false })) } :=
      hu.after_mapJobs (f := fun _ j => { j with holdChanged := false }) fun _ _ => .of_work
    unfold offerReport
    exact .after_if (Works.after_notify hclear.after_rest) hu.after_notify
  unfold reporterExpires
  exact .after_if h.after_rest (.after_if (hoffer h.after_rest) h.after_rest)

theorem Works.after_windowExpires (h : Works s t) {before : DestSet} : Works s (windowExpires before t) := by
  have hnext : Works s (nextWindow t) := h.after_rest
  exact hnext.after_monitorsExpire.after_reporterExpires.after_monitorsExpire.after_refresh

/-! ### The slot allocator, chunk reads and segments (spec/04) -/

/-- A granted clip's checkpoint is the one it had or the start (R81). -/
theorem granted_acc (k : Clip) (again : Bool) : (k.granted again).acc = k.acc ∨ (k.granted again).acc = Acc.start := by
  unfold Clip.granted
  split
  · exact .inr rfl
  · exact .inl rfl

theorem granted_job (k : Clip) (again : Bool) : (k.granted again).job = k.job := by
  unfold Clip.granted
  split <;> rfl

theorem Works.after_startChunk (h : Works s t) {n : Nat} {p : Port} {i : Nat} {j : Job} {nc : NextChunk} {k : Clip} (hj : t.job i = some j)
    (hk : t.clip nc.clip = some k) : Works s (startChunk n p i j nc k t) := by
  have hreduced (hs : s.AccsReduced) : (k.granted nc.recopy).acc.Reduced := by
    rcases granted_acc k nc.recopy with hacc | hacc <;> rw [hacc]
    · exact h.clip_reduced hs hk
    · exact start_reduced
  have hclip := (h.after_setSlot (n := n) (x := ⟨false, i, nc.clip, (k.granted nc.recopy).nextBlock,
    chunkLength (k.granted nc.recopy).blocks (k.granted nc.recopy).nextBlock, 0, nc.recopy, 0⟩)).after_setClip_acc hk hreduced
      (granted_job k nc.recopy)
  have hjob := hclip.after_setJob (i := i) (j' := { j with cursor := if nc.starts then j.cursor + 1 else j.cursor }) hj .of_work
  refine Works.after_refresh (Works.after_cardKick (Works.after_rest (hjob.after_setReader_chunk fun hs c hc => ?_)))
  obtain rfl := Option.some.inj hc
  exact hreduced hs

theorem Works.after_grant (h : Works s t) : Works s (grant t) := by
  unfold grant
  split
  · split
    · split
      next j hj =>
        split
        · split
          next k hk => exact Works.after_startChunk h.after_rest hj hk
          · exact h
        · exact h
      · exact h
    · exact h
  · exact h

theorem Works.after_dropChunk (h : Works s t) {p : Port} {c : ChunkRead} : Works s (dropChunk p c t) := h.after_setReader_none.after_freeSlot

theorem Works.after_endCancelled (h : Works s t) {p : Port} {c : ChunkRead} : Ended s (endCancelled p c t) :=
  h.after_dropChunk.after_cardKick.after_closeJobs.after_refresh

theorem Works.after_placeSlot (h : Works s t) {n : Nat} {set : DestSet} : Works s (placeSlot n set t) := by
  unfold placeSlot
  exact .after_if h.after_freeSlot (h.after_modSlot.after_foldl (fun _ _ hu => hu.after_setDest) _)

theorem readOn_acc (k : Clip) (ended : Bool) (acc : Acc) : (k.readOn ended acc).acc = k.acc := by
  unfold Clip.readOn
  split <;> rfl

theorem readOn_job (k : Clip) (ended : Bool) (acc : Acc) : (k.readOn ended acc).job = k.job := by
  unfold Clip.readOn
  split <;> rfl

/-- The checkpoint takes the chunk read's accumulators (R78, R83). -/
theorem Works.after_advance (h : Works s t) {c : ChunkRead} (hc : s.AccsReduced → c.acc.Reduced) : Works s (advance c t) := by
  unfold advance
  split
  next k hk =>
    refine .after_if (.after_if (h.after_setClip_acc hk hc).after_leaveRecopyList (h.after_setClip_acc hk hc)) ?_
    exact h.after_setClip_acc hk (fun hs => by rw [readOn_acc]; exact hc hs) (readOn_job _ _ _)
  · exact h

theorem Works.after_stage (h : Works s t) {p : Port} {c : ChunkRead} (hc : s.AccsReduced → c.acc.Reduced) : Ended s (stage p c t) := by
  unfold stage
  split
  · have hlost := h.after_setReader_none (p := p) (x := { t.reader p with chunk := none, retries := 0 })
    have hfailed := fun l => hlost.after_foldl (fun u d (hu : Works s u) => hu.after_failCopy) l (g := fun u d => failCopy c.clip d .failed .destLost u)
    exact (Works.after_if (hfailed _).after_freeSlot ((hfailed _).after_placeSlot.after_advance hc)).after_closeSeen.after_refresh
  · exact h.ended

theorem Works.after_chunkProgress (h : Works s t) {p : Port} {c : ChunkRead} {count : Nat} {data : List Byte}
    (hc : s.AccsReduced → c.acc.Reduced) : Ended s (chunkProgress p c count data t) := by
  have hmem : Works s { t with mem := Memory.write t.mem (slotAddress c.slot c.done) (count * Config.blockBytes) data } :=
    h.after_mem fun hw => wf_write hw _ _ _
  unfold chunkProgress
  extract_lets acc s1 c1
  have hacc (hs : s.AccsReduced) : c1.acc.Reduced := by
    change acc.Reduced
    unfold acc
    split
    · exact foldStream_reduced (hc hs) _ _
    · exact hc hs
  refine .after_if (Works.after_cardKick (hmem.after_setReader_chunk fun hs x hx => ?_)).ended (hmem.after_stage hacc)
  obtain rfl := Option.some.inj hx
  exact hacc hs

theorem Works.after_chunkAnswered (h : Works s t) {p : Port} {data : List Byte} {waitMs : Nat} : Ended s (chunkAnswered p data waitMs t) := by
  unfold chunkAnswered
  split
  next c _ hc =>
    have hclear : Works s (clearCard p { t with now := t.now + waitMs }) := Works.after_clearCard h.after_rest
    exact .after_if hclear.after_setReader.after_endCancelled
      (hclear.after_setReader.after_chunkProgress fun hs => h.chunk_reduced hs hc)
  · exact h.ended

theorem Works.after_failPending (h : Works s t) {c : Nat} {set : DestSet} : Works s (failPending c set t) :=
  h.after_foldl (fun _ _ hu => .after_if hu.after_failCopy hu) _

theorem Works.after_tellReadError (h : Works s t) {c : ChunkRead} : Works s (tellReadError c t) := by
  unfold tellReadError
  split
  · exact h.after_notify
  · exact h

theorem Works.after_failChunk (h : Works s t) {p : Port} {c : ChunkRead} : Ended s (failChunk p c t) := by
  have hdrop := h.after_dropChunk (p := p) (c := c) |>.after_tellReadError (c := c)
  exact (Works.after_if hdrop.after_failPending.after_modClip.after_leaveRecopyList
    hdrop.after_modClip.after_failPending).after_cardKick.after_closeJobs.after_refresh

theorem Works.after_chunkError (h : Works s t) {p : Port} {c : ChunkRead} : Ended s (chunkError p c t) := by
  unfold chunkError
  exact .after_if h.after_endCancelled (.after_if h.after_setReader.after_cardKick.ended h.after_failChunk)

theorem Works.after_arbitrate (h : Works s t) {p : Port} {first : Bool} : Works s (arbitrate p first t) := by
  rcases arbitrate_cases t p first with he | ⟨e, rest, _, _, _, _, he⟩ <;> rw [he]
  · exact h
  · exact h.after_setEngine.after_setReader.after_cardKick.after_refresh

theorem Works.after_endSegment (h : Works s t) {p : Port} {g : Segment} {ok : Bool} : Ended s (endSegment p g ok t) :=
  (Ended.after_if h.after_setReader.after_cardKick.after_segmentComplete h.after_setReader.after_cardKick.after_segmentFailed).after_refresh

theorem Works.after_segmentAnswered (h : Works s t) {p : Port} {data : List Byte} : Ended s (segmentAnswered p data t) := by
  unfold segmentAnswered
  split
  · exact .after_if h.after_clearCard.after_endSegment
      (.after_if h.after_clearCard.after_foldSegment.after_setReader.after_cardKick.ended h.after_clearCard.after_foldSegment.after_endSegment)
  · exact h.ended

theorem Works.after_segmentError (h : Works s t) {p : Port} {g : Segment} : Ended s (segmentError p g t) := by
  unfold segmentError
  exact .after_if h.after_endSegment (.after_if h.after_setReader.after_cardKick.ended h.after_endSegment)

theorem Works.after_deliverError (h : Works s t) {p : Port} {owner : CardOwner} : Ended s (deliverError p owner t) := by
  unfold deliverError
  split
  · exact h.after_surveyError.ended
  · split
    · exact h.after_chunkError
    · exact h.ended
  · split
    · exact h.after_segmentError
    · exact h.ended
  · exact h.ended

theorem Works.after_confirmError (h : Works s t) {p : Port} : Ended s (confirmError p t) := by
  unfold confirmError
  split
  · exact .after_if h.after_setPort.after_deliverError h.ended
  · exact h.ended

end

end Sys2Proof.Machine
end


section
/-! SUPPORT. Every command but the resets as a first step, which may end, begin or recopy a job, and the work of the event after it; and
with it the forms that every command keeps (R36, R49, R89) and the life of a job (R36 to R38, R44, R47, R139, R146). -/

namespace Sys2Proof.Machine

-- One theorem at a time: checking them all at once needs more threads than the sandbox gives.
set_option Elab.async false

open Sys2Proof

/-! ### What a command may make of a job -/

/-- The clips on a job's order list are live and the job's own (R36). -/
def State.OrdersListed (s : State) : Prop := ∀ h j, s.job h = some j → ∀ c ∈ j.order, ∃ k, s.clip c = some k ∧ k.job = h

/-- What the first step of command `i` may make of a live job's record: CLIP_COMMIT adds to its order list, JOB_ABORT and CARD_RELEASE close
it, CLIP_RECOPY takes it from DRAINED back to READING. -/
structure Job.Begun (i : Instr) (j j' : Job) : Prop where
  identity : j'.identity = j.identity
  destSet : j'.destSet = j.destSet
  destIds : j'.destIds = j.destIds
  required : j'.required = j.required
  sourceVerify : j'.sourceVerify = j.sourceVerify
  quota : j'.quota = j.quota
  order : j'.order = j.order ∨ (i = .clipCommit ∧ ∃ c, j'.order = j.order ++ [c])
  closing : j.state = .closing → j'.state = .closing ∧ j'.clearable = j.clearable ∧ j'.attention = j.attention
  state : j'.state = j.state ∨ (j'.state = .closing ∧ (i = .jobAbort ∨ i = .cardRelease)) ∨
    (j.state = .drained ∧ j'.state = .reading ∧ i = .clipRecopy)

/-- The first step of command `i`: no job is gone. -/
structure Begins (i : Instr) (s t : State) : Prop where
  forms : KeepsForms s t
  jobs : ∀ h j, s.job h = some j → ∃ j', t.job h = some j' ∧ j.Begun i j'
  owned : s.TablesKeyed → s.OrdersListed → t.OrdersOwned

/-- What command `i` may make of job `j` in the state after it, `t`. -/
structure Job.Lived (i : Instr) (t : State) (j j' : Job) : Prop where
  recorded : j'.identity = j.identity ∧ j'.destSet = j.destSet ∧ j'.destIds = j.destIds ∧ j'.required = j.required ∧
    j'.sourceVerify = j.sourceVerify ∧ j'.quota = j.quota
  order : j'.order = j.order ∨ (i = .clipCommit ∧ ∃ c, j'.order = j.order ++ [c])
  closing : j.state = .closing → j'.state = .closing ∧ j'.clearable = j.clearable ∧ j'.attention = j.attention
  recopied : j.state = .drained → j'.state = .reading → i = .clipRecopy
  drains : j.state = .reading → j'.state = .drained → j'.intakeFinal = true ∧ j'.recopy = [] ∧ ∀ c ∈ j'.order, clipRead t c = true
  closes : j.state ≠ .closing → j'.state = .closing → i = .jobAbort ∨ i = .cardRelease

/-- Command `i` keeps the forms, and every job lives on or ends as it may. -/
structure Proceeds (i : Instr) (s t : State) : Prop where
  forms : KeepsForms s t
  life : s.TablesKeyed → s.OrdersListed → ∀ h j, s.job h = some j →
    (t.job h = none → j.state = .closing ∨ i = .jobAbort ∨ i = .cardRelease) ∧ ∀ j', t.job h = some j' → j.Lived i t j'

section
variable {i : Instr} {s t u : State}

theorem State.OrdersListed.owned (h : s.OrdersListed) : s.OrdersOwned := by
  intro r j hj c hc k hk
  obtain ⟨k', hk', hjob⟩ := h r j hj c hc
  obtain rfl := Option.some.inj (hk'.symm.trans hk)
  exact hjob

theorem Job.Begun.refl (j : Job) : j.Begun i j := ⟨rfl, rfl, rfl, rfl, rfl, rfl, .inl rfl, fun h => ⟨h, rfl, rfl⟩, .inl rfl⟩

theorem Begins.refl (s : State) : Begins i s s := ⟨.refl s, fun _ j hj => ⟨j, hj, .refl j⟩, fun _ h => h.owned⟩

/-- What a first step begins and the work after it passes on. -/
theorem Job.Begun.passed {j j1 j' : Job} (b : j.Begun i j1) (p : j1.Passed t j') : j.Lived i t j' := by
  refine ⟨⟨p.identity.trans b.identity, p.destSet.trans b.destSet, p.destIds.trans b.destIds, p.required.trans b.required,
    p.sourceVerify.trans b.sourceVerify, p.quota.trans b.quota⟩, p.order ▸ b.order, fun hc => ?_, fun hd hr => ?_, fun hr hd => ?_, fun ho hc => ?_⟩
  · obtain ⟨hstate, hclear, hattention⟩ := b.closing hc
    obtain ⟨hstate', hclear', hattention'⟩ := p.closing hstate
    exact ⟨hstate', hclear'.trans hclear, hattention'.trans hattention⟩
  · rcases b.state with h | ⟨h, _⟩ | ⟨_, _, hi⟩
    · exact absurd hr (p.drained (h.trans hd))
    · exact absurd ((p.closing h).1.symm.trans hr) (by decide)
    · exact hi
  · rcases b.state with h | ⟨h, _⟩ | ⟨h, _⟩
    · exact p.drains (h.trans hr) hd
    · exact absurd ((p.closing h).1.symm.trans hd) (by decide)
    · exact absurd (h.symm.trans hr) (by decide)
  · rcases b.state with h | ⟨_, h⟩ | ⟨_, h, _⟩
    · exact absurd hc (p.opened fun h1 => ho (h.symm.trans h1))
    · exact h
    · exact absurd hc (p.opened (by simp [h]))

/-- A command is its first step and the work after it. -/
theorem Begins.proceeds (b : Begins i s t) (e : Ended t u) : Proceeds i s u := by
  refine ⟨b.forms.trans e.forms, fun hkeyed hlisted h j hj => ?_⟩
  obtain ⟨j1, hj1, hb⟩ := b.jobs h j hj
  obtain ⟨hgone, hpassed⟩ := e.life (b.forms.keyed hkeyed) (b.owned hkeyed hlisted) h j1 hj1
  refine ⟨fun hnone => ?_, fun j' hj' => hb.passed (hpassed j' hj')⟩
  rcases hb.state with hstate | ⟨_, hi⟩ | ⟨_, hstate, _⟩
  · exact .inl (hstate.symm.trans (hgone hnone))
  · exact .inr hi
  · exact absurd (hstate.symm.trans (hgone hnone)) (by decide)

theorem Ended.proceeds (e : Ended s t) : Proceeds i s t := (Begins.refl s).proceeds e

theorem Works.proceeds (w : Works s t) : Proceeds i s t := w.ended.proceeds

/-- A reply is sent without a change to the tables. -/
theorem Proceeds.after_sendFrame (h : Proceeds i s t) {r : Frame} : Proceeds i s (sendFrame r t) := by
  refine ⟨h.forms.trans (Works.refl t).after_sendFrame.forms, fun hkeyed hlisted n j hj => ?_⟩
  obtain ⟨hgone, hlived⟩ := h.life hkeyed hlisted n j hj
  rw [sendFrame_frame]
  exact ⟨hgone, fun j' hj' => have p := hlived j' hj'; ⟨p.recorded, p.order, p.closing, p.recopied, p.drains, p.closes⟩⟩

/-- A first step that changes clip records and one live job's record. -/
theorem Begins.of_setJob (w : Works s t) (hjobs : t.jobs = s.jobs) {h : Nat} {j j' : Job} (hj : s.job h = some j) (hb : j.Begun i j')
    (ho : ∀ c ∈ j'.order, c ∈ j.order ∨ ∀ k, t.clip c = some k → k.job = h) : Begins i s (setJob t h j') := by
  have hsame (r : Nat) : t.job r = s.job r := congrArg (lookup · r) hjobs
  refine ⟨w.forms.trans (setJob_forms ((hsame h).trans hj)), fun r x hx => ?_, fun hkeyed hlisted r x hx c hc k hk => ?_⟩
  · by_cases hr : r = h
    · subst hr
      obtain rfl := Option.some.inj (hj.symm.trans hx)
      exact ⟨j', setJob_job_self _ _ _, hb⟩
    · exact ⟨x, ((setJob_job_of_ne _ hr _).trans (hsame r)).trans hx, .refl x⟩
  · obtain ⟨k0, hk0, hjob⟩ := w.owners hkeyed c k hk
    by_cases hr : r = h
    · subst hr
      obtain rfl := Option.some.inj ((setJob_job_self _ _ _).symm.trans hx)
      rcases ho c hc with hold | hnew
      · exact hjob.trans (hlisted.owned r j hj c hold k0 hk0)
      · exact hnew k hk
    · rw [setJob_job_of_ne _ hr, hsame] at hx
      exact hjob.trans (hlisted.owned r x hx c hc k0 hk0)

/-! ### New records -/

/-- A record stored under a number that was free keeps a table keyed. -/
theorem pairwise_store_free {α : Type} {t : Table α} {k : Nat} {b : α} (hk : (t.map Prod.fst).Pairwise (· < ·)) (hfree : lookup t k = none) :
    ((store t k b).map Prod.fst).Pairwise (· < ·) := by
  induction t with
  | nil => simp [store]
  | cons e rest ih =>
    obtain ⟨n, c⟩ := e
    rw [List.map_cons, List.pairwise_cons] at hk
    obtain ⟨hlow, hrest⟩ := hk
    have hne : n ≠ k := fun hn => by simp [lookup, hn] at hfree
    have hfree' : lookup rest k = none := by simpa [lookup, hne] using hfree
    simp only [store]
    split
    next hlt =>
      refine List.Pairwise.cons (fun a ha => ?_) (List.Pairwise.cons hlow hrest)
      rcases List.mem_cons.mp ha with rfl | ha
      · exact hlt
      · exact hlt.trans (hlow a ha)
    next hge =>
      refine List.Pairwise.cons (fun a ha => ?_) (ih hrest hfree')
      rcases mem_store_keys ha with rfl | ha
      · omega
      · exact hlow a ha

/-- JOB_OPEN's record joins the table (R41). -/
theorem Begins.of_newJob {h : Nat} {j : Job} (hfree : s.job h = none) (hlow : h < 12) (hj : j.order = []) : Begins i s (setJob s h j) := by
  refine ⟨⟨id, fun ⟨hjobs, hclips, hlowJobs, hlowClips⟩ => ⟨pairwise_store_free hjobs hfree, hclips, fun x hx => ?_, hlowClips⟩, id⟩,
    fun r x hx => ⟨x, ?_, .refl x⟩, fun _ hlisted r x hx c hc k hk => ?_⟩
  · rcases mem_store_keys hx with rfl | hx
    · exact hlow
    · exact hlowJobs x hx
  · rwa [setJob_job_of_ne]
    rintro rfl
    simp [hx] at hfree
  · by_cases hr : r = h
    · subst hr
      obtain rfl := Option.some.inj ((setJob_job_self _ _ _).symm.trans hx)
      simp [hj] at hc
    · rw [setJob_job_of_ne _ hr] at hx
      exact hlisted.owned r x hx c hc k hk

/-- CLIP_BEGIN's record joins the table (R50). -/
theorem Begins.of_newClip {c : Nat} {k : Clip} (hfree : s.clip c = none) (hlow : c < 4096) (hacc : k.acc.Reduced) :
    Begins i s (setClip s c k) := by
  refine ⟨⟨id, fun ⟨hjobs, hclips, hlowJobs, hlowClips⟩ => ⟨hjobs, pairwise_store_free hclips hfree, hlowJobs, fun x hx => ?_⟩,
    fun h => setClip_accs h hacc⟩, fun r x hx => ⟨x, hx, .refl x⟩, fun _ hlisted r x hx n hn y hy => ?_⟩
  · rcases mem_store_keys hx with rfl | hx
    · exact hlow
    · exact hlowClips x hx
  · obtain ⟨y', hy', hjob⟩ := hlisted r x hx n hn
    have hne : n ≠ c := by
      rintro rfl
      simp [hy'] at hfree
    rw [setClip_clip_of_ne _ hne, hy'] at hy
    exact Option.some.inj hy ▸ hjob

end

/-! ### The answers to the host's requests -/

section
variable {i : Instr} {s t : State}

/-- A request's owner answers as command `i` may. -/
def ProceedingOwner {α : Type} (i : Instr) (owner : α → State → Reply × State) : Prop := ∀ a s, Proceeds i s (owner a s).2

theorem Proceeds.refl (s : State) : Proceeds i s s := (Works.refl s).proceeds

theorem Proceeds.of_withJob {h : Nat} {owner : Job → Reply × State} (hown : ∀ j, s.job h = some j → Proceeds i s (owner j).2) :
    Proceeds i s (withJob h s owner).2 := by
  unfold withJob
  split
  next j hj => exact hown j hj
  · exact .refl s

theorem Proceeds.of_withClip {c : Nat} {owner : Clip → Job → Reply × State}
    (hown : ∀ k j, s.clip c = some k → s.job k.job = some j → Proceeds i s (owner k j).2) : Proceeds i s (withClip c s owner).2 := by
  unfold withClip
  split
  next k hk =>
    split
    next j hj => exact hown k j hk hj
    · exact .refl s
  · exact .refl s

/-- One check of a request: refused, the state stays. -/
theorem Proceeds.of_check {c : Prop} [Decidable c] {x : Reply} {y : Reply × State} (h : ¬c → Proceeds i s y.2) :
    Proceeds i s (if c then (x, s) else y).2 := by
  split
  · exact .refl s
  next hc => exact h hc

theorem cardSurvey_proceeds : ProceedingOwner i cardSurvey := by
  intro n s
  unfold cardSurvey
  split
  · exact .refl s
  · split
    case h_6 | h_7 | h_8 => exact (Works.refl s).after_joinSurvey.proceeds
    all_goals exact .refl s

theorem jobOpen_proceeds : ProceedingOwner i jobOpen := by
  intro a s
  unfold jobOpen
  split
  · exact .refl s
  · refine .of_check fun _ => .of_check fun _ => .of_check fun _ => ?_
    split
    · exact .refl s
    · refine .of_check fun _ => ?_
      split
      · exact .refl s
      next h hfirst =>
        obtain ⟨hfree, _, hlow, _⟩ := firstFree_spec _ _ _ _ hfirst
        have hbegun (j : Job) (hj : j.order = []) : Begins i s (setJob s h j) := .of_newJob hfree (by simpa [Config.jobRecords] using hlow) hj
        exact (hbegun _ rfl).proceeds (Works.refl _).after_bindJob.after_leaveSurveyQueue.after_refresh.ended

theorem jobFinal_proceeds : ProceedingOwner i jobFinal := fun _ s =>
  .of_withJob fun _ hj => .of_check fun _ => .of_check fun _ => .of_check fun _ =>
    ((Works.refl s).after_setJob hj .of_work).after_closeJobs.after_refresh.proceeds

theorem jobPause_proceeds : ProceedingOwner i jobPause := fun _ s =>
  .of_withJob fun _ hj => .of_check fun _ => .of_check fun _ =>
    (((Works.refl s).after_setJob hj .of_work).after_foldl (fun _ _ hu => hu.after_pauseEngine) [1, 0]).after_closeJobs.after_refresh.proceeds

theorem jobResume_proceeds : ProceedingOwner i jobResume := fun _ s =>
  .of_withJob fun _ hj => .of_check fun _ => ((Works.refl s).after_setJob hj .of_work).after_refresh.proceeds

theorem Works.after_verifyQueue (h : Works s t) {q : List Task} : Works s { t with verifyQueue := q } := h.after_rest

/-- The job's record at the start of JOB_ABORT (R44). -/
def Job.aborted (j : Job) : Job := { j with state := .closing, binding := none, recopy := [], clearable := false }

theorem aborted_begun {j : Job} (hopen : j.state ≠ .closing) : j.Begun .jobAbort j.aborted :=
  ⟨rfl, rfl, rfl, rfl, rfl, rfl, .inl rfl, fun hc => absurd hc hopen, .inr (.inl ⟨rfl, .inl rfl⟩)⟩

/-- The work of JOB_ABORT after the job's record is CLOSING. -/
theorem abortJob_ended {h : Nat} {j : Job} : Ended (setJob s h j.aborted) (abortJob h j s) := by
  have hclips : Works (setJob s h j.aborted) (abortClips h (unbindPort j.binding .identified (setJob s h j.aborted))) :=
    (Works.refl _).after_unbindPort.after_abortClips
  have hreaders := (hclips.after_foldl (fun _ _ hu => hu.after_abortDest) allDests (g := abortDest h)).after_foldl
    (fun _ _ hu => hu.after_abortReader) allPorts (g := abortReader h)
  exact (hreaders.after_verifyQueue.after_foldl (fun _ _ hu => hu.after_abortEngine) [0, 1]).after_abortSlots.after_closeSeen.after_refresh

theorem jobAbort_proceeds : ProceedingOwner .jobAbort jobAbort := fun _ s =>
  .of_withJob fun _ hj => .of_check fun hopen =>
    (Begins.of_setJob (.refl s) rfl hj (aborted_begun hopen) fun _ hc => .inl hc).proceeds abortJob_ended

theorem cardRelease_proceeds : ProceedingOwner .cardRelease cardRelease := fun h s =>
  .of_withJob fun j hj => .of_check fun hopen => .of_check fun _ => by
    have hbegun : j.Begun .cardRelease { j with state := .closing, binding := none } :=
      ⟨rfl, rfl, rfl, rfl, rfl, rfl, .inl rfl, fun hc => absurd hc hopen, .inr (.inl ⟨rfl, .inr rfl⟩)⟩
    have hwork : Works s { s with known := addKnown s.known j.identity.fingerprint } := (Works.refl s).after_rest
    have hjobs : (unbindPort j.binding .released { s with known := addKnown s.known j.identity.fingerprint }).jobs = s.jobs := by
      obtain ⟨_, e⟩ := unbindPort_frame j.binding .released { s with known := addKnown s.known j.identity.fingerprint }
      rw [e]
    exact (Begins.of_setJob hwork.after_unbindPort hjobs hj hbegun fun _ hc => .inl hc).proceeds (Works.refl _).after_closeJobs.after_refresh

theorem clipBegin_proceeds : ProceedingOwner i clipBegin := fun a s =>
  .of_withJob fun _ _ => .of_check fun _ => .of_check fun _ => by
    split
    · exact .refl s
    next c hfirst =>
      obtain ⟨hfree, _, hlow, _⟩ := firstFree_spec _ _ _ _ hfirst
      have hacc : (beginClip a).acc.Reduced := by simp only [beginClip]; decide
      exact (Begins.of_newClip hfree (by simpa [Config.clipRecords] using hlow) hacc).proceeds (Works.refl _).ended

theorem addExtents_acc (k : Clip) (t : Target) (es : List Extent) : (k.addExtents t es).acc = k.acc := by cases t <;> rfl
theorem addExtents_job (k : Clip) (t : Target) (es : List Extent) : (k.addExtents t es).job = k.job := by cases t <;> rfl

theorem extentsAdd_proceeds : ProceedingOwner i extentsAdd := fun _ s =>
  .of_withClip fun _ _ hk _ => .of_check fun _ => by
    split
    · exact .refl s
    · exact .of_check fun _ => .of_check fun _ => .of_check fun _ => .of_check fun _ =>
        ((Works.refl s).after_setClip hk (addExtents_acc _ _ _) (addExtents_job _ _ _)).proceeds

theorem clipCommit_proceeds : ProceedingOwner .clipCommit clipCommit := fun c s =>
  .of_withClip fun k j hk hj => .of_check fun _ => .of_check fun _ => by
    have hbegun : j.Begun .clipCommit { j with order := j.order ++ [c] } :=
      ⟨rfl, rfl, rfl, rfl, rfl, rfl, .inr ⟨rfl, c, rfl⟩, fun hc => ⟨hc, rfl, rfl⟩, .inl rfl⟩
    refine (Begins.of_setJob ((Works.refl s).after_setClip hk) rfl hj hbegun fun n hn => ?_).proceeds (Works.refl _).ended.after_evalJob.after_refresh
    rcases List.mem_append.mp hn with hold | hnew
    · exact .inl hold
    · obtain rfl := List.mem_singleton.mp hnew
      refine .inr fun x hx => ?_
      obtain rfl := Option.some.inj ((setClip_clip_self _ _ _).symm.trans hx)
      rfl

theorem clipCancel_proceeds : ProceedingOwner i clipCancel := fun _ s =>
  .of_withClip fun _ _ _ _ => .of_check fun _ => (Works.refl s).after_filterClips.proceeds

/-- CLIP_RECOPY adds to the recopy list and takes a DRAINED job back to READING (R139). -/
theorem recopy_proceeds {c : Nat} {k : Clip} {j : Job} {d : Dest} (hk : s.clip c = some k) (hj : s.job k.job = some j)
    (hopen : j.state ≠ .closing) : Proceeds .clipRecopy s (recopy c k j d s) := by
  unfold recopy
  extract_lets _ k1 j1
  have hbegun : j.Begun .clipRecopy j1 := by
    refine ⟨rfl, rfl, rfl, rfl, rfl, rfl, .inl rfl, fun hc => absurd hc hopen, ?_⟩
    simp only [j1]
    split
    next hd => exact .inr (.inr ⟨hd, rfl, trivial⟩)
    · exact .inl rfl
  have hclip : Works s (setClip s c k1) := (Works.refl s).after_setClip hk
  exact (Begins.of_setJob hclip rfl hj hbegun fun _ hc => .inl hc).proceeds (Works.refl _).ended.after_evalJob.after_refresh

theorem clipRecopy_proceeds : ProceedingOwner .clipRecopy clipRecopy := fun _ s =>
  .of_withClip fun _ _ hk hj => by
    split
    · exact .refl s
    · exact .of_check fun hopen => .of_check fun _ => .of_check fun _ => .of_check fun _ => .of_check fun _ => .of_check fun _ =>
        .of_check fun _ => recopy_proceeds hk hj hopen

theorem reverified_acc (k : Clip) (t : Target) : (k.reverified t).acc = k.acc := by cases t <;> rfl
theorem reverified_job (k : Clip) (t : Target) : (k.reverified t).job = k.job := by cases t <;> rfl

theorem reverify_proceeds {c : Nat} {k : Clip} (hk : s.clip c = some k) {target : Target} : Proceeds i s (reverify c k target s) := by
  have hclip := (Works.refl s).after_setClip hk (reverified_acc k target) (reverified_job k target)
  refine Ended.proceeds (Ended.after_refresh (Ended.after_evalJob (Works.ended ?_)))
  exact hclip.after_verifyQueue

theorem clipReverify_proceeds : ProceedingOwner i clipReverify := fun _ s =>
  .of_withClip fun _ _ hk _ => by
    split
    · exact .refl s
    · refine .of_check fun _ => ?_
      split
      · exact .of_check fun _ => .of_check fun _ => .of_check fun _ => reverify_proceeds hk
      · exact .of_check fun _ => .of_check fun _ => reverify_proceeds hk

theorem destAttach_proceeds : ProceedingOwner i destAttach := by
  intro n s
  unfold destAttach
  split
  · exact .refl s
  · split
    · exact (Works.refl s).after_attach.proceeds
    · exact (Works.refl s).after_startIdentify.proceeds
    all_goals exact .refl s

theorem destDetach_proceeds : ProceedingOwner i destDetach := by
  intro a s
  unfold destDetach
  split
  · exact .refl s
  · refine .of_check fun _ => .of_check fun _ => ?_
    split
    · exact (Works.refl s).after_loseDest.proceeds
    · exact .of_check fun _ => (Works.refl s).after_destState.after_refresh.proceeds

theorem destQuery_proceeds : ProceedingOwner i destQuery := by
  intro n s
  unfold destQuery
  split <;> exact .refl s

theorem monitorSet_proceeds : ProceedingOwner i monitorSet := by
  intro a s
  unfold monitorSet
  split
  · exact .refl s
  · exact .of_check fun _ => (Works.refl s).after_setMonitor.after_dropHolds.after_refresh.proceeds

theorem holdResume_proceeds : ProceedingOwner i holdResume := by
  intro n s
  unfold holdResume
  split
  · exact .refl s
  · exact (Works.refl s).after_dropHolds.after_refresh.proceeds

theorem configSet_proceeds : ProceedingOwner i configSet := by
  intro pairs s
  unfold configSet
  exact .of_check fun _ => (Works.refl s).after_rest.proceeds

/-! ### Command by command -/

/-- A request's command does what its owner does. -/
theorem Proceeds.of_serve {α : Type} {kind : Byte} {fields : List Byte → Option α} {owner : α → State → Reply × State}
    (h : ProceedingOwner i owner) : Proceeds i s (serve kind fields owner s) := by
  refine serve_induction (.refl s) fun f rest r u _ hu => Proceeds.after_sendFrame ?_
  rcases hu with rfl | ⟨a, rfl⟩
  · exact (Works.refl s).after_rest.proceeds
  · have p := h a (s.taken f rest)
    exact ⟨⟨p.forms.mem, p.forms.keyed, p.forms.accs⟩, p.life⟩

theorem awake_proceeds {f : State → State} (h : Proceeds i s (f s)) : Proceeds i s (awake f s) := by
  unfold awake
  split
  · exact .refl s
  · exact h

/-- Every command but the resets keeps the forms and lets the jobs live as they may. -/
theorem exec_proceeds (i : Instr) (s : State) (hhard : ∀ r, i ≠ .hardReset r)
    (hsoft : resetReplyOnLine s = true → i ≠ .softReset ∧ i ≠ .frameSendEnd) : Completes (Proceeds i) i s := by
  have w : Works s s := .refl s
  cases i with
  | hardReset r => exact absurd rfl (hhard r)
  | softReset =>
    have hline : ¬ resetReplyOnLine s = true := fun h => (hsoft h).1 rfl
    exact ⟨s, by simp [exec, execSoftReset, hline], .refl s⟩
  | frameSendEnd => exact ⟨_, rfl, awake_proceeds (w.after_frameEnds (by simpa using fun h => (hsoft h).2 rfl)).proceeds⟩
  | resetHeldLow => exact ⟨_, rfl, w.after_rest.proceeds⟩
  | rxByte => exact ⟨_, rfl, awake_proceeds w.after_receive.proceeds⟩
  | interbyteGapTimeout => exact ⟨_, rfl, awake_proceeds w.after_gapExpired.proceeds⟩
  | unknownRequest => exact ⟨_, rfl, w.after_refuseUnknown.proceeds⟩
  | identify => exact ⟨_, rfl, .of_serve fun _ u => .refl u⟩
  | statusGet => exact ⟨_, rfl, .of_serve fun _ u => (Works.refl u).after_rest.proceeds⟩
  | configSet => exact ⟨_, rfl, .of_serve configSet_proceeds⟩
  | flagsClear => exact ⟨_, rfl, .of_serve fun _ u => (Works.refl u).after_rest.proceeds⟩
  | deviceReset => exact ⟨_, rfl, .of_serve fun _ u => (Works.refl u).after_rest.proceeds⟩
  | cardSurvey => exact ⟨_, rfl, .of_serve cardSurvey_proceeds⟩
  | jobOpen => exact ⟨_, rfl, .of_serve jobOpen_proceeds⟩
  | jobFinal => exact ⟨_, rfl, .of_serve jobFinal_proceeds⟩
  | jobPause => exact ⟨_, rfl, .of_serve jobPause_proceeds⟩
  | jobResume => exact ⟨_, rfl, .of_serve jobResume_proceeds⟩
  | jobAbort => exact ⟨_, rfl, .of_serve jobAbort_proceeds⟩
  | jobQuery => exact ⟨_, rfl, .of_serve fun _ u => .of_withJob fun _ _ => .refl u⟩
  | cardRelease => exact ⟨_, rfl, .of_serve cardRelease_proceeds⟩
  | clipBegin => exact ⟨_, rfl, .of_serve clipBegin_proceeds⟩
  | extentsAdd => exact ⟨_, rfl, .of_serve extentsAdd_proceeds⟩
  | clipCommit => exact ⟨_, rfl, .of_serve clipCommit_proceeds⟩
  | clipCancel => exact ⟨_, rfl, .of_serve clipCancel_proceeds⟩
  | clipQuery => exact ⟨_, rfl, .of_serve fun _ u => .of_withClip fun _ _ _ _ => .refl u⟩
  | clipRecopy => exact ⟨_, rfl, .of_serve clipRecopy_proceeds⟩
  | clipReverify => exact ⟨_, rfl, .of_serve clipReverify_proceeds⟩
  | destAttach => exact ⟨_, rfl, .of_serve destAttach_proceeds⟩
  | destDetach => exact ⟨_, rfl, .of_serve destDetach_proceeds⟩
  | destQuery => exact ⟨_, rfl, .of_serve destQuery_proceeds⟩
  | monitorSet => exact ⟨_, rfl, .of_serve monitorSet_proceeds⟩
  | holdResume => exact ⟨_, rfl, .of_serve holdResume_proceeds⟩
  | knownListQuery => exact ⟨_, rfl, .of_serve fun _ u => .refl u⟩
  | knownListClear => exact ⟨_, rfl, .of_serve fun _ u => (Works.refl u).after_rest.proceeds⟩
  | presenceAppear p => exact ⟨_, rfl, (Works.after_if w.after_setPort (.after_if w w.after_setPort)).proceeds⟩
  | presenceDrop p => exact ⟨_, rfl, (Works.after_if w.after_setPort (.after_if w.after_setPort w)).proceeds⟩
  | settleTimerExpiry p => exact ⟨_, rfl, awake_proceeds w.after_settled.proceeds⟩
  | cardRemoval p => exact ⟨_, rfl, awake_proceeds w.after_absenceExpired.proceeds⟩
  | adapterErrorAnswer p => exact ⟨_, rfl, awake_proceeds w.after_holdError.proceeds⟩
  | cardRequestTimeout p => exact ⟨_, rfl, awake_proceeds w.after_cardTimedOut.proceeds⟩
  | errorConfirm p => exact ⟨_, rfl, awake_proceeds w.after_confirmError.proceeds⟩
  | cardAbandonedAnswer p => exact ⟨_, rfl, awake_proceeds w.after_endAbandoned.proceeds⟩
  | lampBlinkToggle p => exact ⟨_, rfl, awake_proceeds w.after_blinkToggle.proceeds⟩
  | surveyStart => exact ⟨_, rfl, awake_proceeds w.after_startSurvey.proceeds⟩
  | surveyIdentifyAnswer => exact ⟨_, rfl, awake_proceeds w.after_surveyIdentified.proceeds⟩
  | surveyReadDone => exact ⟨_, rfl, awake_proceeds w.after_surveyRead.proceeds⟩
  | slotGrant => exact ⟨_, rfl, awake_proceeds w.after_grant.proceeds⟩
  | chunkRequestDone => exact ⟨_, rfl, awake_proceeds w.after_chunkAnswered.proceeds⟩
  | sourceSegmentStart => exact ⟨_, rfl, awake_proceeds w.after_arbitrate.proceeds⟩
  | sourceSegmentRequestDone => exact ⟨_, rfl, awake_proceeds w.after_segmentAnswered.proceeds⟩
  | destLinkUp d => exact ⟨_, rfl, (Works.after_if w.after_setDest w.after_linkComesUp).proceeds⟩
  | destLinkDown d => exact ⟨_, rfl, (Ended.after_if w.after_setDest.ended w.after_linkGoesDown).proceeds⟩
  | destIdentifyAnswer => exact ⟨_, rfl, awake_proceeds w.after_identifyAnswered.proceeds⟩
  | destRequestTimeout => exact ⟨_, rfl, awake_proceeds w.after_bridgeTimedOut.proceeds⟩
  | bridgeAbandonedAnswer => exact ⟨_, rfl, awake_proceeds w.after_endAbandonedBridge.proceeds⟩
  | destArbiterDecide => exact ⟨_, rfl, awake_proceeds w.after_decideOp.proceeds⟩
  | destWriteOk => exact ⟨_, rfl, awake_proceeds w.after_writeAnswered.proceeds⟩
  | destWriteError => exact ⟨_, rfl, awake_proceeds w.after_writeError.proceeds⟩
  | destFlushOk => exact ⟨_, rfl, awake_proceeds w.after_flushAnswered.proceeds⟩
  | destFlushError => exact ⟨_, rfl, awake_proceeds w.after_flushError.proceeds⟩
  | destReadOk => exact ⟨_, rfl, awake_proceeds w.after_readAnswered.proceeds⟩
  | destReadError => exact ⟨_, rfl, awake_proceeds w.after_readError.proceeds⟩
  | engineTakeTask => exact ⟨_, rfl, awake_proceeds w.after_takeNext.proceeds⟩
  | paceTimerExpiry => exact ⟨_, rfl, awake_proceeds w.after_windowExpires.proceeds⟩

/-! ### The obligations -/

/-- A hard reset leaves empty tables, empty memory and idle readers and engines, all in their forms (R1). -/
theorem hardReset_forms (r : Bool) : KeepsForms s (hardResetState r s) := by
  refine ⟨fun _ => rfl, fun _ => ?_, fun _ => ⟨fun e he => (nomatch he), fun p c hc => ?_, fun e acc hacc => ?_⟩⟩
  · exact ⟨List.Pairwise.nil, List.Pairwise.nil, fun _ h => (nomatch h), fun _ h => nomatch h⟩
  · simp [hardResetState, State.reset, State.reader, Reader.reset] at hc
  · simp [hardResetState, State.reset, State.engine, Engine.idle] at hacc

/-- So does a soft reset (R13, R60, R86, R140). -/
theorem softReset_forms : KeepsForms s (softResetState s) := by
  have hbase : KeepsForms s (softBase s) := by
    refine ⟨fun _ => rfl, fun _ => ?_, fun _ => ⟨fun e he => (nomatch he), fun p c hc => ?_, fun e acc hacc => ?_⟩⟩
    · exact ⟨List.Pairwise.nil, List.Pairwise.nil, fun _ h => (nomatch h), fun _ h => nomatch h⟩
    · simp [softBase, State.reset, State.reader, Reader.reset] at hc
    · simp [softBase, State.reset, State.engine, Engine.idle] at hacc
  rw [softResetState_eq]
  exact hbase.trans ((Works.refl (softBase s)).after_foldl (fun _ _ hu => hu.after_bridgeKick) allDests (g := fun t d => bridgeKick d t)).after_refresh.forms

end

/-- Settles O52: `KeepsForms` is a rule of every shared operation, and so of every command; a reset empties the tables. -/
theorem everyCommandKeepsForms : Obligations.EveryCommandKeepsForms := by
  intro i s t he
  have hforms : KeepsForms s t := by
    by_cases hhard : ∃ r, i = .hardReset r
    · obtain ⟨r, rfl⟩ := hhard
      have hcomplete : Completes KeepsForms (.hardReset r) s := ⟨_, rfl, hardReset_forms r⟩
      exact hcomplete.of_next he
    have hplain (hsoft : resetReplyOnLine s = true → i ≠ .softReset ∧ i ≠ .frameSendEnd) : KeepsForms s t :=
      ((exec_proceeds i s (not_exists.mp hhard) hsoft).of_next he).forms
    by_cases hline : resetReplyOnLine s = true
    · by_cases hi : i = .softReset ∨ i = .frameSendEnd
      · by_cases hlow : i = .frameSendEnd ∧ s.resetLow = true
        · obtain ⟨rfl, hlow⟩ := hlow
          have hcomplete : Completes KeepsForms .frameSendEnd s := ⟨s, by simp [exec, execFrameSendEnd, awake, hlow], .refl s⟩
          exact hcomplete.of_next he
        · have hi' : i = .softReset ∨ i = .frameSendEnd ∧ s.resetLow = false := hi.imp_right fun h => ⟨h, by simpa [h] using hlow⟩
          have hcomplete : Completes KeepsForms i s := ⟨_, exec_softReset hi' hline, softReset_forms⟩
          exact hcomplete.of_next he
      · exact hplain fun _ => not_or.mp hi
    · exact hplain fun h => absurd h hline
  exact ⟨hforms.mem, hforms.keyed, hforms.accs⟩

/-- Sound work lists name live clips of their job. -/
theorem State.WorkOwned.ordersListed {s : State} (h : s.WorkOwned) : s.OrdersListed := by
  intro r j hj c hc
  have hcommitted : s.Committed c r := (h.1 _ (mem_of_lookup hj)).1 c hc
  cases hk : s.clip c with
  | none => simp [State.Committed, hk] at hcommitted
  | some k =>
    simp only [State.Committed, hk, Option.any_some, Bool.and_eq_true, decide_eq_true_eq] at hcommitted
    exact ⟨k, rfl, hcommitted.1⟩

/-- Settles O59: every command proceeds by a first step and the work after it, and neither makes more of a job than it may. -/
theorem jobLifeFollowsItsStates : Obligations.JobLifeFollowsItsStates := by
  intro i s t h j he hkeyed howned hhard hreset hj
  have hsoft : resetReplyOnLine s = true → i ≠ .softReset ∧ i ≠ .frameSendEnd := fun hline => hreset (by simp_all [resetReplyOnLine])
  obtain ⟨hgone, hlived⟩ := ((exec_proceeds i s hhard hsoft).of_next he).life hkeyed howned.ordersListed h j hj
  exact ⟨hgone, fun j' hj' => have l := hlived j' hj'; ⟨l.recorded, l.order, l.closing, l.recopied, l.drains, l.closes⟩⟩

end Sys2Proof.Machine
end


section
/-! SUPPORT. The list of extents (R58), the answers to the requests that name a job or a clip (R36, R49), and the query replies (R48, R56,
R104). -/

namespace Sys2Proof.Machine

-- One theorem at a time: checking them all at once needs more threads than the sandbox gives.
set_option Elab.async false

open Sys2Proof

variable {s : State} {f : Frame} {rest : List Frame}

/-! ### The mapping of a list (R58) -/

/-- Blocks that the leading extents do not cover are looked up in the rest of the list. -/
theorem locate_append {before : List Extent} (list : List Extent) {k : Nat} (h : (before.map Extent.count).sum ≤ k) :
    locate (before ++ list) k = locate list (k - (before.map Extent.count).sum) := by
  induction before generalizing k with
  | nil => simp
  | cons e before ih =>
    rw [List.map_cons, List.sum_cons] at h ⊢
    rw [List.cons_append, locate, if_neg (by omega), ih (by omega), Nat.sub_sub]

/-- The address of a block and the room left in its extent. -/
theorem locate_eq {before : List Extent} (after : List Extent) {e : Extent} {k : Nat} (hlow : (before.map Extent.count).sum ≤ k)
    (hhigh : k < (before.map Extent.count).sum + e.count) :
    locate (before ++ e :: after) k =
      (e.start + (k - (before.map Extent.count).sum), e.count - (k - (before.map Extent.count).sum)) := by
  rw [locate_append _ hlow, locate, if_pos (by omega)]

/-- Settles O34: `locate_eq`, and a request is cut off at its extent's end. -/
theorem mappingFollowsTheExtents : Obligations.MappingFollowsTheExtents := by
  intro before after e k left hlow hhigh
  simp only [requestRun, Config.requestBlocks, locate_eq after hlow hhigh]
  refine ⟨trivial, trivial, ?_, ?_, ?_, fun _ => ?_⟩ <;> omega

/-! ### The answer to a request -/

/-- A request that its owner answers: the owner's reply goes out in the owner's state. -/
theorem serve_answer {α : Type} {kind : Byte} {fields : List Byte → Option α} {owner : α → State → Reply × State} {a : α} {r : Reply}
    {u : State} (ho : s.Offers f rest) (hk : f.kind = kind) (ha : fields f.payload = some a) (hown : owner a (s.taken f rest) = (r, u)) :
    serve kind fields owner s = sendFrame ⟨kind + 0x80, f.tag, BitVec.ofNat 8 r.status.code :: r.fields⟩ u := by
  rw [serve_taken ho hk ha, hown, replyFrame, hk]

theorem readOne_one (b : Byte) : readOne [b] = some b.toNat := rfl

theorem readHandle_two (b0 b1 : Byte) : readHandle [b0, b1] = some (b0.toNat + 256 * b1.toNat) := rfl

/-- A request that names a live job is its owner's to answer (R36). -/
theorem withJob_live {h : Nat} {j : Job} (hj : s.job h = some j) (owner : Job → Reply × State) :
    withJob h (s.taken f rest) owner = owner j := by
  have hjob : (s.taken f rest).job h = some j := hj
  rw [withJob, hjob]

/-- A request that names a free job record is refused (R36). -/
theorem withJob_free {h : Nat} (hj : s.job h = none) (owner : Job → Reply × State) :
    withJob h (s.taken f rest) owner = (statusOnly .badHandle, s.taken f rest) := by
  have hjob : (s.taken f rest).job h = none := hj
  rw [withJob, hjob]

/-- A request that names a live clip of a live job is its owner's to answer (R49). -/
theorem withClip_live {c : Nat} {k : Clip} {j : Job} (hk : s.clip c = some k) (hj : s.job k.job = some j)
    (owner : Clip → Job → Reply × State) : withClip c (s.taken f rest) owner = owner k j := by
  have hclip : (s.taken f rest).clip c = some k := hk
  have hjob : (s.taken f rest).job k.job = some j := hj
  simp only [withClip, hclip, hjob]

/-- A request that names a free clip record is refused (R49). -/
theorem withClip_free {c : Nat} (hk : s.clip c = none) (owner : Clip → Job → Reply × State) :
    withClip c (s.taken f rest) owner = (statusOnly .badHandle, s.taken f rest) := by
  have hclip : (s.taken f rest).clip c = none := hk
  simp only [withClip, hclip]

/-! ### The query replies (R48, R56, R104) -/

theorem flagByte_eq (b : Bool) : flagByte b = BitVec.ofNat 8 b.toNat := by cases b <;> rfl

theorem destOf_val (d : Dest) : destOf d.val = some d := by simp [destOf]

theorem copies_toList (k : Clip) : k.copies.toList = allDests.map k.copy := by
  have h : k.copies = Vector.ofFn k.copy := by ext i hi; simp [Clip.copy]
  rw [h, Vector.toList_ofFn]
  rfl

/-- Settles O28: each owner replies its record's fields and leaves the state. -/
theorem queriesReportRecords : Obligations.QueriesReportRecords := by
  intro s f rest ho
  refine ⟨fun b j hk hp hj => ?_, fun b0 b1 k hk hp hclip hlive => ?_, fun b d hk hp hd => ?_⟩
  · have hown : jobQuery b.toNat (s.taken f rest) = (⟨.ok, jobFields (s.taken f rest) b.toNat j⟩, s.taken f rest) := withJob_live hj _
    refine (congrArg Host.Outcome.next (serve_answer ho hk (hp ▸ readOne_one b) hown) : exec .jobQuery s = _).trans ?_
    simp only [jobFields, flagByte_eq, byteOfSet, identityBytes, textField, handleByte, leBytes, Status.code, List.cons_append, List.nil_append]
    rfl
  · obtain ⟨j, hj⟩ := Option.isSome_iff_exists.mp hlive
    have hown : clipQuery (b0.toNat + 256 * b1.toNat) (s.taken f rest) = (⟨.ok, clipFields k⟩, s.taken f rest) := withClip_live hclip hj _
    refine (congrArg Host.Outcome.next (serve_answer ho hk (hp ▸ readHandle_two b0 b1) hown) : exec .clipQuery s = _).trans ?_
    simp only [clipFields, copies_toList, List.flatMap_map, Copy.fields, flagByte_eq, byteOfSet]
    rfl
  · have hown : destQuery d.val (s.taken f rest) = (⟨.ok, destFields (s.taken f rest) d⟩, s.taken f rest) := by
      rw [destQuery, destOf_val]
    refine (congrArg Host.Outcome.next (serve_answer ho hk (hp ▸ hd ▸ readOne_one b) hown) : exec .destQuery s = _).trans ?_
    rfl

end Sys2Proof.Machine
end


section
/-! SUPPORT. The requests that make and fill records: JOB_OPEN (R40, R41), CLIP_BEGIN and CLIP_CANCEL (R50, R55), EXTENTS_ADD (R51, R52). -/

namespace Sys2Proof.Machine

-- One theorem at a time: checking them all at once needs more threads than the sandbox gives.
set_option Elab.async false

open Sys2Proof

variable {s : State} {f : Frame} {rest : List Frame}

/-! ### The lowest free record (R36, R49) -/

/-- A free number below which every one is in use is the lowest free one. -/
theorem firstFree_eq_some {α : Type} {t : Table α} {n k m : Nat} (hfree : lookup t m = none) (hlow : k ≤ m) (hhigh : m < k + n)
    (hused : ∀ i, k ≤ i → i < m → (lookup t i).isSome = true) : firstFree t n k = some m := by
  induction n generalizing k with
  | zero => omega
  | succ n ih =>
    by_cases hk : k = m
    · subst hk
      simp [firstFree, hfree]
    · have hlive : (lookup t k).isNone = false := by simpa using hused k (Nat.le_refl k) (by omega)
      simp only [firstFree, hlive, Bool.false_eq_true, if_false]
      exact ih (by omega) (by omega) fun i hi => hused i (by omega)

/-- With every number in use none is free. -/
theorem firstFree_eq_none {α : Type} {t : Table α} {n k : Nat} (hused : ∀ i, i < k + n → (lookup t i).isSome = true) :
    firstFree t n k = none := by
  induction n generalizing k with
  | zero => rfl
  | succ n ih =>
    have hlive : (lookup t k).isNone = false := by simpa using hused k (by omega)
    simp only [firstFree, hlive, Bool.false_eq_true, if_false]
    exact ih fun i hi => hused i (by omega)

/-- A record stored twice is stored the second time. -/
theorem store_store {α : Type} (t : Table α) (k : Nat) (a b : α) : store (store t k a) k b = store t k b := by
  induction t with
  | nil => simp [store]
  | cons e rest ih =>
    obtain ⟨n, c⟩ := e
    by_cases hlt : k < n
    · simp [store, hlt]
    · by_cases heq : n = k
      · simp [store, heq]
      · simp [store, hlt, heq, ih]

/-! ### CLIP_BEGIN and CLIP_CANCEL (R50, R55) -/

/-- The payload of a CLIP_BEGIN whose label has the length that it names. -/
theorem readClipBegin_eq {b l0 l1 l2 l3 l4 l5 n : Byte} {label : List Byte} (hlabel : label.length = n.toNat) (hn : n.toNat ≤ 32) :
    readClipBegin ([b, l0, l1, l2, l3, l4, l5, n] ++ label) = some ⟨b.toNat, leNat [l0, l1, l2, l3, l4, l5], label⟩ :=
  if_pos ⟨hn, hlabel⟩

/-- Settles O30: CLIP_BEGIN's owner on an OPEN job with a free record, and CLIP_CANCEL's owner by the clip's state. -/
theorem clipBeginAndCancel : Obligations.ClipBeginAndCancel := by
  refine ⟨fun s f rest b l0 l1 l2 l3 l4 l5 n label j len c ho hk hp hlabel hn hlen hpos hmax hj hopen hintake hc hfree hused => ?_,
    fun s f rest b0 b1 k ho hk hp hclip hlive => ?_⟩
  · have hown : clipBegin ⟨b.toNat, len, label⟩ (s.taken f rest) =
        (⟨.ok, leBytes 2 c⟩, setClip (s.taken f rest) c (beginClip ⟨b.toNat, len, label⟩)) := by
      have hfirst : firstFree (s.taken f rest).clips Config.clipRecords 0 = some c :=
        firstFree_eq_some hfree (Nat.zero_le c) (by simpa [Config.clipRecords] using hc) fun i _ => hused i
      rw [clipBegin, withJob_live hj, if_neg (by simp [hopen, hintake]), if_neg (by dsimp only; omega), hfirst]
    exact congrArg Host.Outcome.next (serve_answer ho hk (hp ▸ hlen ▸ readClipBegin_eq hlabel hn) hown)
  · obtain ⟨j, hj⟩ := Option.isSome_iff_exists.mp hlive
    have hgo {r : Reply} {u : State} (hown : clipCancel (b0.toNat + 256 * b1.toNat) (s.taken f rest) = (r, u)) :
        exec .clipCancel s = .next (sendFrame ⟨0x9B, f.tag, BitVec.ofNat 8 r.status.code :: r.fields⟩ u) :=
      congrArg Host.Outcome.next (serve_answer ho hk (hp ▸ readHandle_two b0 b1) hown)
    split
    next hst => exact hgo (by rw [clipCancel, withClip_live hclip hj, if_neg (by simp [hst])])
    next hst => exact hgo (by rw [clipCancel, withClip_live hclip hj, if_pos hst])

/-! ### EXTENTS_ADD (R51, R52) -/

/-- A number written in enough bytes is read back. -/
theorem leNat_leBytes (n v : Nat) : leNat (leBytes n v) = v % 256 ^ n := by
  induction n generalizing v with
  | zero => simp [leBytes, leNat, Nat.mod_one]
  | succ n ih =>
    have hbyte : (BitVec.ofNat 8 v).toNat = v % 256 := BitVec.toNat_ofNat ..
    rw [leBytes, leNat, ih, hbyte, Nat.pow_succ', Nat.mod_mul]

/-- An extent as the outside sends it: ten bytes. -/
def extentBytes (e : BitVec 48 × BitVec 32) : List Byte := leBytes 6 e.1.toNat ++ leBytes 4 e.2.toNat

/-- Extents that are sent are read back. -/
theorem readExtents_flatMap (es : List (BitVec 48 × BitVec 32)) :
    readExtents (es.flatMap extentBytes) = some (es.map fun e => ⟨e.1.toNat, e.2.toNat⟩) := by
  induction es with
  | nil => rfl
  | cons e es ih =>
    have hstart : leNat (leBytes 6 e.1.toNat) = e.1.toNat := (leNat_leBytes 6 _).trans (Nat.mod_eq_of_lt e.1.isLt)
    have hcount : leNat (leBytes 4 e.2.toNat) = e.2.toNat := (leNat_leBytes 4 _).trans (Nat.mod_eq_of_lt e.2.isLt)
    have hone (bytes : List Byte) : readExtents (extentBytes e ++ bytes) =
        (readExtents bytes).map (fun es => ⟨leNat (leBytes 6 e.1.toNat), leNat (leBytes 4 e.2.toNat)⟩ :: es) := rfl
    rw [List.flatMap_cons, hone, ih, hstart, hcount]
    rfl

theorem length_flatMap_extentBytes (es : List (BitVec 48 × BitVec 32)) : (es.flatMap extentBytes).length = 10 * es.length := by
  induction es with
  | nil => rfl
  | cons e es ih =>
    have hone : (extentBytes e).length = 10 := rfl
    rw [List.flatMap_cons, List.length_append, hone, ih, List.length_cons]
    omega

/-- The payload of an EXTENTS_ADD of 1 to 64 extents. -/
theorem readExtentsAdd_eq {h0 h1 sel : Byte} {es : List (BitVec 48 × BitVec 32)} (hlow : 1 ≤ es.length) (hhigh : es.length ≤ 64) :
    readExtentsAdd ([h0, h1, sel, BitVec.ofNat 8 es.length] ++ es.flatMap extentBytes) =
      some ⟨h0.toNat + 256 * h1.toNat, sel.toNat, es.map fun e => ⟨e.1.toNat, e.2.toNat⟩⟩ := by
  have hn : (BitVec.ofNat 8 es.length).toNat = es.length := by
    rw [BitVec.toNat_ofNat]
    omega
  refine (if_pos ?_).trans (congrArg (Option.map _) (readExtents_flatMap es))
  rw [hn]
  exact ⟨hlow, hhigh, length_flatMap_extentBytes es⟩

/-- A selector that names no list of the clip: above 4, or a destination outside the job's set. -/
theorem listOf_eq_none {j : Job} {n : Nat} (h : 4 < n ∨ (n < 4 ∧ j.destSet.getLsbD n = false)) : listOf j n = none := by
  rcases h with h | ⟨h, hout⟩
  · simp [listOf, targetOf, destOf, show ¬n < 4 by omega, show n ≠ 4 by omega]
  · have hmem : dmem j.destSet ⟨n, h⟩ = false := hout
    simp [listOf, targetOf, destOf, h, hmem]

theorem listOf_source (j : Job) : listOf j 4 = some .source := rfl

theorem listOf_dest {j : Job} {d : Dest} (h : j.destSet.getLsbD d.val = true) : listOf j d.val = some (.dest d) := by
  simp [listOf, targetOf, destOf, dmem, h]

/-- EXTENTS_ADD's owner once the list is named: the checks in their order (R51, R52). -/
theorem extentsAdd_eq {c n : Nat} {k : Clip} {j : Job} {t : Target} {extents : List Extent} (hclip : s.clip c = some k)
    (hj : s.job k.job = some j) (hst : k.sourceState = .building) (hlist : listOf j n = some t) :
    extentsAdd ⟨c, n, extents⟩ (s.taken f rest) =
      if ∃ e ∈ extents, e.count = 0 then (statusOnly .outOfRange, s.taken f rest)
      else if ∃ e ∈ extents, mediumCapacity j t < e.start + e.count then (statusOnly .outOfRange, s.taken f rest)
      else if 64 < (k.list t).length + extents.length ∨ extentsFree s.clips < extents.length then (statusOnly .noSpace, s.taken f rest)
      else
        (⟨.ok, leBytes 1 ((k.list t).length + extents.length) ++
            leBytes 2 (extentsFree (setClip (s.taken f rest) c (k.addExtents t extents)).clips)⟩,
          setClip (s.taken f rest) c (k.addExtents t extents)) := by
  rw [extentsAdd, withClip_live hclip hj, if_neg (not_not.mpr hst), hlist]
  have hclips : (s.taken f rest).clips = s.clips := rfl
  simp only [List.any_eq_true, decide_eq_true_eq, Config.listExtents, hclips]
  split
  · rfl
  · split
    · rfl
    · by_cases hlen : 64 < (k.list t).length + extents.length <;> by_cases hfree : extentsFree s.clips < extents.length <;>
        simp [hlen, hfree]

/-- Settles O31: the payload is read, and the owner's checks are decided one after the other. -/
theorem extentsAddChecksThenAppends : Obligations.ExtentsAddChecksThenAppends := by
  intro s f rest h0 h1 sel es c k j extents ho hk hlow hhigh hp hes hc answer
  have hgo {r : Reply} {u : State} (hown : extentsAdd ⟨c, sel.toNat, extents⟩ (s.taken f rest) = (r, u)) :
      exec .extentsAdd s = .next (sendFrame ⟨0x99, f.tag, BitVec.ofNat 8 r.status.code :: r.fields⟩ u) :=
    congrArg Host.Outcome.next (serve_answer ho hk (hp ▸ hes ▸ hc ▸ readExtentsAdd_eq hlow hhigh) hown)
  refine ⟨fun hclip => hgo (withClip_free hclip _), fun hclip hj => ⟨fun hst => ?_, fun hst => ⟨fun hsel => ?_, fun t list cap hnamed => ?_⟩⟩⟩
  · exact hgo (by rw [extentsAdd, withClip_live hclip hj, if_pos hst])
  · exact hgo (by rw [extentsAdd, withClip_live hclip hj, if_neg (not_not.mpr hst), listOf_eq_none hsel])
  · have hlist : listOf j sel.toNat = some t ∧ k.list t = list ∧ mediumCapacity j t = cap := by
      rcases hnamed with ⟨hsel, rfl, rfl, rfl⟩ | ⟨d, hd, hin, rfl, rfl, rfl⟩
      · exact ⟨hsel ▸ listOf_source j, rfl, rfl⟩
      · exact ⟨hd ▸ listOf_dest (hd ▸ hin), rfl, rfl⟩
    obtain ⟨hlist, rfl, rfl⟩ := hlist
    have hown := extentsAdd_eq (f := f) (rest := rest) (extents := extents) hclip hj hst hlist
    refine ⟨fun hzero => hgo (hown.trans (if_pos hzero)), fun hcounts => ⟨fun hout => ?_, fun hin => ⟨fun hfull => ?_, fun hlen hfree => ?_⟩⟩⟩
    all_goals rw [if_neg (by simpa using hcounts)] at hown
    · exact hgo (hown.trans (if_pos hout))
    all_goals rw [if_neg (by simpa using hin)] at hown
    · exact hgo (hown.trans (if_pos hfull))
    · rw [if_neg (by omega)] at hown
      refine ⟨_, _, rfl, hgo hown, ?_, fun d => ?_⟩
      · rintro rfl
        rfl
      · rintro rfl
        rfl

/-! ### JOB_OPEN (R40, R41) -/

/-- How many destinations a "Set" byte names. -/
theorem dcard_eq (set : Byte) : dcard (set.setWidth 4) = ((List.range 4).filter (fun d => set.getLsbD d)).length := by
  have hrange : List.range 4 = allDests.map Fin.val := rfl
  rw [hrange, List.filter_map, List.length_map, dcard]
  congr 2
  funext d
  simp [dmem]

theorem dmem_setWidth (set : Byte) (d : Dest) : dmem (set.setWidth 4) d = set.getLsbD d.val := by simp [dmem]

/-- A set that is not empty has a member. -/
theorem dcard_pos {set : DestSet} (h : set ≠ 0) : 1 ≤ dcard set := by
  obtain ⟨d, hd⟩ : ∃ d : Dest, dmem set d = true := by
    by_contra hnone
    refine h (BitVec.eq_of_getLsbD_eq fun i hi => ?_)
    have := not_exists.mp hnone ⟨i, hi⟩
    simpa [dmem] using this
  exact List.length_pos_of_mem (List.mem_filter.mpr ⟨by fin_cases d <;> decide, hd⟩)

theorem allOnline_iff (set : DestSet) : allOnline s set = true ↔ ∀ d, dmem set d = true → (s.dest d).state = .online := by
  have hall (d : Dest) : d ∈ allDests := by fin_cases d <;> decide
  simp only [allOnline, List.all_eq_true, Bool.or_eq_true, Bool.not_eq_true', decide_eq_true_eq]
  refine forall_congr' fun d => ?_
  cases hd : dmem set d <;> simp [hall]

theorem cardInUse_iff (id : CardIdentity) :
    cardInUse s id = true ↔ ∃ e ∈ s.jobs, e.2.identity.fingerprint = id.fingerprint ∧ e.2.identity.capacity = id.capacity := by
  simp [cardInUse, sameCard]

theorem not_cardInUse {id : CardIdentity} (h : ∀ e ∈ s.jobs, e.2.identity.fingerprint ≠ id.fingerprint ∨ e.2.identity.capacity ≠ id.capacity) :
    ¬cardInUse s id = true := fun hin => by
  obtain ⟨e, he, hfp, hcap⟩ := (cardInUse_iff id).mp hin
  exact (h e he).elim (fun hne => hne hfp) fun hne => hne hcap

/-- The state that JOB_OPEN makes: the port's binding is already the one that the new record names (R41). -/
theorem openJob_eq (u : State) (h : Nat) (p : Port) {j : Job} (hb : j.binding = some p) :
    leaveSurveyQueue p (bindJob h p (setJob u h j)) =
      { u with
        jobs := store u.jobs h j
        ports := u.ports.set p.val { u.port p with state := .bound, job := some h }
        readers := u.readers.set p.val { u.reader p with blocksRead := 0 }
        surveyQueue := u.surveyQueue.filter (fun q => decide (q ≠ p)) } := by
  have hmod : modJob h (fun j => { j with binding := some p }) (setJob u h j) = setJob u h j := by
    rw [modJob, setJob_job_self]
    simp only [setJob, store_store, ← hb]
  rw [bindJob, hmod]
  rfl

/-- The payload of a JOB_OPEN. -/
theorem readJobOpen_six (b set required verify q0 q1 : Byte) :
    readJobOpen [b, set, required, verify, q0, q1] =
      some ⟨b.toNat, set.setWidth 4, required.toNat, verify.toNat, q0.toNat + 256 * q1.toNat⟩ := rfl

/-- The stored required copies and slot quota (R40). -/
theorem fit_eq {set required q0 q1 : Byte} {copies quota members : Nat} (hset : set.setWidth 4 ≠ (0 : DestSet))
    (hmembers : members = ((List.range 4).filter (fun d => set.getLsbD d)).length) (hcopies : copies = max 1 (min required.toNat members))
    (hquota : quota = max 1 (min (q0.toNat + 256 * q1.toNat) 512)) :
    fitRequired required.toNat (set.setWidth 4) = copies ∧ fitQuota (q0.toNat + 256 * q1.toNat) = quota := by
  have hpos := dcard_pos hset
  rw [fitRequired, dcard_eq, ← hmembers, hcopies, fitQuota, hquota, Config.maxQuota]
  rw [dcard_eq, ← hmembers] at hpos
  omega

/-- JOB_OPEN's owner where every check is passed: it makes the lowest free record the job (R40, R41). -/
theorem jobOpen_taken {u : State} {a : JobOpenFields} {p : Port} {id : CardIdentity} {h : Nat} (hp : portOf a.port = some p)
    (hvalid : ¬(a.destSet = 0 ∨ 1 < a.sourceVerify)) (hport : (u.port p).state = .identified) (hid : (u.port p).identity = some id)
    (honline : allOnline u a.destSet = true) (hunused : ¬cardInUse u id = true) (hfirst : firstFree u.jobs Config.jobRecords 0 = some h) :
    jobOpen a u =
      (⟨if fitRequired a.required a.destSet = a.required ∧ fitQuota a.quota = a.quota then .ok else .clamped,
          leBytes 1 h ++ leBytes 1 (fitRequired a.required a.destSet) ++ leBytes 2 (fitQuota a.quota)⟩,
        refresh (leaveSurveyQueue p (bindJob h p (setJob u h (openedJob u p a id))))) := by
  simp only [jobOpen, hp]
  rw [if_neg hvalid, if_neg (not_not.mpr hport), if_neg (by simp [honline])]
  simp only [hid]
  rw [if_neg hunused, hfirst]
  rfl

/-- Settles O24: JOB_OPEN's owner, taken by `jobOpen_taken`, or refused with its checks decided one after the other. -/
theorem jobOpenMakesTheJobOrRefuses : Obligations.JobOpenMakesTheJobOrRefuses := by
  refine ⟨fun s f rest p set required verify q0 q1 id h ho hk hp hset hverify hport hid honline hcards hlow hfree hused copies quota members
    hmembers hcopies hquota => ?_, fun s f rest b set required verify q0 q1 ho hk hp => ?_⟩
  · let a : JobOpenFields := ⟨p.val, set.setWidth 4, required.toNat, verify.toNat, q0.toNat + 256 * q1.toNat⟩
    have ha : readJobOpen f.payload = some a := by
      have hb : (BitVec.ofNat 8 p.val).toNat = p.val := by
        rw [BitVec.toNat_ofNat]
        omega
      rw [hp, readJobOpen_six, hb]
    have hvalid : ¬(a.destSet = 0 ∨ 1 < a.sourceVerify) := not_or.mpr ⟨hset, by simp only [a]; omega⟩
    have honline' : allOnline (s.taken f rest) a.destSet = true :=
      (allOnline_iff _).mpr fun d hd => honline d ((dmem_setWidth set d).symm.trans hd)
    have hfirst : firstFree (s.taken f rest).jobs Config.jobRecords 0 = some h :=
      firstFree_eq_some hfree (Nat.zero_le h) (by simpa [Config.jobRecords] using hlow) fun i _ => hused i
    have hown := jobOpen_taken (u := s.taken f rest) (portOf_val p) hvalid hport hid honline' (not_cardInUse hcards) hfirst
    obtain ⟨hrequired, hfit⟩ := fit_eq hset hmembers hcopies hquota
    refine (congrArg Host.Outcome.next (serve_answer ho hk ha hown) : exec .jobOpen s = _).trans ?_
    rw [openJob_eq (s.taken f rest) h p (j := openedJob (s.taken f rest) p a id) rfl]
    simp only [openedJob, a, hrequired, hfit, dmem_setWidth]
    split <;> rfl
  · intro answer
    let a : JobOpenFields := ⟨b.toNat, set.setWidth 4, required.toNat, verify.toNat, q0.toNat + 256 * q1.toNat⟩
    have hgo (st : Status) (hown : jobOpen a (s.taken f rest) = (statusOnly st, s.taken f rest)) : answer (BitVec.ofNat 8 st.code) :=
      congrArg Host.Outcome.next (serve_answer ho hk (hp ▸ readJobOpen_six b set required verify q0 q1) hown)
    refine ⟨fun hb => hgo .badHandle (by rw [jobOpen, portOf_eq_none hb]), fun p hpb => ?_⟩
    have hport : portOf a.port = some p := by simp only [a, ← hpb, portOf_val]
    refine ⟨fun hbad => hgo .outOfRange ?_, fun hset hverify => ⟨fun hstate => hgo .badState ?_, fun hstate =>
      ⟨fun hoff => hgo .badState ?_, fun honline id hid => ⟨fun hused => hgo .duplicateCard ?_, fun hcards hfull => hgo .noSpace ?_⟩⟩⟩⟩
    all_goals simp only [jobOpen, hport]
    · rw [if_pos hbad]
    all_goals rw [if_neg (by simp only [a, not_or]; exact ⟨hset, by omega⟩)]
    · exact if_pos hstate
    all_goals
      have hstate' : ((s.taken f rest).port p).state = .identified := hstate
      rw [if_neg (not_not.mpr hstate')]
    · obtain ⟨d, hd, hne⟩ := hoff
      have hoffline : allOnline (s.taken f rest) a.destSet = false :=
        Bool.eq_false_iff.mpr fun hon => hne ((allOnline_iff _).mp hon d ((dmem_setWidth set d).trans hd))
      rw [if_pos hoffline]
    all_goals
      have honline' : allOnline (s.taken f rest) a.destSet = true :=
        (allOnline_iff _).mpr fun d hd => honline d ((dmem_setWidth set d).symm.trans hd)
      have hid' : ((s.taken f rest).port p).identity = some id := hid
      rw [if_neg (by simp [honline'])]
      simp only [hid']
    · exact if_pos ((cardInUse_iff id).mpr hused)
    · have hunused : ¬cardInUse (s.taken f rest) id = true := not_cardInUse hcards
      have hnone : firstFree (s.taken f rest).jobs Config.jobRecords 0 = none :=
        firstFree_eq_none fun i hi => hfull i (by simpa [Config.jobRecords] using hi)
      rw [if_neg hunused, hnone]

end Sys2Proof.Machine
end


section
/-! SUPPORT. JOB_FINAL, JOB_PAUSE and JOB_RESUME (R42, R43, R135), CLIP_COMMIT (R53, R54), and what the tests at an event's end make of a job
that is not CLOSING (R38, R145). -/

namespace Sys2Proof.Machine

-- One theorem at a time: checking them all at once needs more threads than the sandbox gives.
set_option Elab.async false

open Sys2Proof

variable {s : State} {f : Frame} {rest : List Frame}

/-! ### JOB_FINAL, JOB_PAUSE and JOB_RESUME (R42, R43) -/

theorem hasBuilding_iff (h : Nat) : hasBuilding s h = true ↔ ∃ e ∈ s.clips, e.2.job = h ∧ e.2.sourceState = .building := by
  simp [hasBuilding]

/-- JOB_PAUSE leaves an engine that has no SOURCE task of the job, or whose segment for it is in flight. -/
theorem pauseEngine_keeps {h : Nat} {e : EngineIx}
    (hnone : ∀ u, (s.engine e).task = some (u, h) → u.target = .source → (s.engine e).seg = .inFlight) : pauseEngine h s e = s := by
  unfold pauseEngine
  split
  next u h' htask =>
    refine if_neg ?_
    rintro ⟨rfl, hsource, hseg⟩
    exact hseg (hnone u htask hsource)
  · rfl

/-- Settles O25: each owner by the job's state, and `pauseEngine_keeps` for the engines. -/
theorem jobFinalPauseResume : Obligations.JobFinalPauseResume := by
  intro s f rest b h ho hp hb
  have hread : readOne f.payload = some h := hp ▸ hb ▸ readOne_one b
  have hfinal (st : Status) {u : State} (hk : f.kind = 0x11) (hown : jobFinal h (s.taken f rest) = (statusOnly st, u)) :
      exec .jobFinal s = .next (sendFrame ⟨0x91, f.tag, [BitVec.ofNat 8 st.code]⟩ u) :=
    congrArg Host.Outcome.next (serve_answer ho hk hread hown)
  have hpause (st : Status) {u : State} (hk : f.kind = 0x12) (hown : jobPause h (s.taken f rest) = (statusOnly st, u)) :
      exec .jobPause s = .next (sendFrame ⟨0x92, f.tag, [BitVec.ofNat 8 st.code]⟩ u) :=
    congrArg Host.Outcome.next (serve_answer ho hk hread hown)
  have hresume (st : Status) {u : State} (hk : f.kind = 0x13) (hown : jobResume h (s.taken f rest) = (statusOnly st, u)) :
      exec .jobResume s = .next (sendFrame ⟨0x93, f.tag, [BitVec.ofNat 8 st.code]⟩ u) :=
    congrArg Host.Outcome.next (serve_answer ho hk hread hown)
  refine ⟨fun hfree => ⟨fun hk => hfinal .badHandle hk (withJob_free hfree _), fun hk => hpause .badHandle hk (withJob_free hfree _),
    fun hk => hresume .badHandle hk (withJob_free hfree _)⟩, fun j hj => ⟨fun hst => ⟨fun hk => hfinal .badState hk ?_,
    fun hk => hpause .badState hk ?_, fun hk => hresume .badState hk ?_⟩, fun hst => ⟨fun hk hbuilding => hfinal .busy hk ?_,
    fun hk hbuilt => hfinal .ok hk ?_, fun hk hsource => hpause .ok hk ?_, fun hk => hresume .ok hk ?_⟩⟩⟩
  · rw [jobFinal, withJob_live hj, if_pos hst]
  · rw [jobPause, withJob_live hj, if_pos hst]
  · rw [jobResume, withJob_live hj, if_pos hst]
  · have hin : hasBuilding (s.taken f rest) h = true := (hasBuilding_iff h).mpr hbuilding
    rw [jobFinal, withJob_live hj, if_neg hst, if_pos hin]
  · have hnone : ¬hasBuilding (s.taken f rest) h = true := fun hin => by
      obtain ⟨e, he, hjob, hstate⟩ := (hasBuilding_iff h).mp hin
      exact hbuilt e he hjob hstate
    rw [jobFinal, withJob_live hj, if_neg hst, if_neg hnone]
    split <;> rfl
  · have hengines (u : State) (hu : u.engines = s.engines) (e : EngineIx) : pauseEngine h u e = u := by
      have he : u.engine e = s.engine e := congrArg (·[e.val]) hu
      exact pauseEngine_keeps fun v hv hsrc => absurd hsrc (hsource e v (he ▸ hv))
    have hfold (u : State) (hu : u.engines = s.engines) : [1, 0].foldl (pauseEngine h) u = u := by
      change pauseEngine h (pauseEngine h u 1) 0 = u
      rw [hengines u hu, hengines u hu]
    rw [jobPause, withJob_live hj, if_neg hst, hfold (setJob (s.taken f rest) h _) rfl]
    split <;> rfl
  · rw [jobResume, withJob_live hj, if_neg hst]

/-! ### The evaluation (R145) -/

/-- An evaluation changes the job's clearable and attention fields alone, and may queue a notice. -/
theorem evalJob_spec {h : Nat} {j : Job} (hj : s.job h = some j) :
    ∃ clear attention jobs sending waiting notices missed,
      evalJob s h = { s with jobs := jobs, sending := sending, waitingReply := waiting, notices := notices, missed := missed } ∧
      lookup jobs h = some { j with clearable := clear, attention := attention } ∧ ∀ i, i ≠ h → lookup jobs i = s.job i := by
  by_cases hst : j.state = .closing
  · exact ⟨j.clearable, j.attention, s.jobs, s.sending, s.waitingReply, s.notices, s.missed, by simp [evalJob, hj, hst], hj, fun _ _ => rfl⟩
  · have hset : ∃ sending waiting notices missed, evalJob s h =
        { setJob s h { j with attention := attentionMet s j, clearable := clearableMet s j } with
          sending := sending, waitingReply := waiting, notices := notices, missed := missed } := by
      simp only [evalJob, hj, if_neg hst]
      split
      · exact ⟨_, _, _, _, rfl⟩
      · split <;> rw [notify_frame] <;> exact ⟨_, _, _, _, rfl⟩
    obtain ⟨sending, waiting, notices, missed, he⟩ := hset
    exact ⟨clearableMet s j, attentionMet s j, _, sending, waiting, notices, missed, he, setJob_job_self s h _, fun i hi => setJob_job_of_ne s hi _⟩

/-! ### CLIP_COMMIT (R53, R54) -/

theorem listsCover_iff (k : Clip) (j : Job) :
    listsCover k j = true ↔ (k.source.map Extent.count).sum = (k.length + 511) / 512 ∧
      ∀ d : Dest, j.destSet.getLsbD d.val = true → ((k.target d).map Extent.count).sum = (k.length + 511) / 512 := by
  have hall (d : Dest) : d ∈ allDests := by fin_cases d <;> decide
  have hblocks : k.blocks = (k.length + 511) / 512 := rfl
  simp only [listsCover, Bool.and_eq_true, decide_eq_true_eq, List.all_eq_true, Bool.or_eq_true, Bool.not_eq_true', covered, hblocks, dmem]
  refine and_congr_right fun _ => forall_congr' fun d => ?_
  cases j.destSet.getLsbD d.val <;> simp [hall]

/-- Settles O32: CLIP_COMMIT's owner by its two checks; the evaluation after it is `evalJob_spec`. -/
theorem commitQueuesCoveredClip : Obligations.CommitQueuesCoveredClip := by
  intro s f rest b0 b1 c k j ho hk hp hc hclip hj
  have hread : readHandle f.payload = some c := hp ▸ hc ▸ readHandle_two b0 b1
  have hgo (st : Status) {u : State} (hown : clipCommit c (s.taken f rest) = (statusOnly st, u)) :
      exec .clipCommit s = .next (sendFrame ⟨0x9A, f.tag, [BitVec.ofNat 8 st.code]⟩ u) :=
    congrArg Host.Outcome.next (serve_answer ho hk hread hown)
  refine ⟨fun hst => hgo .badState ?_, fun hst => ⟨fun hshort => hgo .lengthMismatch ?_, fun hsource htargets => ?_⟩⟩
  · rw [clipCommit, withClip_live hclip hj, if_pos hst]
  · have huncovered : listsCover k j = false := Bool.eq_false_iff.mpr fun hcover => by
      obtain ⟨hsrc, htgt⟩ := (listsCover_iff k j).mp hcover
      rcases hshort with hne | ⟨d, hd, hne⟩
      · exact hne hsrc
      · exact hne (htgt d hd)
    rw [clipCommit, withClip_live hclip hj, if_neg (not_not.mpr hst), if_pos huncovered]
  · have hcovered : listsCover k j = true := (listsCover_iff k j).mpr ⟨hsource, htargets⟩
    let u : State := setJob (setClip (s.taken f rest) c (k.committed j)) k.job { j with order := j.order ++ [c] }
    have hown : clipCommit c (s.taken f rest) = (statusOnly .ok, refresh (evalJob u k.job)) := by
      rw [clipCommit, withClip_live hclip hj, if_neg (not_not.mpr hst), if_neg (by simp [hcovered])]
    obtain ⟨clear, attention, jobs, sending, waiting, notices, missed, heval, hself, hother⟩ :=
      evalJob_spec (s := u) (setJob_job_self _ k.job { j with order := j.order ++ [c] })
    refine ⟨_, k.committed j, { j with order := j.order ++ [c], clearable := clear, attention := attention }, hgo .ok hown,
      sendFrame_replyOut _ _, ?_, ?_, rfl, fun d => ?_, rfl, fun i hi => ?_, fun i hi => ?_, ?_⟩
    · rw [sendFrame_clip, refresh_clip, heval]
      exact setClip_clip_self (s.taken f rest) c _
    · rw [sendFrame_job, refresh_job, heval]
      exact hself
    · simp [Clip.committed, Clip.copy, dmem]
    · rw [sendFrame_clip, refresh_clip, heval]
      exact setClip_clip_of_ne (s.taken f rest) hi _
    · rw [sendFrame_job, refresh_job, heval]
      exact (hother i hi).trans (setJob_job_of_ne (setClip (s.taken f rest) c (k.committed j)) hi _)
    · simp only [sendFrame_slots, sendFrame_dests, sendFrame_verifyQueue, sendFrame_mem, heval]
      exact ⟨rfl, rfl, rfl, rfl⟩

end Sys2Proof.Machine
end


section
/-! SUPPORT. JOB_FINAL on a job with nothing to read (R38, R144, R145) and JOB_PAUSE on a job whose SOURCE tasks engines hold (R135). -/

namespace Sys2Proof.Machine

-- One theorem at a time: checking them all at once needs more threads than the sandbox gives.
set_option Elab.async false

open Sys2Proof

variable {s t : State} {f : Frame} {rest : List Frame}

/-! ### The tests of a job that is not CLOSING and issues no SOURCE task (R38, R145) -/

/-- Only a CLOSING job is freed. -/
theorem freeJob_open {h : Nat} {j : Job} (hj : s.job h = some j) (hst : j.state ≠ .closing) : freeJob s h = s := by
  simp [freeJob, hj, hst]

/-- A job drains without SOURCE tasks if it has issued them or has no clip (R38, R123). -/
theorem drainJob_issued {h : Nat} {j : Job} (hj : s.job h = some j) (hissued : j.tasksIssued = true ∨ j.order = []) :
    drainJob s h =
      if drainMet s h j then notify (.jobDrained h) (setJob s h { j with state := .drained, tasksIssued := true }) else s := by
  simp only [drainJob, hj]
  split
  · rcases hissued with hissued | horder
    · rw [if_neg (by simp [hissued])]
    · simp [horder]
  · rfl

/-- The tests of such a job change job records and the notices alone, and keep what its record says of its pause. -/
theorem closeJobs_issued {h : Nat} {j : Job} (hj : s.job h = some j) (hst : j.state ≠ .closing) (hissued : j.tasksIssued = true) :
    ∃ j' jobs sending waiting notices missed,
      closeJobs [h] s = { s with jobs := jobs, sending := sending, waitingReply := waiting, notices := notices, missed := missed } ∧
      lookup jobs h = some j' ∧ j'.paused = j.paused := by
  have hdrain : ∃ st jobs sending waiting notices missed,
      drainJob s h = { s with jobs := jobs, sending := sending, waitingReply := waiting, notices := notices, missed := missed } ∧
      lookup jobs h = some { j with state := st } ∧ st ≠ .closing := by
    rw [drainJob_issued hj (.inl hissued)]
    split
    · rw [notify_frame, ← hissued]
      exact ⟨.drained, _, _, _, _, _, rfl, setJob_job_self s h _, by decide⟩
    · exact ⟨j.state, s.jobs, s.sending, s.waitingReply, s.notices, s.missed, rfl, hj, hst⟩
  obtain ⟨st, jobs, sending, waiting, notices, missed, hdrained, hjob, hopen⟩ := hdrain
  have hjob' : (drainJob s h).job h = some { j with state := st } := by
    rw [hdrained]
    exact hjob
  obtain ⟨clear, attention, jobs', sending', waiting', notices', missed', heval, hself, _⟩ := evalJob_spec hjob'
  have hfree : freeJob (evalJob (drainJob s h) h) h = evalJob (drainJob s h) h :=
    freeJob_open (j := { j with state := st, clearable := clear, attention := attention }) (by rw [heval]; exact hself) hopen
  refine ⟨_, jobs', sending', waiting', notices', missed', ?_, hself, rfl⟩
  change freeJob (evalJob (drainJob s h) h) h = _
  rw [hfree, heval, hdrained]

/-! ### JOB_FINAL on a job with nothing to read (R38, R144, R145) -/

theorem readers_toList (s : State) : s.readers.toList = allPorts.map s.reader := by
  have h : s.readers = Vector.ofFn s.reader := by ext i hi; simp [State.reader]
  rw [h, Vector.toList_ofFn]
  rfl

/-- The tests drain such a job and, with no clip, make it clearable, with a notice of each. -/
theorem closeJobs_empty {h : Nat} {j : Job} (hj : s.job h = some j) (hst : j.state = .reading) (hfinal : j.intakeFinal = true)
    (horder : j.order = []) (hrecopy : j.recopy = []) (hclear : j.clearable = false) (hchunk : ∀ p, ∀ c ∈ (s.reader p).chunk, c.job ≠ h) :
    closeJobs [h] s =
      notify (.cardClearable h j.binding)
        (setJob (notify (.jobDrained h) (setJob s h { j with state := .drained, tasksIssued := true })) h
          { j with state := .drained, tasksIssued := true, attention := false, clearable := true }) := by
  have hnone : chunkOfJob s h = false := by
    simp only [chunkOfJob, readers_toList, List.any_map, List.any_eq_false]
    intro p _
    cases hc : (s.reader p).chunk with
    | none => simp [hc]
    | some c => simpa [hc] using hchunk p c hc
  have hmet : drainMet s h j = true := by simp [drainMet, hst, hfinal, horder, hrecopy, hnone]
  have hdrain := (drainJob_issued hj (.inr horder)).trans (if_pos hmet)
  have hjob : (drainJob s h).job h = some { j with state := .drained, tasksIssued := true } := by
    rw [hdrain, notify_job]
    exact setJob_job_self s h _
  have heval : evalJob (drainJob s h) h =
      notify (.cardClearable h j.binding)
        (setJob (drainJob s h) h { j with state := .drained, tasksIssued := true, attention := false, clearable := true }) := by
    simp [evalJob, hjob, clearableMet, attentionMet, horder, hclear]
  have hjob' : (evalJob (drainJob s h) h).job h =
      some { j with state := .drained, tasksIssued := true, attention := false, clearable := true } := by
    rw [heval, notify_job]
    exact setJob_job_self (drainJob s h) h _
  change freeJob (evalJob (drainJob s h) h) h = _
  rw [freeJob_open hjob' fun h => (nomatch h), heval, hdrain]

/-- A told notice stays told when a reply is sent. -/
theorem sendFrame_keeps_told {n : Notice} (h : s.Told n) (r : Frame) : (sendFrame r s).Told n :=
  pump_keeps_told (s := { s with dispatch := none, waitingReply := some r }) h

theorem refresh_keeps_told {n : Notice} (h : s.Told n) : (refresh s).Told n := h

/-- On a busy line a notice joins a queue that has room. -/
theorem notify_waits (n : Notice) (hline : s.sending.isSome = true) (hroom : s.notices.length < 64) :
    notify n s = { s with notices := s.notices ++ [n] } := by
  rw [notify_busy s n hline]
  rcases enqueue_cases s n with ⟨_, he⟩ | ⟨hfull, _⟩
  · exact he
  · omega

/-- JOB_FINAL's drain of a READING job with nothing to read, and the notices of it (R38, R144, R145). -/
theorem finalDrainsEmptyJob {b : Byte} {j : Job} (ho : s.Offers f rest) (hk : f.kind = 0x11) (hp : f.payload = [b])
    (hj : s.job b.toNat = some j) (hst : j.state = .reading) (hfinal : j.intakeFinal = false) (horder : j.order = []) (hrecopy : j.recopy = [])
    (hclear : j.clearable = false) (hclips : ∀ e ∈ s.clips, e.2.job ≠ b.toNat) (hchunk : ∀ p, ∀ c ∈ (s.reader p).chunk, c.job ≠ b.toNat) :
    ∃ t, exec .jobFinal s = .next t ∧ t.replyOut = some ⟨0x91, f.tag, [0]⟩ ∧
      t.job b.toNat =
        some { j with intakeFinal := true, state := .drained, tasksIssued := true, attention := false, clearable := true } ∧
      t.Told (.jobDrained b.toNat) ∧ t.Told (.cardClearable b.toNat j.binding) ∧
      (s.sending.isSome = true → s.notices.length ≤ 62 →
        t.notices = s.notices ++ [.jobDrained b.toNat, .cardClearable b.toNat j.binding]) ∧
      t.clips = s.clips ∧ t.verifyQueue = s.verifyQueue ∧ t.slots = s.slots := by
  let v : State := setJob (setJob (s.taken f rest) b.toNat { j with intakeFinal := true }) b.toNat
    { j with intakeFinal := true, state := .drained, tasksIssued := true }
  let u : State := setJob (notify (.jobDrained b.toNat) v) b.toNat
    { j with intakeFinal := true, state := .drained, tasksIssued := true, attention := false, clearable := true }
  have hclose : closeJobs [b.toNat] (setJob (s.taken f rest) b.toNat { j with intakeFinal := true }) =
      notify (.cardClearable b.toNat j.binding) u :=
    closeJobs_empty (j := { j with intakeFinal := true }) (setJob_job_self _ _ _) hst rfl horder hrecopy hclear hchunk
  have hbuilt : ¬hasBuilding (s.taken f rest) b.toNat = true := fun hin => by
    obtain ⟨e, he, hjob, _⟩ := (hasBuilding_iff _).mp hin
    exact hclips e he hjob
  have hown : jobFinal b.toNat (s.taken f rest) = (statusOnly .ok, refresh (notify (.cardClearable b.toNat j.binding) u)) := by
    rw [jobFinal, withJob_live hj, if_neg (by simp [hst]), if_neg hbuilt, if_neg (by simp [hfinal])]
    rw [hclose]
  refine ⟨_, congrArg Host.Outcome.next (serve_answer ho hk (hp ▸ readOne_one b) hown), sendFrame_replyOut _ _, ?_, ?_, ?_, fun hline hroom => ?_, ?_⟩
  · rw [sendFrame_job, refresh_job, notify_job]
    exact setJob_job_self (notify (.jobDrained b.toNat) v) b.toNat _
  · have htold : u.Told (.jobDrained b.toNat) := notify_told v (.jobDrained b.toNat)
    exact sendFrame_keeps_told (refresh_keeps_told (notify_keeps_told htold _)) _
  · exact sendFrame_keeps_told (refresh_keeps_told (notify_told u _)) _
  · have hv : notify (.jobDrained b.toNat) v = { v with notices := s.notices ++ [.jobDrained b.toNat] } :=
      notify_waits (s := v) _ hline (Nat.lt_of_le_of_lt hroom (by decide))
    have hu : notify (.cardClearable b.toNat j.binding) u = { u with notices := u.notices ++ [.cardClearable b.toNat j.binding] } := by
      refine notify_waits _ ?_ ?_
      · simp only [u, setJob_sending, hv]
        exact hline
      · simp only [u, setJob_notices, hv, List.length_append, List.length_singleton]
        omega
    rw [sendFrame_notices, refresh_notices, hu]
    simp only [u, setJob_notices, hv, List.append_assoc, List.cons_append, List.nil_append]
  · simp only [sendFrame_clips, sendFrame_verifyQueue, sendFrame_slots, refresh_clips, refresh_verifyQueue, refresh_slots, notify_clips,
      notify_verifyQueue, notify_slots, u, setJob_clips, setJob_verifyQueue, setJob_slots]
    exact ⟨rfl, rfl, rfl⟩

/-! ### JOB_PAUSE on a job whose SOURCE tasks engines hold (R135) -/

theorem engine_cases (e : EngineIx) : e = 0 ∨ e = 1 := by
  revert e
  decide

/-- What JOB_PAUSE for job `h` takes back from engine `e`: `held` is its SOURCE task of the job, unless its segment is in flight. -/
def PausesAt (s : State) (h : Nat) (e : EngineIx) (held : List Task) : Prop :=
  (held = [] ∧ ∀ u, (s.engine e).task = some (u, h) → u.target = .source → (s.engine e).seg = .inFlight) ∨
    ∃ u, held = [u] ∧ (s.engine e).task = some (u, h) ∧ u.target = .source ∧ (s.engine e).seg ≠ .inFlight

/-- One engine at a JOB_PAUSE: the task it gives up goes to the head of the Verify Queue, and its clip is QUEUED. -/
structure Paused (s t : State) (e : EngineIx) (held : List Task) : Prop where
  queue : t.verifyQueue = held ++ s.verifyQueue
  jobs : t.jobs = s.jobs
  kept : held = [] → t.engine e = s.engine e
  other : ∀ i, i ≠ e → t.engine i = s.engine i
  idle : ∀ u ∈ held, t.engine e = Engine.idle ∧ (∀ p, e ∉ (t.reader p).segWaiting) ∧ ∀ k ∈ t.clip u.clip, k.sv = .queued
  waiting : ∀ p i, i ∈ (t.reader p).segWaiting → i ∈ (s.reader p).segWaiting
  queued : ∀ c, (∀ k ∈ s.clip c, k.sv = .queued) → ∀ k ∈ t.clip c, k.sv = .queued

theorem pauseEngine_spec {h : Nat} {e : EngineIx} {held : List Task} (hheld : PausesAt s h e held) : Paused s (pauseEngine h s e) e held := by
  rcases hheld with ⟨rfl, hnone⟩ | ⟨u, rfl, htask, hsource, hseg⟩
  · rw [pauseEngine_keeps hnone]
    exact ⟨rfl, rfl, fun _ => rfl, fun _ _ => rfl, fun _ hu => (nomatch hu), fun _ _ => id, fun _ => id⟩
  · have hgive : pauseEngine h s e = giveUp e s := by
      simp [pauseEngine, htask, hsource, hseg]
    obtain ⟨hqueue, hidle, hother, hreader, hclip⟩ := giveUp_spec htask
    rw [hgive]
    refine ⟨hqueue, ?_, fun hne => (nomatch hne), hother, fun v hv => ?_, fun p i hi => ?_, fun c hc k hk => ?_⟩
    · obtain ⟨_, _, _, _, _, he⟩ := giveUp_frame e s
      rw [he]
    · obtain rfl := List.mem_singleton.mp hv
      refine ⟨hidle, fun p => by simp [hreader], fun k hk => ?_⟩
      rw [hclip, if_pos rfl] at hk
      obtain ⟨_, _, rfl⟩ := Option.map_eq_some_iff.mp hk
      rfl
    · rw [hreader] at hi
      exact (List.mem_filter.mp hi).1
    · rw [hclip] at hk
      split at hk
      · obtain ⟨_, _, rfl⟩ := Option.map_eq_some_iff.mp hk
        rfl
      · exact hc k hk

/-- JOB_PAUSE takes back what each engine holds, engine 0's task ahead of engine 1's. -/
theorem pauseGivesUpTasks {b : Byte} {j : Job} {held : EngineIx → List Task} (ho : s.Offers f rest) (hk : f.kind = 0x12) (hp : f.payload = [b])
    (hj : s.job b.toNat = some j) (hst : j.state ≠ .closing) (hpaused : j.paused = false) (hissued : j.tasksIssued = true)
    (hheld : ∀ e, PausesAt s b.toNat e (held e)) :
    ∃ t, exec .jobPause s = .next t ∧ t.replyOut = some ⟨0x92, f.tag, [0]⟩ ∧ (∀ j' ∈ t.job b.toNat, j'.paused = true) ∧
      t.verifyQueue = held 0 ++ held 1 ++ s.verifyQueue ∧
      ∀ e, (held e = [] → t.engine e = s.engine e) ∧
        ∀ u ∈ held e, t.engine e = ⟨none, 0, none, .none⟩ ∧ (∀ p, e ∉ (t.reader p).segWaiting) ∧ ∀ k' ∈ t.clip u.clip, k'.sv = .queued := by
  let w : State := setJob (s.taken f rest) b.toNat { j with paused := true }
  let w1 : State := pauseEngine b.toNat w 1
  let w0 : State := pauseEngine b.toNat w1 0
  have h1 : Paused w w1 1 (held 1) := pauseEngine_spec (hheld 1)
  have h0 : Paused w1 w0 0 (held 0) := pauseEngine_spec (by
    have hat : PausesAt w b.toNat 0 (held 0) := hheld 0
    rwa [PausesAt, ← h1.other 0 (by decide)] at hat)
  have hjob : w0.job b.toNat = some { j with paused := true } :=
    (congrArg (lookup · b.toNat) (h0.jobs.trans h1.jobs)).trans (setJob_job_self _ _ _)
  obtain ⟨j', jobs, sending, waiting, notices, missed, hclose, hself, hkept⟩ := closeJobs_issued hjob hst hissued
  have hown : jobPause b.toNat (s.taken f rest) = (statusOnly .ok, refresh (closeJobs [b.toNat] w0)) := by
    rw [jobPause, withJob_live hj, if_neg hst, if_neg (by simp [hpaused])]
    rfl
  refine ⟨_, congrArg Host.Outcome.next (serve_answer ho hk (hp ▸ readOne_one b) hown), sendFrame_replyOut _ _, ?_, ?_, fun e => ?_⟩
  · rw [sendFrame_job, refresh_job, hclose]
    intro x hx
    obtain rfl := Option.some.inj (hself.symm.trans hx)
    exact hkept
  · rw [sendFrame_verifyQueue, refresh_verifyQueue, hclose]
    exact h0.queue.trans (by rw [h1.queue, List.append_assoc]; rfl)
  · have hreader (p : Port) : ((refresh (closeJobs [b.toNat] w0)).reader p).segWaiting = (w0.reader p).segWaiting := by
      rw [refresh_reader, hclose]
      rfl
    have hengine : (refresh (closeJobs [b.toNat] w0)).engine e = w0.engine e := by
      rw [refresh_engine, hclose]
      rfl
    have hclip (c : Nat) : (refresh (closeJobs [b.toNat] w0)).clip c = w0.clip c := by
      rw [refresh_clip, hclose]
      rfl
    simp only [sendFrame_engine, sendFrame_reader, sendFrame_clip, hengine, hreader, hclip]
    rcases engine_cases e with rfl | rfl
    · exact ⟨fun hnone => (h0.kept hnone).trans (h1.other 0 (by decide)), h0.idle⟩
    · have hsame : w0.engine 1 = w1.engine 1 := h0.other 1 (by decide)
      rw [hsame]
      refine ⟨h1.kept, fun u hu => ?_⟩
      obtain ⟨hidle, hwait, hqueued⟩ := h1.idle u hu
      exact ⟨hidle, fun p hin => hwait p (h0.waiting p 1 hin), h0.queued u.clip hqueued⟩

/-- Settles O26: `finalDrainsEmptyJob`, and `pauseGivesUpTasks` twice, the second time with one engine's task or none. -/
theorem finalDrainsAndPauseGivesUpTasks : Obligations.FinalDrainsAndPauseGivesUpTasks := by
  refine ⟨fun s f rest b j ho hk hp hj hst hfinal horder hrecopy hclear hclips hchunk =>
    finalDrainsEmptyJob ho hk hp hj hst hfinal horder hrecopy hclear hclips hchunk,
    fun s f rest b j held ho hk hp hj hst hpaused hissued hheld => pauseGivesUpTasks ho hk hp hj hst hpaused hissued hheld,
    fun s f rest b j e task ho hk hp hj hst hpaused htask hsource hother hissued => ?_⟩
  by_cases hseg : (s.engine e).seg = .inFlight
  · have hheld (i : EngineIx) : PausesAt s b.toNat i [] := by
      refine .inl ⟨rfl, fun u hu _ => ?_⟩
      by_cases hi : i = e
      · exact hi ▸ hseg
      · exact absurd hu (hother i hi u)
    obtain ⟨t, he, hreply, hjob, hqueue, hengines⟩ := pauseGivesUpTasks ho hk hp hj hst hpaused hissued hheld
    exact ⟨t, he, hreply, hjob, fun _ => ⟨(hengines e).1 rfl, hqueue⟩, fun hne => absurd hseg hne⟩
  · have hheld (i : EngineIx) : PausesAt s b.toNat i (if i = e then [task] else []) := by
      split
      next hi =>
        subst hi
        exact .inr ⟨task, rfl, htask, hsource, hseg⟩
      next hi => exact .inl ⟨rfl, fun u hu => absurd hu (hother i hi u)⟩
    obtain ⟨t, he, hreply, hjob, hqueue, hengines⟩ := pauseGivesUpTasks ho hk hp hj hst hpaused hissued hheld
    obtain ⟨hidle, hwait, hqueued⟩ := (hengines e).2 task (by simp)
    refine ⟨t, he, hreply, hjob, fun hin => absurd hin hseg, fun _ => ⟨hidle, ?_, hwait, hqueued⟩⟩
    rcases engine_cases e with rfl | rfl <;> simpa using hqueue

end Sys2Proof.Machine
end


section
/-! SUPPORT. JOB_ABORT (R44, R45, R64, R136): what its steps leave of an aborted job's work, as one relation `Sheds`, and the end of a job
that is CLOSING. -/

namespace Sys2Proof.Machine

-- One theorem at a time: checking them all at once needs more threads than the sandbox gives.
set_option Elab.async false

open Sys2Proof

variable {s t u : State} {f : Frame} {rest : List Frame} {h : Nat}

/-! ### The relation -/

/-- Work of job `h` is shed: queues and engines lose entries, slots keep their job or are freed, and a clip changes only as an engine of the
job lets go of it, from VERIFYING to OFF. -/
structure Sheds (h : Nat) (s t : State) : Prop where
  jobs : t.jobs = s.jobs
  ports : t.ports = s.ports
  mem : t.mem = s.mem
  verifyQueue : t.verifyQueue ⊆ s.verifyQueue
  writeQueue : ∀ d, (t.dest d).writeQueue ⊆ (s.dest d).writeQueue
  awaiting : ∀ d, (t.dest d).awaiting ⊆ (s.dest d).awaiting
  tasks : ∀ e, ∀ x ∈ (t.engine e).task, x ∈ (s.engine e).task
  slots : ∀ n, ∀ x' ∈ t.slot n, ∃ x ∈ s.slot n, x'.job = x.job ∧ x'.staged = x.staged ∧ (x.writing = 0 → x'.writing = 0)
  clips : ∀ c, t.clip c = s.clip c ∨ ∃ e v k, (s.engine e).task = some (v, h) ∧ v.clip = c ∧ s.clip c = some k ∧ k.sv = .verifying ∧
    t.clip c = some { k with sv := .off }

theorem Sheds.refl (s : State) : Sheds h s s :=
  ⟨rfl, rfl, rfl, List.Subset.refl _, fun _ => List.Subset.refl _, fun _ => List.Subset.refl _, fun _ _ => id, fun _ x hx => ⟨x, hx, rfl, rfl, id⟩,
    fun _ => .inl rfl⟩

theorem Sheds.trans (k : Sheds h s t) (l : Sheds h t u) : Sheds h s u := by
  refine ⟨l.jobs.trans k.jobs, l.ports.trans k.ports, l.mem.trans k.mem, fun _ hu => k.verifyQueue (l.verifyQueue hu),
    fun d _ hn => k.writeQueue d (l.writeQueue d hn), fun d _ hc => k.awaiting d (l.awaiting d hc), fun e x hx => k.tasks e x (l.tasks e x hx),
    fun n x'' hx'' => ?_, fun c => ?_⟩
  · obtain ⟨x', hx', hjob', hstaged', hwriting'⟩ := l.slots n x'' hx''
    obtain ⟨x, hx, hjob, hstaged, hwriting⟩ := k.slots n x' hx'
    exact ⟨x, hx, hjob'.trans hjob, hstaged'.trans hstaged, hwriting' ∘ hwriting⟩
  · rcases l.clips c with hl | ⟨e, v, x, htask, hv, hx, hsv, hl⟩
    · rw [hl]
      exact k.clips c
    · rcases k.clips c with hk | ⟨_, _, _, _, _, _, _, hk⟩
      · exact .inr ⟨e, v, x, k.tasks e _ htask, hv, hk ▸ hx, hsv, hl⟩
      · rw [hk, Option.some.injEq] at hx
        simp [← hx] at hsv

theorem Sheds.foldl {α : Type} {g : State → α → State} (step : ∀ s a, Sheds h s (g s a)) (l : List α) (s : State) : Sheds h s (l.foldl g s) := by
  induction l generalizing s with
  | nil => exact .refl s
  | cons a l ih => exact (step s a).trans (ih (g s a))

/-- A fold passes through the step of each of its elements. -/
theorem foldl_through {α : Type} {g : State → α → State} {R : State → State → Prop} (hrefl : ∀ s, R s s)
    (htrans : ∀ s t u, R s t → R t u → R s u) (step : ∀ s a, R s (g s a)) {l : List α} {a : α} (ha : a ∈ l) (s : State) :
    ∃ v, R s v ∧ R (g v a) (l.foldl g s) := by
  have hfold (l : List α) (s : State) : R s (l.foldl g s) := by
    induction l generalizing s with
    | nil => exact hrefl s
    | cons b l ih => exact htrans _ _ _ (step s b) (ih (g s b))
  induction l generalizing s with
  | nil => simp at ha
  | cons b l ih =>
    rcases List.mem_cons.mp ha with rfl | hin
    · exact ⟨s, hrefl s, hfold l _⟩
    · obtain ⟨v, hbefore, hafter⟩ := ih hin (g s b)
      exact ⟨v, htrans _ _ _ (step s b) hbefore, hafter⟩

/-! ### The steps of JOB_ABORT -/

theorem setReader_sheds (p : Port) (x : Reader) : Sheds h s (setReader s p x) :=
  ⟨rfl, rfl, rfl, List.Subset.refl _, fun _ => List.Subset.refl _, fun _ => List.Subset.refl _, fun _ _ => id, fun _ y hy => ⟨y, hy, rfl, rfl, id⟩,
    fun _ => .inl rfl⟩

theorem setDest_sheds {d : Dest} {x : DestPort} (hqueue : x.writeQueue ⊆ (s.dest d).writeQueue) (hawait : x.awaiting ⊆ (s.dest d).awaiting) :
    Sheds h s (setDest s d x) := by
  refine ⟨rfl, rfl, rfl, List.Subset.refl _, fun i => ?_, fun i => ?_, fun _ _ => id, fun _ y hy => ⟨y, hy, rfl, rfl, id⟩, fun _ => .inl rfl⟩
  all_goals
    by_cases hi : i = d
    · subst hi
      rw [setDest_dest_self]
      assumption
    · rw [setDest_dest_of_ne _ hi]
      exact List.Subset.refl _

/-- A change of slot records alone that sheds. -/
theorem slots_sheds {slots : Table Slot} {freeSlots : List Nat}
    (hslots : ∀ n, ∀ x' ∈ lookup slots n, ∃ x ∈ s.slot n, x'.job = x.job ∧ x'.staged = x.staged ∧ (x.writing = 0 → x'.writing = 0)) :
    Sheds h s { s with slots := slots, freeSlots := freeSlots } :=
  ⟨rfl, rfl, rfl, List.Subset.refl _, fun _ => List.Subset.refl _, fun _ => List.Subset.refl _, fun _ _ => id, hslots, fun _ => .inl rfl⟩

theorem freeSlot_sheds (n : Nat) : Sheds h s (freeSlot n s) := by
  refine slots_sheds fun i x hx => ?_
  by_cases hi : i = n
  · subst hi
    rw [lookup_erase_self] at hx
    exact nomatch hx
  · rw [lookup_erase_of_ne _ hi] at hx
    exact ⟨x, hx, rfl, rfl, id⟩

/-- A slot changed in place keeps its job, whether it is STAGED, and an empty write set. -/
theorem modSlot_sheds (n : Nat) {f : Slot → Slot} (hf : ∀ x, (f x).job = x.job ∧ (f x).staged = x.staged ∧ (x.writing = 0 → (f x).writing = 0)) :
    Sheds h s (modSlot n f s) := by
  obtain ⟨slots, he⟩ := modSlot_frame s n f
  have hslot := modSlot_slot s n f
  rw [he] at hslot ⊢
  refine slots_sheds fun i x hx => ?_
  have hx' : x ∈ if i = n then (s.slot n).map f else s.slot i := hslot i ▸ hx
  split at hx'
  next hi =>
    obtain ⟨y, hy, rfl⟩ := Option.map_eq_some_iff.mp hx'
    exact ⟨y, hi ▸ hy, hf y⟩
  · exact ⟨x, hx', rfl, rfl, id⟩

/-- An engine that lets go of a SOURCE task takes its clip's source verify from VERIFYING to OFF (R136). -/
theorem letGo_clip {e : EngineIx} {v : Task} {i : Nat} (htask : (s.engine e).task = some (v, i)) (c : Nat) :
    (letGo e s).clip c = s.clip c ∨ v.clip = c ∧ ∃ k, s.clip c = some k ∧ k.sv = .verifying ∧ (letGo e s).clip c = some { k with sv := .off } := by
  have hgo : letGo e s = svLetGo v (freeEngine e (withdraw e s)) := by rw [letGo, htask]
  have hsame (c : Nat) : (freeEngine e (withdraw e s)).clip c = s.clip c := rfl
  rw [hgo, svLetGo]
  split
  · rw [modClip_clip, hsame]
    split
    next hc =>
      subst hc
      cases hk : s.clip v.clip with
      | none => exact .inl rfl
      | some k =>
        by_cases hsv : k.sv = .verifying
        · exact .inr ⟨rfl, k, rfl, hsv, by simp [hsv]⟩
        · exact .inl (by simp [hsv])
    · exact .inl rfl
  · exact .inl rfl

theorem withdraw_dest (e : EngineIx) (d : Dest) :
    (withdraw e s).dest d = { s.dest d with segWaiting := (s.dest d).segWaiting.filter (fun y => decide (y ≠ e)) } := by
  simp [withdraw, State.dest]

/-- An engine of the job lets go (R136). -/
theorem letGo_sheds {e : EngineIx} (he : engineOfJob h (s.engine e) = true) : Sheds h s (letGo e s) := by
  obtain ⟨v, htask⟩ : ∃ v, (s.engine e).task = some (v, h) := by
    cases ht : (s.engine e).task with
    | none => simp [engineOfJob, ht] at he
    | some x => exact ⟨x.1, by simpa [engineOfJob, ht, Prod.ext_iff] using he⟩
  obtain ⟨clips, hframe⟩ : ∃ clips, letGo e s = { freeEngine e (withdraw e s) with clips := clips } := by
    rw [letGo, htask]
    exact svLetGo_frame v _
  have hdest (d : Dest) : (letGo e s).dest d = (withdraw e s).dest d := by rw [hframe]; rfl
  have hclips (c : Nat) := letGo_clip htask c
  refine ⟨by rw [hframe]; rfl, by rw [hframe]; rfl, by rw [hframe]; rfl, by rw [hframe]; exact List.Subset.refl _, fun d => ?_, fun d => ?_, fun i x hx => ?_,
    fun n x hx => ⟨x, ?_, rfl, rfl, id⟩, fun c => ?_⟩
  · rw [hdest, withdraw_dest]
    exact List.Subset.refl _
  · rw [hdest, withdraw_dest]
    exact List.Subset.refl _
  · have hengine : (letGo e s).engine i = (setEngine (withdraw e s) e Engine.idle).engine i := by rw [hframe]; rfl
    rw [hengine] at hx
    by_cases hi : i = e
    · subst hi
      rw [setEngine_engine_self] at hx
      exact nomatch hx
    · rwa [setEngine_engine_of_ne _ hi] at hx
  · rwa [hframe] at hx
  · exact (hclips c).imp_right fun ⟨hv, k, hk, hsv, hoff⟩ => ⟨e, v, k, htask, hv, hk, hsv, hoff⟩

/-- What a destination keeps of its queues when job `h` is aborted (R45, R64, R110). -/
def DestPort.shed (h : Nat) (s : State) (x : DestPort) : DestPort :=
  { x with
    writeQueue := x.writeQueue.filter (fun n => !slotOfJob s h n)
    awaiting := x.awaiting.filter (fun c => !clipOfJob s h c)
    segWaiting := x.segWaiting.filter (fun e => !engineOfJob h (s.engine e)) }

/-- A destination at an abort: its queues are shed, its operation may change, and a write's slot or a segment's engine may lose it. -/
theorem abortDest_cases (h : Nat) (d : Dest) (s : State) :
    ∃ op, abortDest h s d = setDest s d { (s.dest d).shed h s with op := op } ∨
      (∃ n, abortDest h s d =
        modSlot n (fun y => { y with writing := derase y.writing d }) (setDest s d { (s.dest d).shed h s with op := op })) ∨
      ∃ e, engineOfJob h (s.engine e) = true ∧ abortDest h s d = letGo e (setDest s d { (s.dest d).shed h s with op := op }) := by
  unfold abortDest
  dsimp only
  split
  next n k w hop =>
    split
    · split
      · exact ⟨_, .inl rfl⟩
      · exact ⟨_, .inr (.inl ⟨n, rfl⟩)⟩
    · exact ⟨_, .inl rfl⟩
  next g hop =>
    split
    next he =>
      split
      · exact ⟨_, .inl rfl⟩
      · exact ⟨_, .inr (.inr ⟨g.engine, he, rfl⟩)⟩
    · exact ⟨_, .inl rfl⟩
  · exact ⟨_, .inl rfl⟩

/-- Work is shed, and each slot stays under its job. -/
def ShedsKeepingSlots (h : Nat) (s t : State) : Prop := Sheds h s t ∧ ∀ n, slotOfJob t h n = slotOfJob s h n

theorem ShedsKeepingSlots.trans (k : ShedsKeepingSlots h s t) (l : ShedsKeepingSlots h t u) : ShedsKeepingSlots h s u :=
  ⟨k.1.trans l.1, fun n => (l.2 n).trans (k.2 n)⟩

/-- A destination at an abort sheds the job's slots and clips (R45, R64, R110). -/
theorem abortDest_sheds (h : Nat) (s : State) (d : Dest) :
    ShedsKeepingSlots h s (abortDest h s d) ∧ (∀ n ∈ ((abortDest h s d).dest d).writeQueue, slotOfJob s h n = false) ∧
      ∀ c ∈ ((abortDest h s d).dest d).awaiting, clipOfJob s h c = false := by
  obtain ⟨op, hcases⟩ := abortDest_cases h d s
  have hset : Sheds h s (setDest s d { (s.dest d).shed h s with op := op }) :=
    setDest_sheds (fun _ hn => (List.mem_filter.mp hn).1) fun _ hc => (List.mem_filter.mp hc).1
  have hdest : (setDest s d { (s.dest d).shed h s with op := op }).dest d = { (s.dest d).shed h s with op := op } := setDest_dest_self s d _
  have hshed (t : State) (ht : (t.dest d).writeQueue = ((s.dest d).shed h s).writeQueue ∧ (t.dest d).awaiting = ((s.dest d).shed h s).awaiting) :
      (∀ n ∈ (t.dest d).writeQueue, slotOfJob s h n = false) ∧ ∀ c ∈ (t.dest d).awaiting, clipOfJob s h c = false := by
    rw [ht.1, ht.2]
    exact ⟨fun n hn => by simpa using (List.mem_filter.mp hn).2, fun c hc => by simpa using (List.mem_filter.mp hc).2⟩
  rcases hcases with he | ⟨n, he⟩ | ⟨e, hengine, he⟩ <;> rw [he]
  · exact ⟨⟨hset, fun _ => rfl⟩, hshed _ (by rw [hdest]; exact ⟨rfl, rfl⟩)⟩
  · refine ⟨⟨hset.trans (modSlot_sheds n fun x => ⟨rfl, rfl, fun hw => by simp [hw, derase]⟩), fun i => ?_⟩, hshed _ ?_⟩
    · rw [slotOfJob, modSlot_slot]
      split
      next hi =>
        subst hi
        change ((s.slot i).map _).any _ = (s.slot i).any _
        cases s.slot i <;> rfl
      · rfl
    · obtain ⟨slots, hframe⟩ := modSlot_frame (setDest s d { (s.dest d).shed h s with op := op }) n (fun y => { y with writing := derase y.writing d })
      have hsame : (modSlot n (fun y => { y with writing := derase y.writing d }) (setDest s d { (s.dest d).shed h s with op := op })).dest d =
          { (s.dest d).shed h s with op := op } := by
        rw [hframe]
        exact hdest
      rw [hsame]
      exact ⟨rfl, rfl⟩
  · obtain ⟨_, _, _, _, hframe⟩ := letGo_frame e (setDest s d { (s.dest d).shed h s with op := op })
    have hgo : Sheds h (setDest s d { (s.dest d).shed h s with op := op }) (letGo e (setDest s d { (s.dest d).shed h s with op := op })) :=
      letGo_sheds hengine
    refine ⟨⟨hset.trans hgo, fun n => by rw [hframe]; rfl⟩, fun n hn => ?_, fun c hc => ?_⟩
    · have hin := hgo.writeQueue d hn
      rw [hdest] at hin
      simpa using (List.mem_filter.mp hin).2
    · have hin := hgo.awaiting d hc
      rw [hdest] at hin
      simpa using (List.mem_filter.mp hin).2

/-- The chunk read or the segment of the job at a card port is cancelled or ended (R76, R85). -/
theorem abortReader_sheds (h : Nat) (s : State) (p : Port) : Sheds h s (abortReader h s p) := by
  unfold abortReader
  extract_lets _ s1
  have hchunk : Sheds h s s1 := by
    unfold s1
    split
    · split
      · split
        · exact setReader_sheds _ _
        · exact (setReader_sheds _ _).trans (freeSlot_sheds _)
      · exact .refl s
    · exact .refl s
  clear_value s1
  refine hchunk.trans ?_
  split
  · split
    next he =>
      split
      · exact setReader_sheds _ _
      · exact (setReader_sheds _ _).trans (letGo_sheds he)
    · exact .refl s1
  · exact .refl s1

theorem abortEngine_sheds (h : Nat) (s : State) (e : EngineIx) : Sheds h s (abortEngine h s e) := by
  unfold abortEngine
  split
  next he => exact letGo_sheds he.1
  · exact .refl s

theorem freeIfDone_sheds (n : Nat) : Sheds h s (freeIfDone n s) := by
  unfold freeIfDone
  split
  · split
    · exact freeSlot_sheds n
    · exact .refl s
  · exact .refl s

/-- A STAGED slot of job `h` without its pending set (R64). -/
def Slot.unpended (h : Nat) (x : Slot) : Slot := if x.job = h ∧ x.staged = true then { x with pending := 0 } else x

/-- The slots of the job without their pending sets. -/
def unpend (h : Nat) (s : State) : State := { s with slots := s.slots.map (fun e => (e.1, e.2.unpended h)) }

theorem unpend_slot (n : Nat) : (unpend h s).slot n = (s.slot n).map (Slot.unpended h) := lookup_map (fun _ => Slot.unpended h) s.slots n

theorem unpend_sheds : Sheds h s (unpend h s) := by
  refine slots_sheds fun n x' hx' => ?_
  obtain ⟨x, hx, rfl⟩ := Option.map_eq_some_iff.mp ((unpend_slot n).symm.trans hx')
  refine ⟨x, hx, ?_⟩
  unfold Slot.unpended
  split <;> exact ⟨rfl, rfl, id⟩

theorem abortSlots_eq (h : Nat) (s : State) : abortSlots h s = (s.slots.map Prod.fst).foldl (fun t n => freeIfDone n t) (unpend h s) := by
  have hmap : (fun e : Nat × Slot => (e.1, e.2.unpended h)) =
      fun e => if e.2.job = h ∧ e.2.staged = true then (e.1, { e.2 with pending := 0 }) else e := by
    funext e
    unfold Slot.unpended
    split <;> rfl
  rw [abortSlots, unpend, hmap]

theorem abortSlots_sheds (h : Nat) (s : State) : Sheds h s (abortSlots h s) := by
  rw [abortSlots_eq]
  exact unpend_sheds.trans (Sheds.foldl (fun _ n => freeIfDone_sheds n) _ _)

/-- A slot is as it was, or free. -/
def SlotsStayOrFree (s t : State) : Prop := ∀ n, t.slot n = none ∨ t.slot n = s.slot n

theorem freeIfDone_slots (n : Nat) (s : State) : SlotsStayOrFree s (freeIfDone n s) := by
  intro i
  unfold freeIfDone
  split
  · split
    · by_cases hi : i = n
      · exact .inl (hi ▸ lookup_erase_self s.slots n)
      · exact .inr (lookup_erase_of_ne s.slots hi)
    · exact .inr rfl
  · exact .inr rfl

/-- The STAGED slots of the job with no write in flight become FREE (R64). -/
theorem abortSlots_free {n : Nat} (hn : ∀ x ∈ s.slot n, x.job = h ∧ x.staged = true ∧ x.writing = 0) : (abortSlots h s).slot n = none := by
  rw [abortSlots_eq]
  have htrans (s t u : State) (k : SlotsStayOrFree s t) (l : SlotsStayOrFree t u) : SlotsStayOrFree s u := fun i => by
    rcases l i with hl | hl
    · exact .inl hl
    · rw [hl]
      exact k i
  have hrefl (s : State) : SlotsStayOrFree s s := fun _ => .inr rfl
  cases hx : s.slot n with
  | none =>
    have hnone : (unpend h s).slot n = none := by rw [unpend_slot, hx]; rfl
    have hfold (l : List Nat) (t : State) (ht : t.slot n = none) : (l.foldl (fun t n => freeIfDone n t) t).slot n = none := by
      induction l generalizing t with
      | nil => exact ht
      | cons i l ih => exact ih _ ((freeIfDone_slots i t n).elim id fun he => he.trans ht)
    exact hfold _ _ hnone
  | some x =>
    obtain ⟨hjob, hstaged, hwriting⟩ := hn x hx
    obtain ⟨v, hbefore, hafter⟩ := foldl_through (g := fun t n => freeIfDone n t) hrefl htrans (fun t i => freeIfDone_slots i t)
      (mem_keys_of_lookup hx) (unpend h s)
    have hpended : (unpend h s).slot n = some { x with pending := 0 } := by
      simp [unpend_slot, hx, Slot.unpended, hjob, hstaged]
    have hfreed : (freeIfDone n v).slot n = none := by
      rcases hbefore n with hnone | hsame
      · exact (freeIfDone_slots n v n).elim id fun he => he.trans hnone
      · rw [hpended] at hsame
        simp only [freeIfDone, hsame]
        rw [if_pos ⟨hstaged, trivial, hwriting⟩]
        exact lookup_erase_self v.slots n
    exact (hafter n).elim id fun he => he.trans hfreed

/-! ### The end of a CLOSING job (R46) -/

/-- The holds that monitors set reach READING jobs alone; a CLOSING job's record stays. -/
theorem seeBacklog_closing {j : Job} (d : Dest) (hj : s.job h = some j) (hst : j.state = .closing) :
    (seeBacklog s d).job h = some j ∧ (seeBacklog s d).clips = s.clips ∧ (seeBacklog s d).verifyQueue = s.verifyQueue := by
  have hadd (hard : Bool) (t : State) (ht : t.job h = some j) : (addHolds d hard t).job h = some j := by
    have hmap : (addHolds d hard t).job h = (t.job h).map (Job.heldBy d hard) := by
      rw [addHolds_eq]
      exact lookup_map (fun _ x => x.heldBy d hard) t.jobs h
    simp [hmap, ht, Job.heldBy, hst]
  have hcross (m x : Monitor) : (crossingHolds d m (setMonitor s d x)).job h = some j ∧
      (crossingHolds d m (setMonitor s d x)).clips = s.clips ∧ (crossingHolds d m (setMonitor s d x)).verifyQueue = s.verifyQueue := by
    unfold crossingHolds
    split
    · exact ⟨hadd false _ hj, rfl, rfl⟩
    · exact ⟨hadd true _ hj, rfl, rfl⟩
    · exact ⟨hj, rfl, rfl⟩
  unfold seeBacklog
  dsimp only
  split
  · exact ⟨hj, rfl, rfl⟩
  · split
    · split
      · exact ⟨hj, rfl, rfl⟩
      · exact hcross _ _
    · exact ⟨hj, rfl, rfl⟩

theorem tellAll_frame (ns : List Notice) (s : State) :
    ∃ sending waiting notices missed,
      tellAll ns s = { s with sending := sending, waitingReply := waiting, notices := notices, missed := missed } := by
  unfold tellAll
  induction ns generalizing s with
  | nil => exact ⟨_, _, _, _, rfl⟩
  | cons n ns ih =>
    obtain ⟨_, _, _, _, he⟩ := ih (notify n s)
    rw [List.foldl_cons, he, notify_frame]
    exact ⟨_, _, _, _, rfl⟩

/-- The tests at the end of an event leave a CLOSING job, or free it and its clips. -/
theorem closeSeen_closing {j : Job} (hj : s.job h = some j) (hst : j.state = .closing) :
    (∀ x ∈ (closeSeen [h] s).job h, x = j) ∧
      ((closeSeen [h] s).clips = s.clips ∨ (closeSeen [h] s).clips = s.clips.filter (fun e => decide (e.2.job ≠ h))) ∧
      (closeSeen [h] s).verifyQueue = s.verifyQueue := by
  have hfold (l : List Dest) (t : State) (ht : t.job h = some j) :
      (l.foldl seeBacklog t).job h = some j ∧ (l.foldl seeBacklog t).clips = t.clips ∧ (l.foldl seeBacklog t).verifyQueue = t.verifyQueue := by
    induction l generalizing t with
    | nil => exact ⟨ht, rfl, rfl⟩
    | cons d l ih =>
      obtain ⟨hjob, hclips, hqueue⟩ := seeBacklog_closing d ht hst
      obtain ⟨hjob', hclips', hqueue'⟩ := ih _ hjob
      exact ⟨hjob', hclips'.trans hclips, hqueue'.trans hqueue⟩
  obtain ⟨hjob, hclips, hqueue⟩ := hfold allDests s hj
  rw [closeSeen]
  generalize allDests.foldl seeBacklog s = v at hjob hclips hqueue ⊢
  obtain ⟨_, _, _, _, htell⟩ := tellAll_frame (allDests.flatMap (crossingNews s)) (closeJobs [h] v)
  rw [htell, closeJobs_closing hjob hst]
  simp only [freeJob, hjob]
  split
  · rw [notify_frame]
    refine ⟨fun x hx => ?_, .inr ?_, hqueue⟩
    · exact nomatch (lookup_erase_self v.jobs h).symm.trans hx
    · exact congrArg (List.filter _) hclips
  · exact ⟨fun x hx => (Option.some.inj (hjob.symm.trans hx)).symm, .inl hclips, hqueue⟩

end Sys2Proof.Machine
end


section
/-! SUPPORT. JOB_ABORT as a whole (R44, R45, R64, R136): its records, its work, and the tests at its end. -/

namespace Sys2Proof.Machine

-- One theorem at a time: checking them all at once needs more threads than the sandbox gives.
set_option Elab.async false

open Sys2Proof

variable {s t u : State} {f : Frame} {rest : List Frame} {h : Nat}

/-! ### The stages of JOB_ABORT -/

/-- The records at a JOB_ABORT: the job's, its port's and its clips' (R44, steps 1, 2, 4 and 5). -/
def abortRecords (h : Nat) (j : Job) (s : State) : State := abortClips h (unbindPort j.binding .identified (setJob s h j.aborted))

/-- The job's work leaves the destinations and the card ports (R45, R64, R76, R85). -/
def abortPorts (h : Nat) (s : State) : State := allPorts.foldl (abortReader h) (allDests.foldl (abortDest h) s)

/-- The job's tasks leave the Verify Queue (R136). -/
def abortTasks (h : Nat) (s : State) : State := { s with verifyQueue := s.verifyQueue.filter (fun u => !taskOfJob s h u) }

/-- The job's work leaves every queue, its waiting engines and its slots. -/
def abortWork (h : Nat) (s : State) : State := abortSlots h ([0, 1].foldl (abortEngine h) (abortTasks h (abortPorts h s)))

theorem abortJob_eq (h : Nat) (j : Job) (s : State) :
    abortJob h j s = refresh (closeSeen [h] (abortWork h (abortRecords h j s))) := rfl

/-- A record read from a keyed table with some records left out is the whole table's, if it is kept. -/
theorem lookup_filter {α : Type} {t : Table α} (keep : Nat × α → Bool) (k : Nat) (hk : (t.map Prod.fst).Pairwise (· < ·)) :
    lookup (t.filter keep) k = (lookup t k).filter (fun a => keep (k, a)) := by
  cases hb : lookup (t.filter keep) k with
  | some b =>
    have hkeep : keep (k, b) = true := (List.mem_filter.mp (mem_of_lookup hb)).2
    rw [lookup_of_filter hk hb, Option.filter_some, if_pos hkeep]
  | none =>
    cases ha : lookup t k with
    | none => rfl
    | some a =>
      refine (Option.filter_some ..).trans (if_neg fun hkeep => ?_) |>.symm
      rw [lookup_filter_of_keep hk ha hkeep] at hb
      exact nomatch hb

/-- The clip records at a JOB_ABORT (R44, steps 4 and 5). -/
theorem abortClips_clip (c : Nat) (hk : (s.clips.map Prod.fst).Pairwise (· < ·)) :
    (abortClips h s).clip c =
      ((s.clip c).filter (fun k => !(decide (k.job = h) && decide (k.sourceState = .building)))).map
        (fun k => if k.job = h then k.aborted else k) := by
  rw [abortClips_eq]
  refine (lookup_map (fun _ (k : Clip) => if k.job = h then k.aborted else k) _ c).trans (congrArg _ ?_)
  exact lookup_filter _ c hk

/-- The records at a JOB_ABORT: every other part of the block stays. -/
theorem abortRecords_frame (h : Nat) (j : Job) (s : State) :
    ∃ ports clips, abortRecords h j s = { s with jobs := store s.jobs h j.aborted, ports := ports, clips := clips } := by
  obtain ⟨ports, he⟩ := unbindPort_frame j.binding .identified (setJob s h j.aborted)
  rw [abortRecords, he]
  exact ⟨ports, _, rfl⟩

theorem abortRecords_port (j : Job) (p : Port) :
    (abortRecords h j s).port p = if j.binding = some p then { s.port p with state := .identified, job := none } else s.port p :=
  unbindPort_port j.binding .identified (setJob s h j.aborted) p

theorem abortRecords_clip (j : Job) (c : Nat) (hk : (s.clips.map Prod.fst).Pairwise (· < ·)) :
    (abortRecords h j s).clip c =
      ((s.clip c).filter (fun k => !(decide (k.job = h) && decide (k.sourceState = .building)))).map
        (fun k => if k.job = h then k.aborted else k) := by
  obtain ⟨ports, he⟩ := unbindPort_frame j.binding .identified (setJob s h j.aborted)
  rw [abortRecords, he]
  exact abortClips_clip c hk

/-! ### The work of the job -/

theorem abortPorts_sheds (h : Nat) (s : State) : Sheds h s (abortPorts h s) :=
  (Sheds.foldl (fun u d => (abortDest_sheds h u d).1.1) allDests s).trans (Sheds.foldl (abortReader_sheds h) allPorts _)

theorem abortTasks_sheds (h : Nat) (s : State) : Sheds h s (abortTasks h s) :=
  ⟨rfl, rfl, rfl, fun _ hu => (List.mem_filter.mp hu).1, fun _ => List.Subset.refl _, fun _ => List.Subset.refl _, fun _ _ => id,
    fun _ x hx => ⟨x, hx, rfl, rfl, id⟩, fun _ => .inl rfl⟩

/-- A task that stays in the Verify Queue is not the job's. -/
theorem abortTasks_taken {v : Task} (hv : v ∈ (abortTasks h s).verifyQueue) : clipOfJob s h v.clip = false := by
  have hkept := (List.mem_filter.mp hv).2
  simpa [taskOfJob] using hkept

theorem abortWork_sheds_after (h : Nat) (s : State) : Sheds h (abortTasks h (abortPorts h s)) (abortWork h s) :=
  (Sheds.foldl (abortEngine_sheds h) [0, 1] _).trans (abortSlots_sheds h _)

theorem abortWork_sheds (h : Nat) (s : State) : Sheds h s (abortWork h s) :=
  (abortPorts_sheds h s).trans ((abortTasks_sheds h _).trans (abortWork_sheds_after h s))

/-- A clip that was not the job's is not the job's after work is shed. -/
theorem Sheds.clip_job {c : Nat} (k : Sheds h s t) (hc : clipOfJob s h c = false) : ∀ x ∈ t.clip c, x.job ≠ h := by
  intro x hx hjob
  have hold : ∃ y, s.clip c = some y ∧ y.job = h := by
    rcases k.clips c with he | ⟨_, _, y, _, _, hy, _, he⟩
    · exact ⟨x, he ▸ hx, hjob⟩
    · obtain rfl := Option.some.inj (he.symm.trans hx)
      exact ⟨y, hy, hjob⟩
  obtain ⟨y, hy, hjob'⟩ := hold
  simp [clipOfJob, hy, hjob'] at hc

/-- No write queue and no awaiting-flush list holds work of the job, and neither does the Verify Queue (R45, R136). -/
theorem abortWork_queues (h : Nat) (s : State) :
    (∀ d, ∀ n ∈ ((abortWork h s).dest d).writeQueue, slotOfJob s h n = false) ∧
      (∀ d, ∀ c ∈ ((abortWork h s).dest d).awaiting, ∀ k ∈ (abortWork h s).clip c, k.job ≠ h) ∧
      ∀ u ∈ (abortWork h s).verifyQueue, ∀ k ∈ (abortWork h s).clip u.clip, k.job ≠ h := by
  have hafter : Sheds h (abortPorts h s) (abortWork h s) := (abortTasks_sheds h _).trans (abortWork_sheds_after h s)
  have hdests (d : Dest) : ∃ v, ShedsKeepingSlots h s v ∧ Sheds h (abortDest h v d) (abortWork h s) := by
    obtain ⟨v, hbefore, hthrough⟩ := foldl_through (R := ShedsKeepingSlots h) (fun s => ⟨.refl s, fun _ => rfl⟩) (fun _ _ _ => .trans)
      (fun u i => (abortDest_sheds h u i).1) (show d ∈ allDests by fin_cases d <;> decide) s
    exact ⟨v, hbefore, hthrough.1.trans (.trans (Sheds.foldl (abortReader_sheds h) allPorts _) hafter)⟩
  refine ⟨fun d n hn => ?_, fun d c hc => ?_, fun u hu => ?_⟩
  · obtain ⟨v, hbefore, hthrough⟩ := hdests d
    obtain ⟨_, hwrites, _⟩ := abortDest_sheds h v d
    rw [← hbefore.2 n]
    exact hwrites n (hthrough.writeQueue d hn)
  · obtain ⟨v, _, hthrough⟩ := hdests d
    obtain ⟨hsheds, _, hawaits⟩ := abortDest_sheds h v d
    exact (hsheds.1.trans hthrough).clip_job (hawaits c (hthrough.awaiting d hc))
  · exact hafter.clip_job (abortTasks_taken ((abortWork_sheds_after h s).verifyQueue hu))

/-- The job's STAGED slots without a write in flight are FREE (R64). -/
theorem abortWork_slots {n : Nat} {x : Slot} (hx : s.slot n = some x) (hjob : x.job = h) (hstaged : x.staged = true) (hwriting : x.writing = 0) :
    (abortWork h s).slot n = none := by
  have hsheds : Sheds h s ([0, 1].foldl (abortEngine h) (abortTasks h (abortPorts h s))) :=
    (abortPorts_sheds h s).trans ((abortTasks_sheds h _).trans (Sheds.foldl (abortEngine_sheds h) [0, 1] _))
  refine abortSlots_free fun x' hx' => ?_
  obtain ⟨y, hy, hjob', hstaged', hwriting'⟩ := hsheds.slots n x' hx'
  obtain rfl := Option.some.inj (hx.symm.trans hy)
  exact ⟨hjob'.trans hjob, hstaged'.trans hstaged, hwriting' hwriting⟩

theorem abortWork_works (h : Nat) (s : State) : Works s (abortWork h s) := by
  have hports : Works s (abortPorts h s) :=
    ((Works.refl s).after_foldl (fun _ _ hu => hu.after_abortDest) allDests).after_foldl (fun _ _ hu => hu.after_abortReader) allPorts
  exact (hports.after_verifyQueue.after_foldl (fun _ _ hu => hu.after_abortEngine) [0, 1]).after_abortSlots

/-! ### The state after JOB_ABORT -/

/-- Copies of an aborted clip (R44, step 5). -/
theorem aborted_copy (k : Clip) (d : Dest) : k.aborted.copy d = (k.copy d).aborted := by simp [Clip.aborted, Clip.copy]

/-- The records after a JOB_ABORT, as its tests leave them. -/
structure Ends (h : Nat) (j : Job) (s t : State) : Prop where
  job : ∀ x ∈ t.job h, x = j.aborted
  ports : ∀ p, (t.port p).state = ((abortRecords h j s).port p).state ∧ (t.port p).job = ((abortRecords h j s).port p).job ∧
    (t.port p).identity = ((abortRecords h j s).port p).identity
  /-- A clip that is left is as the abort left it, but for its source verify going from VERIFYING to OFF. -/
  left : ∀ c, ∀ k' ∈ t.clip c, ∃ k, (abortRecords h j s).clip c = some k ∧ (k' = k ∨ k.sv = .verifying ∧ k' = { k with sv := .off })
  other : ∀ c k, (abortRecords h j s).clip c = some k → k.job ≠ h → (∀ e u, (s.engine e).task = some (u, h) → u.clip ≠ c) → t.clip c = some k
  writeQueue : ∀ d, ∀ n ∈ (t.dest d).writeQueue, n ∈ (s.dest d).writeQueue ∧ slotOfJob s h n = false
  awaiting : ∀ d, ∀ c ∈ (t.dest d).awaiting, ∀ k ∈ t.clip c, k.job ≠ h
  verifyQueue : ∀ u ∈ t.verifyQueue, u ∈ s.verifyQueue ∧ ∀ k ∈ t.clip u.clip, k.job ≠ h
  slots : ∀ n x, s.slot n = some x → x.job = h → x.staged = true → x.writing = 0 → t.slot n = none
  mem : t.mem = s.mem

theorem abortJob_ends {j : Job} (hkeyed : s.TablesKeyed) (hj : s.job h = some j) : Ends h j s (abortJob h j s) := by
  have hrecords : Works (setJob s h j.aborted) (abortRecords h j s) := (Works.refl _).after_unbindPort.after_abortClips
  have hkeys : (abortWork h (abortRecords h j s)).TablesKeyed :=
    (abortWork_works h _).forms.keyed (hrecords.forms.keyed ((setJob_forms hj).keyed hkeyed))
  have hsheds := abortWork_sheds h (abortRecords h j s)
  obtain ⟨hwrites, hawaits, hverifies⟩ := abortWork_queues h (abortRecords h j s)
  have hslots := fun n x => abortWork_slots (h := h) (s := abortRecords h j s) (n := n) (x := x)
  obtain ⟨ports, clips, hframe⟩ := abortRecords_frame h j s
  have hjob : (abortWork h (abortRecords h j s)).job h = some j.aborted := by
    refine (congrArg (lookup · h) hsheds.jobs).trans ?_
    rw [hframe]
    exact lookup_store_self _ _ _
  rw [abortJob_eq]
  generalize abortWork h (abortRecords h j s) = w at hkeys hsheds hwrites hawaits hverifies hslots hjob ⊢
  obtain ⟨hends, hclips, hqueue⟩ := closeSeen_closing hjob rfl
  obtain ⟨_, _, _, _, _, _, _, _, hsettled⟩ := closeSeen_settles w [h]
  generalize closeSeen [h] w = v at hends hclips hqueue hsettled ⊢
  have hleft (c : Nat) : ∀ k ∈ v.clip c, w.clip c = some k := fun k hk => by
    have hk' : lookup v.clips c = some k := hk
    rcases hclips with he | he <;> rw [he] at hk'
    · exact hk'
    · exact lookup_of_filter hkeys.2.1 hk'
  have hdest (d : Dest) : v.dest d = w.dest d := by rw [hsettled]; rfl
  have hport (p : Port) : v.port p = w.port p := by rw [hsettled]; rfl
  refine ⟨hends, fun p => ?_, fun c k' hk' => ?_, fun c k hk hother hengines => ?_, fun d n hn => ?_, fun d c hc k hk => ?_, fun u hu => ?_,
    fun n x hx hxjob hstaged hwriting => ?_, ?_⟩
  · have hsame : w.port p = (abortRecords h j s).port p := congrArg (·[p.val]) hsheds.ports
    rw [refresh_port, hport, hsame]
    exact ⟨rfl, rfl, rfl⟩
  · have hk := hleft c k' hk'
    rcases hsheds.clips c with he | ⟨_, _, k, _, _, hk0, hsv, he⟩
    · exact ⟨k', he ▸ hk, .inl rfl⟩
    · exact ⟨k, hk0, .inr ⟨hsv, Option.some.inj (hk.symm.trans he)⟩⟩
  · have hw : w.clip c = some k := by
      rcases hsheds.clips c with he | ⟨e, y, _, htask, hy, _⟩
      · exact he.trans hk
      · rw [hframe] at htask
        exact absurd hy (hengines e y htask)
    have hv : lookup v.clips c = some k := by
      rcases hclips with he | he <;> rw [he]
      · exact hw
      · exact lookup_filter_of_keep hkeys.2.1 hw (by simpa using hother)
    exact hv
  · rw [refresh_dest, hdest] at hn
    have hin := hsheds.writeQueue d hn
    have hfree := hwrites d n hn
    rw [hframe] at hin hfree
    exact ⟨hin, hfree⟩
  · rw [refresh_dest, hdest] at hc
    exact hawaits d c hc k (hleft c k hk)
  · rw [refresh_verifyQueue, hqueue] at hu
    have hin := hsheds.verifyQueue hu
    rw [hframe] at hin
    exact ⟨hin, fun k hk => hverifies u hu k (hleft u.clip k hk)⟩
  · have hnone : w.slot n = none := hslots n x (by rw [hframe]; exact hx) hxjob hstaged hwriting
    rw [refresh_slot, hsettled]
    exact hnone
  · have hmem : v.mem = w.mem := by rw [hsettled]
    rw [refresh_mem, hmem, hsheds.mem, hframe]

/-- A copy at an abort: FAILED with cause ABORTED if it was not final, and as it was otherwise (R44). -/
theorem Copy.aborted_eq (x : Copy) :
    (x.aborted.state = match x.state with
      | .pending | .written | .flushed | .verifying => .failed
      | st => st) ∧
    x.aborted.cause = match x.state with
      | .pending | .written | .flushed | .verifying => .aborted
      | _ => x.cause := by
  unfold Copy.aborted
  cases hst : x.state <;> simp [hst]

/-- Settles O27: JOB_ABORT's owner takes the job, and `abortJob_ends` says what it leaves. -/
theorem abortEndsTheJob : Obligations.AbortEndsTheJob := by
  intro s f rest b j ho hk hp hkeyed hj hst _
  have hown : jobAbort b.toNat (s.taken f rest) = (statusOnly .ok, abortJob b.toNat j (s.taken f rest)) := by
    rw [jobAbort, withJob_live hj, if_neg hst]
  have hends : Ends b.toNat j (s.taken f rest) (abortJob b.toNat j (s.taken f rest)) := abortJob_ends hkeyed hj
  have hrecord (c : Nat) : (abortRecords b.toNat j (s.taken f rest)).clip c =
      ((s.clip c).filter (fun k => !(decide (k.job = b.toNat) && decide (k.sourceState = .building)))).map
        (fun k => if k.job = b.toNat then k.aborted else k) := abortRecords_clip j c hkeyed.2.1
  refine ⟨_, congrArg Host.Outcome.next (serve_answer ho hk (hp ▸ readOne_one b) hown), sendFrame_replyOut _ _, ?_⟩
  simp only [sendFrame_job, sendFrame_port, sendFrame_clip, sendFrame_dest, sendFrame_verifyQueue, sendFrame_slot, sendFrame_known, sendFrame_mem]
  refine ⟨fun j' hj' => ?_, fun p hbind => ?_, fun c k hclip hjob => ⟨fun hbuilding => ?_, fun k' hk' => ?_⟩, fun c k hclip hjob hengines => ?_,
    fun d n hn => ?_, hends.awaiting, hends.verifyQueue, hends.slots, abortJob_known _ _ _, hends.mem⟩
  · rw [hends.job j' hj']
    exact ⟨rfl, rfl, rfl, rfl, rfl⟩
  · obtain ⟨hstate, hjob, hid⟩ := hends.ports p
    have hbound : j.binding = some p := hbind
    rw [hstate, hjob, hid, abortRecords_port, if_pos hbound]
    exact ⟨rfl, rfl, rfl⟩
  · refine Option.eq_none_iff_forall_ne_some.mpr fun k' hk' => ?_
    obtain ⟨x, hx, _⟩ := hends.left c k' hk'
    simp [hrecord, hclip, hjob, hbuilding] at hx
  · obtain ⟨x, hx, hleft⟩ := hends.left c k' hk'
    have hxk : x = k.aborted := by
      rw [hrecord, hclip] at hx
      obtain ⟨y, hy, rfl⟩ := Option.map_eq_some_iff.mp hx
      obtain rfl : k = y := by simpa using (Option.filter_eq_some_iff.mp hy).1
      rw [if_pos hjob]
    subst hxk
    have hcopy (d : Dest) : k'.copy d = (k.copy d).aborted := by
      rw [← aborted_copy]
      rcases hleft with rfl | ⟨_, rfl⟩ <;> rfl
    refine ⟨?_, ?_, fun d => ?_, fun d => ?_, fun hsv => ?_⟩
    · rcases hleft with rfl | ⟨_, rfl⟩ <;> rfl
    · rcases hleft with rfl | ⟨_, rfl⟩ <;> rfl
    · rw [hcopy]
      exact (Copy.aborted_eq _).1
    · rw [hcopy]
      exact (Copy.aborted_eq _).2
    · rcases hleft with rfl | ⟨_, rfl⟩
      · rcases hsv with hsv | hsv <;> simp [Clip.aborted, hsv]
      · rfl
  · refine hends.other c k ?_ hjob hengines
    rw [hrecord, hclip]
    simp [hjob]
  · obtain ⟨hin, hfree⟩ := hends.writeQueue d n hn
    refine ⟨hin, fun x hx hjob => ?_⟩
    have hx' : (s.taken f rest).slot n = some x := hx
    simp [slotOfJob, hx', hjob] at hfree

end Sys2Proof.Machine
end

section
/-! SUPPORT. The account of the slots (R61, R62, R71), as a rule for every shared operation: which operations leave it untouched, what
freeing and filling a slot does to it, and, command by command, that it is kept. -/

namespace Sys2Proof.Machine

-- One theorem at a time: checking them all at once needs more threads than the sandbox gives.
set_option Elab.async false

open Sys2Proof

/-! ### What the account reads -/

/-- What the account reads of a state: which slots are FILLING and STAGED, the free-slot list, and the slot each port reads into. -/
structure SlotView where
  records : List (Nat × Bool)
  free : List Nat
  chunks : Port → Option Nat

def State.slotView (s : State) : SlotView :=
  ⟨s.slots.map (fun e => (e.1, e.2.staged)), s.freeSlots, fun p => (s.reader p).chunk.map ChunkRead.slot⟩

/-- The account reads the same in both states. -/
abbrev SlotsLike (s t : State) : Prop := t.slotView = s.slotView

/-- The account of the slots: each is on the free-slot list or in use, once, and each chunk read in flight has a FILLING slot of its own
(R61, R62, R71). -/
structure State.Accounted (s : State) : Prop where
  sorted : (s.slots.map Prod.fst).Pairwise (· < ·)
  once : (s.freeSlots ++ s.slots.map Prod.fst).Perm allSlots
  filling : ∀ p : Port, ∀ c ∈ (s.reader p).chunk, (s.slot c.slot).any (fun x => !x.staged) = true
  own : ∀ p q : Port, p ≠ q → ∀ c ∈ (s.reader p).chunk, ∀ e ∈ (s.reader q).chunk, c.slot ≠ e.slot

theorem accounted_iff {s : State} : s.Accounted ↔ s.SlotsAccounted :=
  ⟨fun h => ⟨h.sorted, h.once, h.filling, h.own⟩, fun ⟨h1, h2, h3, h4⟩ => ⟨h1, h2, h3, h4⟩⟩

/-- The slot is in use and still to be filled (R61). -/
abbrev State.Filling (s : State) (n : Nat) : Prop := (s.slot n).any (fun x => !x.staged) = true

theorem lookup_map_value {α β : Type} (f : α → β) (t : Table α) (k : Nat) :
    lookup (t.map (fun e => (e.1, f e.2))) k = (lookup t k).map f := by
  induction t with
  | nil => rfl
  | cons e rest ih =>
    obtain ⟨i, a⟩ := e
    by_cases hi : i = k <;> simp [lookup, hi, ih]

section
variable {s t u : State}

theorem SlotsLike.refl (s : State) : SlotsLike s s := rfl

theorem SlotsLike.trans (h : SlotsLike s t) (k : SlotsLike t u) : SlotsLike s u := Eq.trans k h

theorem SlotsLike.records (h : SlotsLike s t) : t.slots.map (fun e => (e.1, e.2.staged)) = s.slots.map (fun e => (e.1, e.2.staged)) :=
  congrArg SlotView.records h

theorem SlotsLike.free (h : SlotsLike s t) : t.freeSlots = s.freeSlots := congrArg SlotView.free h

theorem SlotsLike.chunks (h : SlotsLike s t) (p : Port) : (t.reader p).chunk.map ChunkRead.slot = (s.reader p).chunk.map ChunkRead.slot :=
  congrFun (congrArg SlotView.chunks h) p

theorem SlotsLike.mk (hrecords : t.slots.map (fun e => (e.1, e.2.staged)) = s.slots.map (fun e => (e.1, e.2.staged)))
    (hfree : t.freeSlots = s.freeSlots) (hchunks : ∀ p, (t.reader p).chunk.map ChunkRead.slot = (s.reader p).chunk.map ChunkRead.slot) :
    SlotsLike s t := by
  rw [SlotsLike, State.slotView, State.slotView, hrecords, hfree, funext hchunks]

theorem SlotsLike.foldl {α : Type} {g : State → α → State} (step : ∀ s a, SlotsLike s (g s a)) (l : List α) (s : State) :
    SlotsLike s (l.foldl g s) := by
  induction l generalizing s with
  | nil => exact .refl s
  | cons a l ih => exact (step s a).trans (ih _)

theorem SlotsLike.keys (h : SlotsLike s t) : t.slots.map Prod.fst = s.slots.map Prod.fst := by
  simpa [List.map_map, Function.comp_def] using congrArg (List.map Prod.fst) h.records

theorem SlotsLike.staged (h : SlotsLike s t) (n : Nat) : (t.slot n).map Slot.staged = (s.slot n).map Slot.staged := by
  have hn := congrArg (fun l => lookup l n) h.records
  simp only [lookup_map_value Slot.staged] at hn
  exact hn

theorem filling_iff (s : State) (n : Nat) : s.Filling n ↔ (s.slot n).map Slot.staged = some false := by
  cases h : s.slot n <;> simp [State.Filling, h]

theorem SlotsLike.filling (h : SlotsLike s t) (n : Nat) : t.Filling n ↔ s.Filling n := by
  rw [filling_iff, filling_iff, h.staged]

/-- The account reads nothing else of a state. -/
theorem SlotsLike.accounted (h : SlotsLike s t) (hs : s.Accounted) : t.Accounted := by
  obtain ⟨hkeys, hperm, hfilling, hown⟩ := hs
  have hchunk {p : Port} {c : ChunkRead} (hc : c ∈ (t.reader p).chunk) : ∃ b ∈ (s.reader p).chunk, b.slot = c.slot := by
    have hp := h.chunks p
    rw [Option.mem_def.mp hc] at hp
    exact Option.map_eq_some_iff.mp hp.symm
  refine ⟨h.keys ▸ hkeys, ?_, fun p c hc => ?_, fun p q hpq c hc e he => ?_⟩
  · rw [h.free, h.keys]
    exact hperm
  · obtain ⟨b, hb, hslot⟩ := hchunk hc
    exact (h.filling c.slot).mpr (hslot ▸ hfilling p b hb)
  · obtain ⟨b, hb, hslot⟩ := hchunk hc
    obtain ⟨b', hb', hslot'⟩ := hchunk he
    exact hslot ▸ hslot' ▸ hown p q hpq b hb b' hb'

/-- An operation that leaves the slots, the free-slot list and the reads in flight at the card ports leaves the account. -/
theorem SlotsLike.of_reads (hslots : t.slots = s.slots) (hfree : t.freeSlots = s.freeSlots)
    (hreads : ∀ q, (s.reader q).KeepsReads (t.reader q)) : SlotsLike s t :=
  .mk (by rw [hslots]) hfree fun q => by rw [(hreads q).1]

theorem setReader_slotsLike {p : Port} {x : Reader} (hx : x.chunk.map ChunkRead.slot = (s.reader p).chunk.map ChunkRead.slot) :
    SlotsLike s (setReader s p x) := by
  refine .mk rfl rfl fun q => ?_
  by_cases hq : q = p
  · subst hq
    rw [setReader_reader_self, hx]
  · rw [setReader_reader_of_ne s hq]

theorem store_map_value {α β : Type} (f : α → β) (t : Table α) (k : Nat) (a : α) :
    (store t k a).map (fun e => (e.1, f e.2)) = store (t.map (fun e => (e.1, f e.2))) k (f a) := by
  induction t with
  | nil => rfl
  | cons e rest ih =>
    obtain ⟨h, b⟩ := e
    simp only [store, List.map_cons]
    split
    · rfl
    · split
      · rfl
      · simp [ih]

/-- Storing what a number already holds changes nothing. -/
theorem store_same {α : Type} {t : Table α} {k : Nat} {a : α} (hkeys : (t.map Prod.fst).Pairwise (· < ·)) (h : lookup t k = some a) :
    store t k a = t := by
  induction t with
  | nil => cases h
  | cons e rest ih =>
    obtain ⟨i, b⟩ := e
    rw [List.map_cons, List.pairwise_cons] at hkeys
    obtain ⟨hlow, hrest⟩ := hkeys
    by_cases hi : i = k
    · subst hi
      simp only [lookup, if_pos] at h
      obtain rfl := Option.some.inj h
      simp [store]
    · simp only [lookup, hi, if_false] at h
      have hk : i < k := hlow k (List.mem_map.mpr ⟨_, mem_of_lookup h, rfl⟩)
      simp [store, hi, Nat.not_lt.mpr hk.le, ih hrest h]

/-- A slot's record that changes in place but stays FILLING or STAGED. -/
theorem modSlot_slotsLike {n : Nat} {f : Slot → Slot} (hf : ∀ x, (f x).staged = x.staged) (hkeys : (s.slots.map Prod.fst).Pairwise (· < ·)) :
    SlotsLike s (modSlot n f s) := by
  unfold modSlot
  split
  next x hx =>
    refine .mk ?_ rfl fun _ => rfl
    refine (store_map_value Slot.staged _ _ _).trans (store_same (by simpa [List.map_map, Function.comp_def] using hkeys) ?_)
    rw [lookup_map_value, hf]
    exact congrArg (Option.map Slot.staged) hx
  · exact .refl s

theorem refresh_slotsLike (s : State) : SlotsLike s (refresh s) :=
  .mk rfl rfl fun p => by rw [refresh_reader]

theorem cancelPass_slotsLike (c : Nat) (s : State) : SlotsLike s (cancelPass c s) := by
  refine .mk rfl rfl fun p => ?_
  have hp : (cancelPass c s).reader p = { s.reader p with
      chunk := (s.reader p).chunk.map (fun x => if x.clip = c ∧ x.recopy = true then { x with cancelled := true } else x) } := by
    simp [State.reader, cancelPass]
  rw [hp, Option.map_map]
  congr 1
  funext x
  simp only [Function.comp]
  split <;> rfl

theorem leaveRecopy_slotsLike (c : Nat) (d : Dest) (s : State) : SlotsLike s (leaveRecopy c d s) := by
  have hlist (u : State) : SlotsLike u (leaveRecopyList c u) := by
    obtain ⟨_, e⟩ := leaveRecopyList_frame u c
    rw [e]
    rfl
  unfold leaveRecopy
  split
  · split
    · refine SlotsLike.trans ?_ (hlist _)
      split
      · exact cancelPass_slotsLike c _
      · rfl
    · exact .refl s
  · exact .refl s

/-- A copy that fails frees no slot: it may end a recopy pass, whose read in flight only is marked to end (R82). -/
theorem failCopy_slotsLike (c : Nat) (d : Dest) (st : CopyState) (cause : Cause) (s : State) : SlotsLike s (failCopy c d st cause s) := by
  obtain ⟨_, hstate⟩ := modClip_frame s c (fun k => k.setCopy d { k.copy d with state := st, cause := cause })
  have hleave : SlotsLike s (leaveRecopy c d (setCopyState c d st cause s)) := by
    rw [setCopyState, hstate]
    exact leaveRecopy_slotsLike c d _
  obtain ⟨_, _, _, _, htell⟩ := tellCopy_frame (leaveRecopy c d (setCopyState c d st cause s)) c (.copy d st) cause
  rw [failCopy, htell]
  exact hleave

/-! ### Slots that become free, staged or granted -/

theorem State.Accounted.after_like (h : s.Accounted) (k : SlotsLike s t) : t.Accounted := k.accounted h

/-- The slot is FILLING, and no chunk read is in flight for it: a chunk read that has left its port's reader, and is to be staged or dropped. -/
abbrev State.Vacant (s : State) (n : Nat) : Prop := s.Filling n ∧ ∀ p, ∀ c ∈ (s.reader p).chunk, c.slot ≠ n

theorem SlotsLike.vacant (h : SlotsLike s t) {n : Nat} (hn : s.Vacant n) : t.Vacant n := by
  refine ⟨(h.filling n).mpr hn.1, fun p c hc => ?_⟩
  have hp := h.chunks p
  rw [Option.mem_def.mp hc] at hp
  obtain ⟨b, hb, hslot⟩ := Option.map_eq_some_iff.mp hp.symm
  exact hslot ▸ hn.2 p b hb

theorem State.Accounted.after_endRead (h : s.Accounted) {p : Port} {x : Reader} (hx : x.chunk = none) :
    (setReader s p x).Accounted := by
  obtain ⟨hkeys, hperm, hfilling, hown⟩ := h
  have hchunk {q : Port} {c : ChunkRead} (hc : c ∈ ((setReader s p x).reader q).chunk) : c ∈ (s.reader q).chunk := by
    by_cases hq : q = p
    · subst hq
      simp [hx] at hc
    · rwa [setReader_reader_of_ne s hq] at hc
  exact ⟨hkeys, hperm, fun q c hc => hfilling q c (hchunk hc), fun q r hqr c hc e he => hown q r hqr c (hchunk hc) e (hchunk he)⟩

/-- The slot of a chunk read that leaves its reader is FILLING, and no other port reads into it (R71). -/
theorem State.Accounted.vacated (h : s.Accounted) {p : Port} {c : ChunkRead} (hc : (s.reader p).chunk = some c) {x : Reader}
    (hx : x.chunk = none) : (setReader s p x).Vacant c.slot := by
  obtain ⟨_, _, hfilling, hown⟩ := h
  refine ⟨hfilling p c hc, fun q e he => ?_⟩
  by_cases hq : q = p
  · subst hq
    simp [hx] at he
  · rw [setReader_reader_of_ne s hq] at he
    exact hown q p hq e he c hc

theorem State.Filling.mem_keys {n : Nat} (h : s.Filling n) : n ∈ s.slots.map Prod.fst := by
  cases hx : s.slot n with
  | none => simp [State.Filling, hx] at h
  | some x => exact mem_keys_of_lookup hx

theorem erase_keys {α : Type} (t : Table α) (n : Nat) : (erase t n).map Prod.fst = (t.map Prod.fst).filter (fun i => decide (i ≠ n)) := by
  induction t with
  | nil => rfl
  | cons e rest ih => by_cases he : e.1 = n <;> simp_all [erase]

/-- A slot in use that no chunk read fills goes over to the free-slot list (R62). -/
theorem State.Accounted.after_freeSlot (h : s.Accounted) {n : Nat} (hn : n ∈ s.slots.map Prod.fst)
    (hno : ∀ p, ∀ c ∈ (s.reader p).chunk, c.slot ≠ n) : (freeSlot n s).Accounted := by
  obtain ⟨hkeys, hperm, hfilling, hown⟩ := h
  have hfree : (freeSlot n s).slots.map Prod.fst = (s.slots.map Prod.fst).filter (fun i => decide (i ≠ n)) := erase_keys s.slots n
  refine ⟨hfree ▸ hkeys.filter _, ?_, fun p c hc => ?_, hown⟩
  · have hnodup : (s.slots.map Prod.fst).Nodup := hkeys.imp fun h => Nat.ne_of_lt h
    have herase : n :: (s.slots.map Prod.fst).filter (fun i => decide (i ≠ n)) |>.Perm (s.slots.map Prod.fst) := by
      have h1 := hnodup.erase_eq_filter n
      have h2 : (s.slots.map Prod.fst).filter (fun i => decide (i ≠ n)) = (s.slots.map Prod.fst).filter (· != n) := by
        congr 1
        funext i
        by_cases hi : i = n <;> simp [hi]
      rw [h2, ← h1]
      exact (List.perm_cons_erase hn).symm
    rw [hfree]
    change (s.freeSlots ++ [n] ++ _).Perm allSlots
    rw [List.append_assoc, List.singleton_append]
    exact (herase.append_left _).trans hperm
  · have hne : c.slot ≠ n := hno p c hc
    have hslot : (freeSlot n s).slot c.slot = s.slot c.slot := lookup_erase_of_ne _ hne
    rw [hslot]
    exact hfilling p c hc

/-- A STAGED slot that nobody is left to write goes over to the free-slot list (R63). -/
theorem State.Accounted.after_freeIfDone (h : s.Accounted) {n : Nat} : (freeIfDone n s).Accounted := by
  unfold freeIfDone
  split
  next x hx =>
    split
    next hdone =>
      refine h.after_freeSlot (mem_keys_of_lookup hx) fun p c hc hslot => ?_
      have hfilling := h.filling p c hc
      simp [hslot, hx, hdone.1] at hfilling
    · exact h
  · exact h

/-- A chunk read that ends without being staged leaves its slot free (R74 to R76, R79, R82). -/
theorem State.Accounted.after_dropChunk (h : s.Accounted) {p : Port} {c : ChunkRead} (hc : (s.reader p).chunk = some c) :
    (dropChunk p c s).Accounted := by
  have hvacant := h.vacated hc (x := { s.reader p with chunk := none, retries := 0 }) rfl
  exact (h.after_endRead rfl).after_freeSlot hvacant.1.mem_keys hvacant.2

theorem State.Accounted.after_rest (h : s.Accounted) {resetLow rate : Bool} {rx : Receiver} {inbound : List Frame}
    {dispatch waitingReply sending : Option Frame} {resetPending : Bool} {linkFlags : LinkFlags} {cfg : Settings} {ports : Vector CardPort 8}
    {surveyQueue : List Port} {survey : Option Survey} {known : List (BitVec 64)} {jobs : Table Job} {clips : Table Clip} {lastGranted : Port}
    {mem : List Host.Cell} {portUse : Vector PortUse 8} {dests : Vector DestPort 4} {verifyQueue : List Task} {engines : Vector Engine 2}
    {windowPeriod windowStart windowCount : Nat} {monitors : Vector Monitor 4} {notices : List Notice} {missed : BitVec 32}
    {expiryCount now : Nat} {pending : List Instr} :
    State.Accounted { s with
      resetLow := resetLow, rate := rate, rx := rx, inbound := inbound, dispatch := dispatch, waitingReply := waitingReply,
      sending := sending, resetPending := resetPending, linkFlags := linkFlags, cfg := cfg, ports := ports, surveyQueue := surveyQueue,
      survey := survey, known := known, jobs := jobs, clips := clips, lastGranted := lastGranted, mem := mem, portUse := portUse,
      dests := dests, verifyQueue := verifyQueue, engines := engines, windowPeriod := windowPeriod, windowStart := windowStart,
      windowCount := windowCount, monitors := monitors, notices := notices, missed := missed, expiryCount := expiryCount, now := now,
      pending := pending } :=
  ⟨h.sorted, h.once, h.filling, h.own⟩

theorem State.Accounted.after_setPort (h : s.Accounted) {p : Port} {x : CardPort} : (setPort s p x).Accounted := h.after_rest

theorem State.Accounted.after_setDest (h : s.Accounted) {d : Dest} {x : DestPort} : (setDest s d x).Accounted := h.after_rest

theorem State.Accounted.after_setEngine (h : s.Accounted) {e : EngineIx} {x : Engine} : (setEngine s e x).Accounted := h.after_rest

theorem State.Accounted.after_setMonitor (h : s.Accounted) {d : Dest} {x : Monitor} : (setMonitor s d x).Accounted := h.after_rest

theorem State.Accounted.after_setJob (h : s.Accounted) {i : Nat} {j : Job} : (setJob s i j).Accounted := h.after_rest

theorem State.Accounted.after_setClip (h : s.Accounted) {c : Nat} {k : Clip} : (setClip s c k).Accounted := h.after_rest

theorem State.Accounted.after_foldl (h : s.Accounted) {α : Type} {g : State → α → State}
    (step : ∀ u a, u.Accounted → (g u a).Accounted) (l : List α) : (l.foldl g s).Accounted := by
  induction l generalizing s with
  | nil => exact h
  | cons a l ih => exact ih (step s a h)

/-- A vacant slot becomes STAGED, or free if no destination takes it (R77). -/
theorem State.Accounted.after_placeSlot (h : s.Accounted) {n : Nat} (hn : s.Vacant n) {set : DestSet} :
    (placeSlot n set s).Accounted := by
  unfold placeSlot
  split
  · exact h.after_freeSlot hn.1.mem_keys hn.2
  · refine State.Accounted.after_foldl ?_ (fun _ _ hu => hu.after_setDest) _
    obtain ⟨hkeys, hperm, hfilling, hown⟩ := h
    unfold modSlot
    split
    next x hx =>
      have hstore : (setSlot s n { x with staged := true, pending := set }).slots.map Prod.fst = s.slots.map Prod.fst := store_keys _ hkeys hx
      refine ⟨hstore ▸ hkeys, hstore ▸ hperm, fun p c hc => ?_, hown⟩
      rw [setSlot_slot_of_ne s (hn.2 p c hc)]
      exact hfilling p c hc
    · exact ⟨hkeys, hperm, hfilling, hown⟩

theorem store_free_perm {α : Type} {t : Table α} {n : Nat} (hfree : n ∉ t.map Prod.fst) (a : α) :
    ((store t n a).map Prod.fst).Perm (n :: t.map Prod.fst) := by
  induction t with
  | nil => exact .refl _
  | cons e rest ih =>
    simp only [List.map_cons, List.mem_cons, not_or] at hfree
    obtain ⟨hne, hrest⟩ := hfree
    simp only [store]
    split
    · exact .refl _
    · rw [if_neg (Ne.symm hne)]
      exact ((ih hrest).cons _).trans (.swap _ _ _)

theorem lookup_eq_none {α : Type} {t : Table α} {n : Nat} (h : n ∉ t.map Prod.fst) : lookup t n = none := by
  cases hx : lookup t n with
  | none => rfl
  | some x => exact absurd (mem_keys_of_lookup hx) h

/-- A free slot is granted to a reader, whose chunk read then fills it (R66, R71). -/
theorem State.Accounted.after_granted (h : s.Accounted) {n : Nat} {rest : List Nat} (hfree : s.freeSlots = n :: rest) {x : Slot}
    (hx : x.staged = false) {p : Port} {r : Reader} (hr : ∀ c ∈ r.chunk, c.slot = n) :
    (setReader (setSlot { s with freeSlots := rest } n x) p r).Accounted := by
  obtain ⟨hkeys, hperm, hfilling, hown⟩ := h
  have hnodup : (s.freeSlots ++ s.slots.map Prod.fst).Nodup := hperm.nodup_iff.mpr List.nodup_range'
  rw [hfree] at hperm hnodup
  have hunused : n ∉ s.slots.map Prod.fst := fun hn => (List.nodup_cons.mp hnodup).1 (List.mem_append_right _ hn)
  have hne {q : Port} {c : ChunkRead} (hc : c ∈ (s.reader q).chunk) : c.slot ≠ n := fun hn => by
    have hused : State.Filling s c.slot := hfilling q c hc
    exact hunused (hn ▸ hused.mem_keys)
  have hreader (q : Port) (hq : q ≠ p) : (setReader (setSlot { s with freeSlots := rest } n x) p r).reader q = s.reader q :=
    setReader_reader_of_ne _ hq _
  have hself : (setReader (setSlot { s with freeSlots := rest } n x) p r).reader p = r := setReader_reader_self _ _ _
  refine ⟨pairwise_store_free hkeys (lookup_eq_none hunused), ?_, fun q c hc => ?_, fun q q' hq c hc e he => ?_⟩
  · refine List.Perm.trans ?_ hperm
    exact ((store_free_perm hunused x).append_left rest).trans List.perm_middle
  · by_cases hq : q = p
    · subst hq
      rw [hself] at hc
      rw [hr c hc]
      change (lookup (store s.slots n x) n).any _ = true
      simp [hx]
    · rw [hreader q hq] at hc
      have hslot : lookup (store s.slots n x) c.slot = s.slot c.slot := lookup_store_of_ne _ (hne hc) _
      change (lookup (store s.slots n x) c.slot).any _ = true
      rw [hslot]
      exact hfilling q c hc
  · by_cases hqp : q = p
    · subst hqp
      rw [hself] at hc
      rw [hreader q' (Ne.symm hq)] at he
      rw [hr c hc]
      exact (hne he).symm
    · rw [hreader q hqp] at hc
      by_cases hqp' : q' = p
      · subst hqp'
        rw [hself] at he
        rw [hr e he]
        exact hne hc
      · rw [hreader q' hqp'] at he
        exact hown q q' hq c hc e he

theorem State.Accounted.after_if (h : s.Accounted) (k : t.Accounted) {c : Prop} [Decidable c] :
    (if c then s else t).Accounted := by
  split
  · exact h
  · exact k

/-! ### The shared operations -/

theorem State.Accounted.after_setReader (h : s.Accounted) {p : Port} {x : Reader} (hx : x.chunk = (s.reader p).chunk := by rfl) :
    (setReader s p x).Accounted :=
  h.after_like (setReader_slotsLike (by rw [hx]))

theorem State.Accounted.after_modSlot (h : s.Accounted) {n : Nat} {f : Slot → Slot}
    (hf : ∀ x, (f x).staged = x.staged := by exact fun _ => rfl) : (modSlot n f s).Accounted :=
  h.after_like (modSlot_slotsLike hf h.sorted)

theorem State.Accounted.after_refresh (h : s.Accounted) : (refresh s).Accounted := h.after_like (refresh_slotsLike s)

theorem State.Accounted.after_pump (h : s.Accounted) : (pump s).Accounted := by
  rw [pump_frame]
  exact h.after_rest

theorem State.Accounted.after_notify (h : s.Accounted) {n : Notice} : (notify n s).Accounted := by
  rw [notify_frame]
  exact h.after_rest

theorem State.Accounted.after_sendFrame (h : s.Accounted) {r : Frame} : (sendFrame r s).Accounted := by
  rw [sendFrame_frame]
  exact h.after_rest

/-- The tests at an event's end read slots but change none. -/
theorem State.Accounted.after_settling (h : s.Accounted) (k : s.Settles t) : t.Accounted := by
  obtain ⟨_, _, _, _, _, _, _, _, rfl⟩ := k
  exact h.after_rest

theorem State.Accounted.after_closeJobs (h : s.Accounted) {hs : List Nat} : (closeJobs hs s).Accounted :=
  h.after_settling (closeJobs_settles s hs)

theorem State.Accounted.after_closeSeen (h : s.Accounted) {hs : List Nat} : (closeSeen hs s).Accounted :=
  h.after_settling (closeSeen_settles s hs)

theorem State.Accounted.after_evalJob (h : s.Accounted) {i : Nat} : (evalJob s i).Accounted :=
  h.after_settling (evalJob_settles s i)

theorem State.Accounted.after_tellAll (h : s.Accounted) {ns : List Notice} : (tellAll ns s).Accounted :=
  h.after_settling (tellAll_settles s ns)

theorem State.Accounted.after_dropHolds (h : s.Accounted) {d : Dest} {soft hard : Bool} :
    (dropHolds d soft hard s).Accounted := h.after_rest

theorem State.Accounted.after_modJob (h : s.Accounted) {i : Nat} {f : Job → Job} : (modJob i f s).Accounted := by
  obtain ⟨_, e⟩ := modJob_frame s i f
  rw [e]
  exact h.after_rest

theorem State.Accounted.after_modClip (h : s.Accounted) {c : Nat} {f : Clip → Clip} : (modClip c f s).Accounted := by
  obtain ⟨_, e⟩ := modClip_frame s c f
  rw [e]
  exact h.after_rest

theorem State.Accounted.after_cardKick (h : s.Accounted) {p : Port} : (cardKick p s).Accounted := by
  obtain ⟨_, e⟩ := cardKick_frame s p
  rw [e]
  exact h.after_rest

theorem State.Accounted.after_abandonCard (h : s.Accounted) {p : Port} : (abandonCard p s).Accounted := by
  obtain ⟨_, e⟩ := abandonCard_frame s p
  rw [e]
  exact h.after_rest

theorem State.Accounted.after_bridgeSend (h : s.Accounted) {d : Dest} {ask : Option BridgeAsk} {again : Bool} :
    (bridgeSend d ask again s).Accounted := by
  obtain ⟨_, e⟩ := bridgeSend_frame s d ask again
  rw [e]
  exact h.after_rest

theorem State.Accounted.after_bridgeKick (h : s.Accounted) {d : Dest} : (bridgeKick d s).Accounted := by
  obtain ⟨_, e⟩ := bridgeKick_frame s d
  rw [e]
  exact h.after_rest

theorem State.Accounted.after_leaveRecopyList (h : s.Accounted) {c : Nat} : (leaveRecopyList c s).Accounted := by
  obtain ⟨_, e⟩ := leaveRecopyList_frame s c
  rw [e]
  exact h.after_rest

theorem State.Accounted.after_tellCopy (h : s.Accounted) {c : Nat} {news : CopyNews} {cause : Cause} :
    (tellCopy c news cause s).Accounted := by
  obtain ⟨_, _, _, _, e⟩ := tellCopy_frame s c news cause
  rw [e]
  exact h.after_rest

theorem State.Accounted.after_failCopy (h : s.Accounted) {c : Nat} {d : Dest} {st : CopyState} {cause : Cause} :
    (failCopy c d st cause s).Accounted :=
  h.after_like (failCopy_slotsLike c d st cause s)

end

section
variable {s : State}

/-! ### The Verify Engines and the loss procedure (spec/07, R117 to R119) -/

theorem State.Accounted.after_askSegment (h : s.Accounted) {e : EngineIx} : (askSegment e s).Accounted := by
  unfold askSegment
  split
  · dsimp only
    split
    · exact h.after_setEngine.after_setDest
    · split
      · exact h.after_setEngine.after_setReader
      · exact h.after_setEngine
  · exact h

theorem State.Accounted.after_giveUp (h : s.Accounted) {e : EngineIx} : (giveUp e s).Accounted := by
  obtain ⟨_, _, _, _, _, hframe⟩ := giveUp_frame e s
  exact h.after_like (.of_reads (by rw [hframe]) (by rw [hframe]) (giveUp_reads e s))

theorem State.Accounted.after_letGo (h : s.Accounted) {e : EngineIx} : (letGo e s).Accounted := by
  obtain ⟨_, _, _, _, hframe⟩ := letGo_frame e s
  exact h.after_like (.of_reads (by rw [hframe]) (by rw [hframe]) (letGo_reads e s))

theorem State.Accounted.after_settleTarget (h : s.Accounted) {u : Task} {copy : CopyState} {sv : SvState} {cause : Cause} :
    (settleTarget u copy sv cause s).Accounted := by
  unfold settleTarget
  split
  · exact .after_if (State.Accounted.after_tellCopy h.after_modClip) h.after_failCopy
  · exact State.Accounted.after_tellCopy h.after_modClip

theorem State.Accounted.after_retryTarget (h : s.Accounted) {u : Task} : (retryTarget u s).Accounted := by
  unfold retryTarget
  split <;> exact h.after_modClip

theorem State.Accounted.after_compareTask (h : s.Accounted) {e : EngineIx} {u : Task} {i : Nat} :
    (compareTask e u i s).Accounted := by
  have hidle : (freeEngine e s).Accounted := h.after_setEngine
  have hretry : (retryTarget u (freeEngine e s)).Accounted := hidle.after_retryTarget
  exact .after_if hidle.after_settleTarget.after_closeJobs
    (.after_if (State.Accounted.after_closeJobs hretry.after_rest) hidle.after_settleTarget.after_closeJobs)

theorem State.Accounted.after_segmentComplete (h : s.Accounted) {g : Segment} : (segmentComplete g s).Accounted := by
  unfold segmentComplete
  split
  · exact .after_if h.after_letGo.after_closeJobs (.after_if h.after_giveUp.after_closeJobs
      (.after_if h.after_setEngine.after_askSegment h.after_setEngine.after_compareTask))
  · exact h

theorem State.Accounted.after_segmentFailed (h : s.Accounted) {g : Segment} : (segmentFailed g s).Accounted := by
  unfold segmentFailed
  split
  · have hidle : (freeEngine g.engine s).Accounted := h.after_setEngine
    exact .after_if h.after_letGo.after_closeJobs (.after_if h.after_giveUp.after_closeJobs hidle.after_settleTarget.after_closeJobs)
  · exact h

theorem State.Accounted.after_foldSegment (h : s.Accounted) {g : Segment} {count : Nat} {data : List Byte} :
    (foldSegment g count data s).Accounted := by
  unfold foldSegment
  dsimp only
  split
  · exact h.after_setEngine
  · exact h

theorem State.Accounted.after_takeNext (h : s.Accounted) : (takeNext s).Accounted := by
  have hstart (u : Task) {t : State} (ht : t.Accounted) : (startTarget u t).Accounted := by
    unfold startTarget
    split <;> exact ht.after_modClip
  unfold takeNext
  split
  · split
    · exact (State.Accounted.after_askSegment (State.Accounted.after_setEngine (hstart _ h.after_rest))).after_closeJobs.after_refresh
    · exact h
  · exact h

theorem State.Accounted.after_loseCopy (h : s.Accounted) {d : Dest} {lost : Option DestIdentity} {c : Nat} :
    (loseCopy d lost s c).Accounted := by
  unfold loseCopy
  split
  · split
    · refine .after_if ?_ h
      split
      · exact h.after_failCopy
      · exact State.Accounted.after_tellCopy h.after_modClip
      · exact h
    · exact h
  · exact h

/-- A destination that is dropped from the STAGED slots fills none (R117). -/
theorem State.Accounted.after_dropFromSlots (h : s.Accounted) {d : Dest} : (dropFromSlots d s).Accounted := by
  have hstaged (x : Slot) : (x.without d).staged = x.staged := by
    unfold Slot.without
    split <;> rfl
  have hlike : SlotsLike s { s with slots := s.slots.map (fun e => (e.1, e.2.without d)) } :=
    .mk (by simp [Function.comp_def, hstaged]) rfl fun _ => rfl
  exact (h.after_like hlike).after_foldl (fun _ _ hu => hu.after_freeIfDone) _

theorem State.Accounted.after_loseDest (h : s.Accounted) {d : Dest} {st : DestState} {reason : DestReason} :
    (loseDest d st reason s).Accounted := by
  have hnotice : (notify (.destState d st reason) (dropFromSlots d (setDest s d { (s.dest d).dropWork with state := st }))).Accounted :=
    h.after_setDest.after_dropFromSlots.after_notify
  exact State.Accounted.after_refresh (State.Accounted.after_closeJobs
    (hnotice.after_foldl (g := loseCopy d (s.dest d).identity) (fun _ _ hu => hu.after_loseCopy) _).after_rest)

/-! ### Card ports and the survey (spec/02) -/

theorem State.Accounted.after_joinSurvey (h : s.Accounted) {p : Port} : (joinSurvey p s).Accounted := by
  rw [joinSurvey_eq]
  exact h.after_rest

theorem State.Accounted.after_settled (h : s.Accounted) {p : Port} : (settled p s).Accounted := by
  unfold settled
  exact .after_if (State.Accounted.after_if h.after_setPort.after_notify.after_joinSurvey h.after_setPort.after_notify).after_refresh h

theorem State.Accounted.after_rollBack (h : s.Accounted) {p : Port} : (rollBack p s).Accounted := by
  unfold rollBack
  split
  next c hc => exact .after_if (h.after_dropChunk hc).after_modClip (h.after_dropChunk hc)
  · exact h

theorem State.Accounted.after_removeEngine (h : s.Accounted) {p : Port} {e : EngineIx} : (removeEngine p s e).Accounted :=
  .after_if (.after_if h.after_letGo h.after_giveUp) h

theorem State.Accounted.after_removeSegments (h : s.Accounted) {p : Port} : (removeSegments p s).Accounted := by
  have hengines : (removeEngines p s).Accounted := h.after_removeEngine.after_removeEngine
  rcases removeSegments_cases p s with ⟨_, he⟩ | he <;> rw [he]
  · exact hengines
  · exact hengines.after_setReader

theorem State.Accounted.after_removeCard (h : s.Accounted) {p : Port} : (removeCard p s).Accounted := by
  have hwork : (workEnded p s).Accounted := h.after_abandonCard.after_rollBack.after_removeSegments
  have htake : (takeCard p (s.port p).job (workEnded p s)).Accounted := by
    obtain ⟨⟨_, _, _, _, _, _, hframe⟩, _⟩ := takeCard_spec p (s.port p).job (workEnded p s)
    rw [hframe]
    exact hwork.after_rest
  rw [removeCard_eq]
  exact htake.after_closeJobs.after_refresh

theorem State.Accounted.after_absenceExpired (h : s.Accounted) {p : Port} : (absenceExpired p s).Accounted := by
  unfold absenceExpired
  refine .after_if ?_ h
  split
  · exact h
  · exact h.after_setPort.after_refresh
  · exact h.after_removeCard

theorem State.Accounted.after_holdError (h : s.Accounted) {p : Port} : (holdError p s).Accounted := by
  unfold holdError
  split
  · split
    · exact h
    · exact h.after_setPort
  · exact h

theorem State.Accounted.after_endAbandoned (h : s.Accounted) {p : Port} : (endAbandoned p s).Accounted := by
  have hclear : (clearCard p s).Accounted := h.after_setPort
  unfold endAbandoned
  split
  · split
    · exact hclear.after_cardKick.after_closeJobs.after_refresh
    · exact h
  · exact h

theorem State.Accounted.after_cardTimedOut (h : s.Accounted) {p : Port} : (cardTimedOut p s).Accounted := by
  unfold cardTimedOut
  split
  · split
    · exact h.after_endAbandoned
    · exact h.after_holdError
  · exact h

theorem State.Accounted.after_startSurvey (h : s.Accounted) : (startSurvey s).Accounted := by
  unfold startSurvey
  split
  · exact State.Accounted.after_refresh (State.Accounted.after_cardKick (State.Accounted.after_setPort h.after_rest))
  · exact h

theorem State.Accounted.after_failSurvey (h : s.Accounted) {p : Port} {cause : SurveyCause} :
    (failSurvey p cause s).Accounted :=
  State.Accounted.after_refresh (State.Accounted.after_notify (State.Accounted.after_setPort h.after_rest))

theorem State.Accounted.after_surveyIdentified (h : s.Accounted) {answer : AdapterIdentity} :
    (surveyIdentified answer s).Accounted := by
  unfold surveyIdentified
  split
  next v _ =>
    have hclear : (clearCard v.port s).Accounted := h.after_setPort
    exact .after_if (.after_if hclear.after_failSurvey (.after_if hclear.after_failSurvey (State.Accounted.after_cardKick hclear.after_rest))) h
  · exact h

theorem State.Accounted.after_bindJob (h : s.Accounted) {i : Nat} {p : Port} : (bindJob i p s).Accounted :=
  h.after_modJob.after_setPort.after_setReader

theorem State.Accounted.after_completeSurvey (h : s.Accounted) {p : Port} {card : CardIdentity} :
    (completeSurvey p card s).Accounted := by
  have hidentified : (notify (.cardIdentified p card)
      (setPort { s with survey := none } p { s.port p with state := .identified, identity := some card })).Accounted :=
    State.Accounted.after_notify (State.Accounted.after_setPort h.after_rest)
  refine State.Accounted.after_refresh ?_
  split
  · exact hidentified.after_bindJob.after_notify
  · exact .after_if hidentified.after_notify hidentified

theorem State.Accounted.after_surveyRead (h : s.Accounted) {data : List Byte} : (surveyRead data s).Accounted := by
  unfold surveyRead
  split
  next v _ =>
    have hclear : (clearCard v.port s).Accounted := h.after_setPort
    split
    · exact .after_if hclear.after_completeSurvey h
    · exact h
  · exact h

theorem State.Accounted.after_surveyError (h : s.Accounted) {p : Port} : (surveyError p s).Accounted := by
  unfold surveyError
  split
  · exact .after_if (State.Accounted.after_cardKick h.after_rest) h.after_failSurvey
  · exact h

end

end Sys2Proof.Machine
end

section
/-! SUPPORT. The account of the slots, concluded: jobs, clips, destination ports, the line, the monitors, the readers, the resets, and,
command by command, that it is kept (R61, R62, R71). -/

namespace Sys2Proof.Machine

-- One theorem at a time: checking them all at once needs more threads than the sandbox gives.
set_option Elab.async false

open Sys2Proof

section
variable {s : State}

/-! ### Jobs (spec/03) -/

theorem State.Accounted.after_unbindPort (h : s.Accounted) {binding : Option Port} {st : PortState} :
    (unbindPort binding st s).Accounted := by
  obtain ⟨_, e⟩ := unbindPort_frame binding st s
  rw [e]
  exact h.after_rest

theorem State.Accounted.after_pauseEngine (h : s.Accounted) {i : Nat} {e : EngineIx} : (pauseEngine i s e).Accounted := by
  unfold pauseEngine
  split
  · exact .after_if h.after_giveUp h
  · exact h

theorem State.Accounted.after_abortDest (h : s.Accounted) {i : Nat} {d : Dest} : (abortDest i s d).Accounted := by
  obtain ⟨_, e | ⟨_, e⟩ | ⟨_, _, e⟩⟩ := abortDest_cases i d s <;> rw [e]
  · exact h.after_setDest
  · exact State.Accounted.after_modSlot h.after_setDest
  · exact State.Accounted.after_letGo h.after_setDest

/-- A chunk read of the aborted job ends, at once or with its request in flight (R76). -/
theorem State.Accounted.after_abortReader (h : s.Accounted) {i : Nat} {p : Port} : (abortReader i s p).Accounted := by
  unfold abortReader
  extract_lets _ s1
  have hchunk : s1.Accounted := by
    unfold s1
    split
    next c hc =>
      refine .after_if (.after_if ?_ (h.after_dropChunk hc)) h
      exact h.after_like (setReader_slotsLike (by simp [hc]))
    · exact h
  clear_value s1
  split
  · exact .after_if (.after_if hchunk.after_setReader hchunk.after_setReader.after_letGo) hchunk
  · exact hchunk

theorem State.Accounted.after_abortEngine (h : s.Accounted) {i : Nat} {e : EngineIx} : (abortEngine i s e).Accounted :=
  .after_if h.after_letGo h

theorem State.Accounted.after_abortSlots (h : s.Accounted) {i : Nat} : (abortSlots i s).Accounted := by
  have hstaged (x : Slot) : (x.unpended i).staged = x.staged := by
    unfold Slot.unpended
    split <;> rfl
  have hlike : SlotsLike s (unpend i s) := .mk (by simp [unpend, Function.comp_def, hstaged]) rfl fun _ => rfl
  rw [abortSlots_eq]
  exact (h.after_like hlike).after_foldl (fun _ _ hu => hu.after_freeIfDone) _

theorem State.Accounted.after_abortJob (h : s.Accounted) {i : Nat} {j : Job} : (abortJob i j s).Accounted := by
  have hrecords : (abortRecords i j s).Accounted := by
    obtain ⟨_, _, e⟩ := abortRecords_frame i j s
    rw [e]
    exact h.after_rest
  have hports : (abortPorts i (abortRecords i j s)).Accounted :=
    (hrecords.after_foldl (g := abortDest i) (fun _ _ hu => hu.after_abortDest) _).after_foldl (fun _ _ hu => hu.after_abortReader) _
  have htasks : (abortTasks i (abortPorts i (abortRecords i j s))).Accounted := hports.after_rest
  rw [abortJob_eq]
  exact (htasks.after_foldl (fun _ _ hu => hu.after_abortEngine) _).after_abortSlots.after_closeSeen.after_refresh

/-! ### The destination ports (spec/06) -/

theorem State.Accounted.after_destState (h : s.Accounted) {d : Dest} {st : DestState} {reason : DestReason} :
    (destState d st reason s).Accounted :=
  h.after_setDest.after_notify

theorem State.Accounted.after_startIdentify (h : s.Accounted) {d : Dest} {reason : DestReason} : (startIdentify d reason s).Accounted :=
  h.after_setDest.after_destState.after_bridgeKick

theorem State.Accounted.after_linkComesUp (h : s.Accounted) {d : Dest} : (linkComesUp d s).Accounted :=
  .after_if h h.after_setDest.after_startIdentify

theorem State.Accounted.after_linkGoesDown (h : s.Accounted) {d : Dest} : (linkGoesDown d s).Accounted :=
  .after_if (.after_if h.after_setDest.after_loseDest.after_setDest h.after_setDest.after_setDest.after_destState) h

theorem State.Accounted.after_identifyAnswered (h : s.Accounted) {d : Dest} {answer : Option DestIdentity} :
    (identifyAnswered d answer s).Accounted := by
  have hclear : (clearBridge d s).Accounted := h.after_setDest
  unfold identifyAnswered
  refine .after_if ?_ h
  dsimp only
  split
  · exact hclear.after_setDest.after_destState
  · exact hclear.after_destState

theorem State.Accounted.after_attach (h : s.Accounted) {d : Dest} : (attach d s).Accounted :=
  h.after_setDest.after_setMonitor.after_destState.after_refresh

theorem State.Accounted.after_decideOp (h : s.Accounted) {d : Dest} : (decideOp d s).Accounted := by
  have hflush : (startFlush d s).Accounted := h.after_setDest.after_bridgeKick
  have hwrite (n : Nat) (rest : List Nat) : (startWrite d n rest s).Accounted := h.after_setDest.after_modSlot.after_bridgeKick
  have hsegment (e : EngineIx) (rest : List EngineIx) : (startDestSegment d e rest s).Accounted :=
    h.after_setEngine.after_setDest.after_bridgeKick
  have hchoose : (chooseOp d s).Accounted := by
    unfold chooseOp
    split
    · exact hwrite _ _
    · exact hsegment _ _
    · exact .after_if (hsegment _ _) (hwrite _ _)
    · exact h
  exact .after_if (.after_if hflush hchoose) h

theorem State.Accounted.after_countChunk (h : s.Accounted) {c : Nat} {d : Dest} : (countChunk c d s).Accounted := by
  unfold countChunk
  split
  · exact .after_if (.after_if h.after_setClip (.after_if h.after_setClip.after_failCopy (State.Accounted.after_setDest h.after_setClip))) h
  · exact h

theorem State.Accounted.after_finishWrite (h : s.Accounted) {d : Dest} {n : Nat} : (finishWrite d n s).Accounted :=
  (h.after_setDest.after_foldl (fun _ _ hu => hu.after_countChunk) _).after_modSlot.after_freeIfDone.after_closeSeen.after_refresh

theorem State.Accounted.after_endAbortedWrite (h : s.Accounted) {d : Dest} {n : Nat} : (endAbortedWrite d n s).Accounted :=
  h.after_setDest.after_modSlot.after_freeIfDone.after_closeSeen.after_refresh

theorem State.Accounted.after_writeAnswered (h : s.Accounted) {d : Dest} : (writeAnswered d s).Accounted := by
  unfold writeAnswered
  split
  · exact .after_if h.after_setDest.after_endAbortedWrite (.after_if h.after_setDest.after_bridgeKick h.after_setDest.after_finishWrite)
  · exact h

theorem State.Accounted.after_failPort (h : s.Accounted) {d : Dest} {reason : DestReason} : (failPort d reason s).Accounted :=
  h.after_setDest.after_loseDest

theorem State.Accounted.after_failWrite (h : s.Accounted) {d : Dest} {n : Nat} : (failWrite d n s).Accounted :=
  (h.after_foldl (fun _ _ hu => .after_if hu.after_failCopy hu) _).after_failPort.after_tellAll

theorem State.Accounted.after_noteError (h : s.Accounted) {d : Dest} {ask : BridgeAsk} {timedOut : Bool} :
    (noteError d ask timedOut s).Accounted :=
  h.after_setDest

theorem State.Accounted.after_writeError (h : s.Accounted) {d : Dest} {timedOut : Bool} : (writeError d timedOut s).Accounted := by
  unfold writeError
  split
  · exact .after_if h.after_noteError.after_endAbortedWrite (.after_if h.after_noteError.after_failWrite h.after_noteError.after_bridgeSend)
  · exact h

theorem State.Accounted.after_flushAnswered (h : s.Accounted) {d : Dest} : (flushAnswered d s).Accounted := by
  have hcopy (c : Nat) {t : State} (ht : t.Accounted) : (flushCopy d t c).Accounted := .after_if (State.Accounted.after_rest ht.after_modClip) ht
  unfold flushAnswered
  split
  · exact (h.after_setDest.after_foldl (fun _ c hu => hcopy c hu) _).after_closeJobs.after_refresh
  · exact h

theorem State.Accounted.after_flushError (h : s.Accounted) {d : Dest} {timedOut : Bool} : (flushError d timedOut s).Accounted := by
  unfold flushError
  split
  · exact .after_if h.after_noteError.after_failPort h.after_noteError.after_bridgeSend
  · exact h

theorem State.Accounted.after_endDestSegment (h : s.Accounted) {d : Dest} {g : Segment} {ok : Bool} : (endDestSegment d g ok s).Accounted :=
  (State.Accounted.after_if h.after_setDest.after_segmentComplete h.after_setDest.after_segmentFailed).after_refresh

theorem State.Accounted.after_readAnswered (h : s.Accounted) {d : Dest} {data : List Byte} : (readAnswered d data s).Accounted := by
  have hclear : (clearBridge d s).Accounted := h.after_setDest
  unfold readAnswered
  split
  · exact .after_if hclear.after_endDestSegment
      (.after_if hclear.after_foldSegment.after_setDest.after_bridgeKick hclear.after_foldSegment.after_endDestSegment)
  · exact h

theorem State.Accounted.after_readError (h : s.Accounted) {d : Dest} {timedOut : Bool} : (readError d timedOut s).Accounted := by
  unfold readError
  split
  · exact .after_if h.after_noteError.after_endDestSegment h.after_noteError.after_bridgeSend
  · exact h

theorem State.Accounted.after_endAbandonedBridge (h : s.Accounted) {d : Dest} : (endAbandonedBridge d s).Accounted :=
  .after_if (State.Accounted.after_bridgeKick h.after_setDest) h

theorem State.Accounted.after_bridgeTimedOut (h : s.Accounted) {d : Dest} : (bridgeTimedOut d s).Accounted := by
  have hidentify : (identifyTimedOut d s).Accounted := .after_if h.after_noteError.after_destState h
  unfold bridgeTimedOut
  split
  · refine .after_if h.after_endAbandonedBridge ?_
    split
    · exact hidentify
    · exact h.after_writeError
    · exact h.after_flushError
    · exact h.after_readError
  · exact h

/-! ### The line, the monitors and the Pace Timer (spec/01, spec/09, spec/10) -/

theorem State.Accounted.after_discardFrame (h : s.Accounted) {flags : LinkFlags} {cause : LinkCause} : (discardFrame flags cause s).Accounted :=
  State.Accounted.after_notify h.after_rest

theorem State.Accounted.after_takeField (h : s.Accounted) {bytes : List Byte} : (takeField bytes s).Accounted := by
  have hoffer (f : Frame) : (offerFrame f s).Accounted := .after_if h.after_rest h.after_discardFrame
  unfold takeField
  exact .after_if h.after_rest (.after_if h.after_discardFrame (.after_if h.after_rest (.after_if (hoffer _) h.after_discardFrame)))

theorem State.Accounted.after_receive (h : s.Accounted) {bits : Byte} {parityBit stopBit : Bool} :
    (receive bits parityBit stopBit s).Accounted := by
  unfold receive
  split
  · exact .after_if h.after_rest h
  · exact .after_if h.after_discardFrame (.after_if h.after_discardFrame h.after_takeField)

theorem State.Accounted.after_gapExpired (h : s.Accounted) : (gapExpired s).Accounted := by
  unfold gapExpired
  split
  · exact h.after_discardFrame
  · exact h

theorem State.Accounted.after_refuseUnknown (h : s.Accounted) : (refuseUnknown s).Accounted := by
  unfold refuseUnknown
  refine .after_if ?_ h
  split
  · exact .after_if h (State.Accounted.after_sendFrame h.after_rest)
  · exact h

theorem State.Accounted.after_windowExpires (h : s.Accounted) {before : DestSet} : (windowExpires before s).Accounted := by
  have hmonitors (who : DestSet) {t : State} (ht : t.Accounted) : (monitorsExpire who t).Accounted := ht.after_rest
  have hoffer {t : State} (ht : t.Accounted) : (offerReport t).Accounted := .after_if (State.Accounted.after_notify ht.after_rest) ht.after_notify
  have hreporter {t : State} (ht : t.Accounted) : (reporterExpires t).Accounted :=
    .after_if ht.after_rest (.after_if (hoffer ht.after_rest) ht.after_rest)
  exact State.Accounted.after_refresh (hmonitors _ (hreporter (hmonitors _ h.after_rest)))

/-! ### The slot allocator, chunk reads and segments (spec/04) -/

/-- The head of the free-slot list becomes FILLING for the reader it is granted to (R66, R71). -/
theorem State.Accounted.after_startChunk (h : s.Accounted) {n : Nat} {rest : List Nat} (hfree : s.freeSlots = n :: rest) {p : Port} {i : Nat}
    {j : Job} {nc : NextChunk} {k : Clip} : (startChunk n p i j nc k { s with freeSlots := rest }).Accounted := by
  unfold startChunk
  extract_lets k1 count s1 s2 _ s3
  have hgranted : (setReader s1 p _).Accounted := h.after_granted hfree (p := p) (x := ⟨false, i, nc.clip, k1.nextBlock, count, 0, nc.recopy, 0⟩)
    (r := { s2.reader p with
      chunk := some ⟨n, nc.clip, i, k1.nextBlock, count, 0, nc.recopy, k1.acc, false⟩, retries := 0, turn := .segment }) rfl (by simp)
  exact State.Accounted.after_refresh (State.Accounted.after_cardKick hgranted.after_rest)

theorem State.Accounted.after_grant (h : s.Accounted) : (grant s).Accounted := by
  unfold grant
  split
  next hfree _ =>
    split
    · split
      · split
        · split
          · exact h.after_startChunk hfree
          · exact h
        · exact h
      · exact h
    · exact h
  · exact h

theorem State.Accounted.after_endCancelled (h : s.Accounted) {p : Port} {c : ChunkRead} (hc : (s.reader p).chunk = some c) :
    (endCancelled p c s).Accounted :=
  (h.after_dropChunk hc).after_cardKick.after_closeJobs.after_refresh

theorem State.Accounted.after_advance (h : s.Accounted) {c : ChunkRead} : (advance c s).Accounted := by
  unfold advance
  split
  · exact .after_if (.after_if (State.Accounted.after_leaveRecopyList h.after_setClip) h.after_setClip) h.after_setClip
  · exact h

/-- The slot of the chunk read that is staged is vacant while its copies on lost destinations fail, and is then placed or freed (R77, R82). -/
theorem State.Accounted.after_stage (h : s.Accounted) {p : Port} {c b : ChunkRead} (hb : (s.reader p).chunk = some b)
    (hslot : b.slot = c.slot) : (stage p c s).Accounted := by
  unfold stage
  split
  next k j _ _ =>
    extract_lets set _ s1 s2 s3
    have hfailed : SlotsLike s1 s2 := SlotsLike.foldl (g := fun t d => failCopy c.clip d .failed .destLost t)
      (fun t d => failCopy_slotsLike c.clip d .failed .destLost t) _ _
    have hs2 : s2.Accounted := (h.after_endRead rfl).after_like hfailed
    have hvacant : s2.Vacant c.slot := hfailed.vacant (hslot ▸ h.vacated hb rfl)
    have hs3 : s3.Accounted := .after_if (hs2.after_freeSlot hvacant.1.mem_keys hvacant.2) (hs2.after_placeSlot hvacant).after_advance
    exact hs3.after_closeSeen.after_refresh
  · exact h

theorem State.Accounted.after_chunkProgress (h : s.Accounted) {p : Port} {c : ChunkRead} {count : Nat} {data : List Byte}
    (hc : (s.reader p).chunk = some c) : (chunkProgress p c count data s).Accounted := by
  unfold chunkProgress
  extract_lets acc s1 c1 x
  have hs1 : s1.Accounted := h.after_rest
  have hchunk : (s1.reader p).chunk = some c := hc
  have hslot : c.slot = c1.slot := rfl
  clear_value s1 c1
  split
  · exact (hs1.after_like (setReader_slotsLike (by simp [hchunk, hslot]))).after_cardKick
  · exact hs1.after_stage hchunk hslot

theorem State.Accounted.after_chunkAnswered (h : s.Accounted) {p : Port} {data : List Byte} {waitMs : Nat} :
    (chunkAnswered p data waitMs s).Accounted := by
  unfold chunkAnswered
  split
  next count _ c _ hc =>
    extract_lets s1 _ s2
    have hs1 : s1.Accounted := State.Accounted.after_setPort h.after_rest
    have hs2 : s2.Accounted := hs1.after_setReader
    have hchunk : (s2.reader p).chunk = some c := by
      simp only [s2, setReader_reader_self]
      exact hc
    exact .after_if (hs2.after_endCancelled hchunk) (hs2.after_chunkProgress hchunk)
  · exact h

theorem State.Accounted.after_failChunk (h : s.Accounted) {p : Port} {c : ChunkRead} (hc : (s.reader p).chunk = some c) :
    (failChunk p c s).Accounted := by
  have htold : (tellReadError c (dropChunk p c s)).Accounted := by
    unfold tellReadError
    split
    · exact (h.after_dropChunk hc).after_notify
    · exact h.after_dropChunk hc
  have hcopies (set : DestSet) {t : State} (ht : t.Accounted) : (failPending c.clip set t).Accounted :=
    ht.after_foldl (fun _ _ hu => .after_if hu.after_failCopy hu) _
  exact (State.Accounted.after_if (hcopies _ htold).after_modClip.after_leaveRecopyList
    (hcopies _ htold.after_modClip)).after_cardKick.after_closeJobs.after_refresh

theorem State.Accounted.after_chunkError (h : s.Accounted) {p : Port} {c : ChunkRead} (hc : (s.reader p).chunk = some c) :
    (chunkError p c s).Accounted :=
  .after_if (h.after_endCancelled hc) (.after_if h.after_setReader.after_cardKick (h.after_failChunk hc))

theorem State.Accounted.after_arbitrate (h : s.Accounted) {p : Port} {first : Bool} : (arbitrate p first s).Accounted := by
  rcases arbitrate_cases s p first with he | ⟨e, rest, _, _, _, _, he⟩ <;> rw [he]
  · exact h
  · exact h.after_setEngine.after_setReader.after_cardKick.after_refresh

theorem State.Accounted.after_endSegment (h : s.Accounted) {p : Port} {g : Segment} {ok : Bool} : (endSegment p g ok s).Accounted :=
  (State.Accounted.after_if h.after_setReader.after_cardKick.after_segmentComplete
    h.after_setReader.after_cardKick.after_segmentFailed).after_refresh

theorem State.Accounted.after_segmentAnswered (h : s.Accounted) {p : Port} {data : List Byte} : (segmentAnswered p data s).Accounted := by
  have hclear : (clearCard p s).Accounted := h.after_setPort
  unfold segmentAnswered
  split
  · exact .after_if hclear.after_endSegment
      (.after_if hclear.after_foldSegment.after_setReader.after_cardKick hclear.after_foldSegment.after_endSegment)
  · exact h

theorem State.Accounted.after_confirmError (h : s.Accounted) {p : Port} : (confirmError p s).Accounted := by
  have hdeliver (owner : CardOwner) {t : State} (ht : t.Accounted) : (deliverError p owner t).Accounted := by
    unfold deliverError
    split
    · exact ht.after_surveyError
    · split
      next c hc => exact ht.after_chunkError hc
      · exact ht
    · split
      · exact .after_if ht.after_endSegment (.after_if ht.after_setReader.after_cardKick ht.after_endSegment)
      · exact ht
    · exact ht
  unfold confirmError
  split
  · exact .after_if (hdeliver _ h.after_setPort) h
  · exact h

/-! ### The answers to the host's requests -/

/-- The owner's answer to a request keeps the account. -/
def AccountedOwner {α : Type} (owner : α → State → Reply × State) : Prop := ∀ a s, s.Accounted → (owner a s).2.Accounted

theorem accounted_withJob (h : s.Accounted) {i : Nat} {owner : Job → Reply × State} (hown : ∀ j, (owner j).2.Accounted) :
    (withJob i s owner).2.Accounted := by
  unfold withJob
  split
  · exact hown _
  · exact h

theorem accounted_withClip (h : s.Accounted) {c : Nat} {owner : Clip → Job → Reply × State} (hown : ∀ k j, (owner k j).2.Accounted) :
    (withClip c s owner).2.Accounted := by
  unfold withClip
  split
  · split
    · exact hown _ _
    · exact h
  · exact h

/-- One check of a request: refused, the state stays. -/
theorem State.Accounted.checked (h : s.Accounted) {c : Prop} [Decidable c] {x : Reply} {y : Reply × State} (k : y.2.Accounted) :
    (if c then (x, s) else y).2.Accounted := by
  split
  · exact h
  · exact k

theorem cardSurvey_accounted : AccountedOwner cardSurvey := by
  intro n s h
  unfold cardSurvey
  split
  · exact h
  · split
    case h_6 | h_7 | h_8 => exact h.after_joinSurvey
    all_goals exact h

theorem jobOpen_accounted : AccountedOwner jobOpen := by
  intro a s h
  unfold jobOpen
  split
  · exact h
  · refine h.checked (h.checked (h.checked ?_))
    split
    · exact h
    · refine h.checked ?_
      split
      · exact h
      · have hbound {i : Nat} {j : Job} {p : Port} : (bindJob i p (setJob s i j)).Accounted := h.after_setJob.after_bindJob
        exact State.Accounted.after_refresh hbound.after_rest

theorem jobFinal_accounted : AccountedOwner jobFinal := fun _ _ h =>
  accounted_withJob h fun _ => h.checked (h.checked (h.checked h.after_setJob.after_closeJobs.after_refresh))

theorem jobPause_accounted : AccountedOwner jobPause := fun _ _ h =>
  accounted_withJob h fun _ => h.checked (h.checked
    (h.after_setJob.after_foldl (fun _ _ hu => hu.after_pauseEngine) [1, 0]).after_closeJobs.after_refresh)

theorem jobResume_accounted : AccountedOwner jobResume := fun _ _ h =>
  accounted_withJob h fun _ => h.checked h.after_setJob.after_refresh

theorem jobAbort_accounted : AccountedOwner jobAbort := fun _ _ h => accounted_withJob h fun _ => h.checked h.after_abortJob

theorem cardRelease_accounted : AccountedOwner cardRelease := fun _ _ h =>
  accounted_withJob h fun _ => h.checked (h.checked
    (State.Accounted.after_unbindPort h.after_rest).after_setJob.after_closeJobs.after_refresh)

theorem clipBegin_accounted : AccountedOwner clipBegin := fun _ _ h =>
  accounted_withJob h fun _ => h.checked (h.checked (by
    split
    · exact h
    · exact h.after_setClip))

theorem extentsAdd_accounted : AccountedOwner extentsAdd := fun _ _ h =>
  accounted_withClip h fun _ _ => h.checked (by
    split
    · exact h
    · exact h.checked (h.checked (h.checked (h.checked h.after_setClip))))

theorem clipCommit_accounted : AccountedOwner clipCommit := fun _ _ h =>
  accounted_withClip h fun _ _ => h.checked (h.checked h.after_setClip.after_setJob.after_evalJob.after_refresh)

theorem clipCancel_accounted : AccountedOwner clipCancel := fun _ _ h => accounted_withClip h fun _ _ => h.checked h.after_rest

theorem clipRecopy_accounted : AccountedOwner clipRecopy := fun _ _ h =>
  accounted_withClip h fun _ _ => by
    split
    · exact h
    · exact h.checked (h.checked (h.checked (h.checked (h.checked (h.checked (h.checked
        h.after_setClip.after_setJob.after_evalJob.after_refresh))))))

theorem clipReverify_accounted : AccountedOwner clipReverify := fun _ s h => by
  have hreverify (c : Nat) (k : Clip) (t : Target) : (reverify c k t s).Accounted := by
    have hclip : (setClip s c (k.reverified t)).Accounted := h.after_setClip
    exact State.Accounted.after_refresh (State.Accounted.after_evalJob hclip.after_rest)
  refine accounted_withClip h fun k j => ?_
  split
  · exact h
  · refine h.checked ?_
    split
    · exact h.checked (h.checked (h.checked (hreverify _ _ _)))
    · exact h.checked (h.checked (hreverify _ _ _))

theorem destAttach_accounted : AccountedOwner destAttach := by
  intro n s h
  unfold destAttach
  split
  · exact h
  · split
    · exact h.after_attach
    · exact h.after_startIdentify
    all_goals exact h

theorem destDetach_accounted : AccountedOwner destDetach := by
  intro a s h
  unfold destDetach
  split
  · exact h
  · refine h.checked (h.checked ?_)
    split
    · exact h.after_loseDest
    · exact h.checked h.after_destState.after_refresh

theorem destQuery_accounted : AccountedOwner destQuery := by
  intro n s h
  unfold destQuery
  split <;> exact h

theorem monitorSet_accounted : AccountedOwner monitorSet := by
  intro a s h
  unfold monitorSet
  split
  · exact h
  · exact h.checked h.after_setMonitor.after_dropHolds.after_refresh

theorem holdResume_accounted : AccountedOwner holdResume := by
  intro n s h
  unfold holdResume
  split
  · exact h
  · exact h.after_dropHolds.after_refresh

theorem configSet_accounted : AccountedOwner configSet := fun _ _ h => h.checked h.after_rest

/-! ### The resets (R1, R13, R62) -/

/-- With every slot free and no chunk read in flight the account holds (R62). -/
theorem accounted_of_free (hslots : s.slots = []) (hfree : s.freeSlots = allSlots) (hreaders : ∀ p, (s.reader p).chunk = none) :
    s.Accounted := by
  refine ⟨by rw [hslots]; exact .nil, by rw [hslots, hfree, List.map_nil, List.append_nil], fun p c hc => ?_, fun p q _ c hc => ?_⟩ <;>
    simp [hreaders p] at hc

theorem hardResetState_accounted (rateHigh : Bool) : (hardResetState rateHigh s).Accounted :=
  accounted_of_free rfl rfl fun p => by simp [hardResetState, State.reset, State.reader, Reader.reset]

theorem softResetState_accounted : (softResetState s).Accounted := by
  have hbase : (softBase s).Accounted :=
    accounted_of_free rfl rfl fun p => by simp [softBase, State.reset, State.reader, Reader.reset]
  rw [softResetState_eq]
  exact (hbase.after_foldl (g := fun t d => bridgeKick d t) (fun _ _ hu => hu.after_bridgeKick) _).after_refresh

theorem State.Accounted.after_frameEnds (h : s.Accounted) : (frameEnds s).Accounted := by
  unfold frameEnds
  split
  · exact .after_if softResetState_accounted (State.Accounted.after_pump h.after_rest)
  · exact h

/-! ### Command by command -/

/-- A request's command does what its owner does. -/
theorem State.Accounted.after_serve (h : s.Accounted) {α : Type} {kind : Byte} {fields : List Byte → Option α}
    {owner : α → State → Reply × State} (hown : AccountedOwner owner) : (serve kind fields owner s).Accounted := by
  refine serve_induction h fun f rest r u _ hu => State.Accounted.after_sendFrame ?_
  have htaken : (s.taken f rest).Accounted := h.after_rest
  rcases hu with rfl | ⟨a, rfl⟩
  · exact htaken
  · exact hown a _ htaken

theorem State.Accounted.after_awake (h : s.Accounted) {f : State → State} (hf : (f s).Accounted) : (awake f s).Accounted := .after_if h hf

theorem exec_accounted (i : Instr) (h : s.Accounted) : Completes (fun _ t => t.Accounted) i s := by
  cases i with
  | hardReset => exact ⟨_, rfl, hardResetState_accounted _⟩
  | softReset => exact ⟨_, rfl, .after_if softResetState_accounted h⟩
  | frameSendEnd => exact ⟨_, rfl, h.after_awake h.after_frameEnds⟩
  | resetHeldLow => exact ⟨_, rfl, h.after_rest⟩
  | rxByte => exact ⟨_, rfl, h.after_awake h.after_receive⟩
  | interbyteGapTimeout => exact ⟨_, rfl, h.after_awake h.after_gapExpired⟩
  | unknownRequest => exact ⟨_, rfl, h.after_refuseUnknown⟩
  | identify => exact ⟨_, rfl, h.after_serve fun _ _ hu => hu⟩
  | statusGet => exact ⟨_, rfl, h.after_serve fun _ _ hu => hu.after_rest⟩
  | configSet => exact ⟨_, rfl, h.after_serve configSet_accounted⟩
  | flagsClear => exact ⟨_, rfl, h.after_serve fun _ _ hu => hu.after_rest⟩
  | deviceReset => exact ⟨_, rfl, h.after_serve fun _ _ hu => hu.after_rest⟩
  | cardSurvey => exact ⟨_, rfl, h.after_serve cardSurvey_accounted⟩
  | jobOpen => exact ⟨_, rfl, h.after_serve jobOpen_accounted⟩
  | jobFinal => exact ⟨_, rfl, h.after_serve jobFinal_accounted⟩
  | jobPause => exact ⟨_, rfl, h.after_serve jobPause_accounted⟩
  | jobResume => exact ⟨_, rfl, h.after_serve jobResume_accounted⟩
  | jobAbort => exact ⟨_, rfl, h.after_serve jobAbort_accounted⟩
  | jobQuery => exact ⟨_, rfl, h.after_serve fun _ _ hu => accounted_withJob hu fun _ => hu⟩
  | cardRelease => exact ⟨_, rfl, h.after_serve cardRelease_accounted⟩
  | clipBegin => exact ⟨_, rfl, h.after_serve clipBegin_accounted⟩
  | extentsAdd => exact ⟨_, rfl, h.after_serve extentsAdd_accounted⟩
  | clipCommit => exact ⟨_, rfl, h.after_serve clipCommit_accounted⟩
  | clipCancel => exact ⟨_, rfl, h.after_serve clipCancel_accounted⟩
  | clipQuery => exact ⟨_, rfl, h.after_serve fun _ _ hu => accounted_withClip hu fun _ _ => hu⟩
  | clipRecopy => exact ⟨_, rfl, h.after_serve clipRecopy_accounted⟩
  | clipReverify => exact ⟨_, rfl, h.after_serve clipReverify_accounted⟩
  | destAttach => exact ⟨_, rfl, h.after_serve destAttach_accounted⟩
  | destDetach => exact ⟨_, rfl, h.after_serve destDetach_accounted⟩
  | destQuery => exact ⟨_, rfl, h.after_serve destQuery_accounted⟩
  | monitorSet => exact ⟨_, rfl, h.after_serve monitorSet_accounted⟩
  | holdResume => exact ⟨_, rfl, h.after_serve holdResume_accounted⟩
  | knownListQuery => exact ⟨_, rfl, h.after_serve fun _ _ hu => hu⟩
  | knownListClear => exact ⟨_, rfl, h.after_serve fun _ _ hu => hu.after_rest⟩
  | presenceAppear => exact ⟨_, rfl, .after_if h.after_setPort (.after_if h h.after_setPort)⟩
  | presenceDrop => exact ⟨_, rfl, .after_if h.after_setPort (.after_if h.after_setPort h)⟩
  | settleTimerExpiry => exact ⟨_, rfl, h.after_awake h.after_settled⟩
  | cardRemoval => exact ⟨_, rfl, h.after_awake h.after_absenceExpired⟩
  | adapterErrorAnswer => exact ⟨_, rfl, h.after_awake h.after_holdError⟩
  | cardRequestTimeout => exact ⟨_, rfl, h.after_awake h.after_cardTimedOut⟩
  | errorConfirm => exact ⟨_, rfl, h.after_awake h.after_confirmError⟩
  | cardAbandonedAnswer => exact ⟨_, rfl, h.after_awake h.after_endAbandoned⟩
  | lampBlinkToggle => exact ⟨_, rfl, h.after_awake (.after_if h.after_setPort h)⟩
  | surveyStart => exact ⟨_, rfl, h.after_awake h.after_startSurvey⟩
  | surveyIdentifyAnswer => exact ⟨_, rfl, h.after_awake h.after_surveyIdentified⟩
  | surveyReadDone => exact ⟨_, rfl, h.after_awake h.after_surveyRead⟩
  | slotGrant => exact ⟨_, rfl, h.after_awake h.after_grant⟩
  | chunkRequestDone => exact ⟨_, rfl, h.after_awake h.after_chunkAnswered⟩
  | sourceSegmentStart => exact ⟨_, rfl, h.after_awake h.after_arbitrate⟩
  | sourceSegmentRequestDone => exact ⟨_, rfl, h.after_awake h.after_segmentAnswered⟩
  | destLinkUp => exact ⟨_, rfl, .after_if h.after_setDest h.after_linkComesUp⟩
  | destLinkDown => exact ⟨_, rfl, .after_if h.after_setDest h.after_linkGoesDown⟩
  | destIdentifyAnswer => exact ⟨_, rfl, h.after_awake h.after_identifyAnswered⟩
  | destRequestTimeout => exact ⟨_, rfl, h.after_awake h.after_bridgeTimedOut⟩
  | bridgeAbandonedAnswer => exact ⟨_, rfl, h.after_awake h.after_endAbandonedBridge⟩
  | destArbiterDecide => exact ⟨_, rfl, h.after_awake h.after_decideOp⟩
  | destWriteOk => exact ⟨_, rfl, h.after_awake h.after_writeAnswered⟩
  | destWriteError => exact ⟨_, rfl, h.after_awake h.after_writeError⟩
  | destFlushOk => exact ⟨_, rfl, h.after_awake h.after_flushAnswered⟩
  | destFlushError => exact ⟨_, rfl, h.after_awake h.after_flushError⟩
  | destReadOk => exact ⟨_, rfl, h.after_awake h.after_readAnswered⟩
  | destReadError => exact ⟨_, rfl, h.after_awake h.after_readError⟩
  | engineTakeTask => exact ⟨_, rfl, h.after_awake h.after_takeNext⟩
  | paceTimerExpiry => exact ⟨_, rfl, h.after_awake h.after_windowExpires⟩

end

/-- Settles O54: the account is a rule of every shared operation, and so of every command; a reset frees every slot. -/
theorem everyCommandKeepsSlotsAccounted : Obligations.EveryCommandKeepsSlotsAccounted := by
  intro i s t he hs
  exact accounted_iff.mp ((exec_accounted i (accounted_iff.mpr hs)).of_next he)

end Sys2Proof.Machine
end

section
/-! SUPPORT. Choosing the next chunk (R70), the start condition of a reader (R69), and the grant of a slot (R66, R68, R71, R81). -/

namespace Sys2Proof.Machine

-- One theorem at a time: checking them all at once needs more threads than the sandbox gives.
set_option Elab.async false

open Sys2Proof

section
variable {s : State} {j : Job} {p : Port}

/-! ### The next chunk (R70) -/

theorem firstReading_eq_some {c : Nat} :
    firstReading s j = some c ↔
      ∃ i < j.cursor, j.order[i]? = some c ∧ clipRead s c = false ∧ ∀ i' < i, ∀ c' ∈ j.order[i']?, clipRead s c' = true := by
  simp only [firstReading, List.find?_eq_some_iff_getElem, List.getElem_take, List.length_take, Bool.not_eq_true',
    Bool.not_not]
  constructor
  · rintro ⟨hread, i, hi, rfl, hbefore⟩
    refine ⟨i, by omega, List.getElem?_eq_getElem _, hread, fun i' hi' c' hc' => ?_⟩
    obtain ⟨_, rfl⟩ := List.getElem?_eq_some_iff.mp hc'
    exact hbefore i' hi'
  · rintro ⟨i, hi, hc, hread, hbefore⟩
    obtain ⟨hlen, rfl⟩ := List.getElem?_eq_some_iff.mp hc
    exact ⟨hread, i, by omega, rfl, fun i' hi' => hbefore i' hi' _ (List.getElem?_eq_getElem (by omega))⟩

theorem firstReading_eq_none : firstReading s j = none ↔ ∀ i < j.cursor, ∀ c ∈ j.order[i]?, clipRead s c = true := by
  simp only [firstReading, List.find?_eq_none, Bool.not_eq_true', Bool.not_eq_false, List.mem_take_iff_getElem]
  constructor
  · intro h i hi c hc
    obtain ⟨hlen, rfl⟩ := List.getElem?_eq_some_iff.mp hc
    exact h _ ⟨i, by omega, rfl⟩
  · rintro h c ⟨i, hi, rfl⟩
    exact h i (by omega) _ (List.getElem?_eq_getElem (by omega))

/-- The next chunk is the recopy list's head's, else the first reading's, else the one that begins the clip at the read cursor (R70). -/
theorem nextChunk_eq_some {c : Nat} {recopy starts : Bool} :
    nextChunk s j = some ⟨c, recopy, starts⟩ ↔
      (j.recopy.head? = some c ∧ recopy = true ∧ starts = false) ∨
      (j.recopy = [] ∧ recopy = false ∧
        ((starts = false ∧ ∃ i < j.cursor, j.order[i]? = some c ∧ clipRead s c = false ∧
            ∀ i' < i, ∀ c' ∈ j.order[i']?, clipRead s c' = true) ∨
          (starts = true ∧ j.order[j.cursor]? = some c ∧ ∀ i < j.cursor, ∀ c' ∈ j.order[i]?, clipRead s c' = true))) := by
  rw [← firstReading_eq_some, ← firstReading_eq_none]
  unfold nextChunk
  cases hrecopy : j.recopy with
  | cons c' rest => simp [eq_comm]
  | nil =>
    cases hfirst : firstReading s j with
    | some c' => simp [eq_comm, and_comm, and_assoc]
    | none => cases horder : j.order[j.cursor]? <;> simp [eq_comm, and_comm, and_assoc]

/-! ### The start condition (R65, R69) -/

theorem usable_iff {d : Dest} :
    usable s j d = true ↔ (s.dest d).state = .online ∧ ∃ id, (s.dest d).identity = some id ∧ j.destId d = some id := by
  simp only [usable, Bool.and_eq_true, decide_eq_true_eq, and_assoc, Option.isSome_iff_exists]
  constructor
  · rintro ⟨hst, ⟨id, hid⟩, hsame⟩
    exact ⟨hst, id, hid, hsame ▸ hid⟩
  · rintro ⟨hst, id, hid, hjob⟩
    exact ⟨hst, ⟨id, hid⟩, hid.trans hjob.symm⟩

theorem not_held_iff : j.held = false ↔ j.softHold = 0 ∧ j.hardHold = 0 := by simp [Job.held]

theorem mem_targetSet {c : Nat} {recopy starts : Bool} {d : Dest} :
    dmem (targetSet s j ⟨c, recopy, starts⟩) d = true ↔
      if recopy then ∃ k, s.clip c = some k ∧ k.recopySet.getLsbD d.val = true else j.destSet.getLsbD d.val = true := by
  cases recopy <;> cases hk : s.clip c <;> simp [targetSet, dmem, hk]

theorem portFree_iff :
    portFree s p = true ↔ (s.port p).request = none ∧ (s.reader p).chunk = none ∧ (s.reader p).segment = none := by
  simp [portFree, and_assoc]

theorem mem_allDests (d : Dest) : d ∈ allDests := by
  fin_cases d <;> decide

/-- Items 5 and 6 of R69 apart, the start condition of a job's reader. -/
theorem startCondition_iff :
    startCondition s p = true ↔
      ∃ h j, (s.port p).job = some h ∧ s.job h = some j ∧ (s.port p).state = .bound ∧ j.state = .reading ∧ j.paused = false ∧
        j.held = false ∧ (∃ n d, nextChunk s j = some n ∧ dmem (targetSet s j n) d = true ∧ usable s j d = true) ∧
        slotsHeld s h < j.quota ∧ portFree s p = true := by
  unfold startCondition
  cases hjob : (s.port p).job with
  | none => simp
  | some h =>
    cases hj : s.job h with
    | none => simp [hj]
    | some j =>
      have hnext : ((nextChunk s j).any fun n => allDests.any fun d => dmem (targetSet s j n) d && usable s j d) = true ↔
          ∃ n d, nextChunk s j = some n ∧ dmem (targetSet s j n) d = true ∧ usable s j d = true := by
        cases nextChunk s j <;> simp only [Option.any_none, Option.any_some, List.any_eq_true, mem_allDests, true_and, Bool.and_eq_true] <;> simp
      simp only [Bool.and_eq_true, decide_eq_true_eq, Bool.not_eq_true', hnext, and_assoc, Option.some.injEq, hj]
      constructor
      · exact fun hmet => ⟨h, j, rfl, hj, hmet⟩
      · rintro ⟨_, j', rfl, hj', hmet⟩
        obtain rfl := Option.some.inj (hj.symm.trans hj')
        exact hmet

end

/-- Settles O35: `refresh` takes the waiting set from `startCondition`, whose items are those of `startCondition_iff`. -/
theorem readerWaitsOnItsStartCondition : Obligations.ReaderWaitsOnItsStartCondition := by
  intro s p
  refine ⟨by rw [refresh_reader], ?_⟩
  rw [startCondition_iff]
  refine exists_congr fun h => exists_congr fun j => ?_
  constructor
  · rintro ⟨hjob, hj, hbound, hreading, hpaused, hheld, ⟨⟨c, recopy, starts⟩, d, hnext, hmem, husable⟩, hslots, hfree⟩
    obtain ⟨honline, id, hid, hjid⟩ := usable_iff.mp husable
    refine ⟨⟨hbound, hjob, hj⟩, ⟨hreading, hpaused⟩, not_held_iff.mp hheld, ⟨c, recopy, ?_, d, id, mem_targetSet.mp hmem, honline, hid, hjid⟩,
      hslots, portFree_iff.mp hfree⟩
    rcases nextChunk_eq_some.mp hnext with ⟨hhead, hre, _⟩ | ⟨hnil, hre, ⟨_, hfirst⟩ | ⟨_, hcursor⟩⟩
    · exact .inl ⟨hhead, hre⟩
    · exact .inr ⟨hnil, hre, .inl hfirst⟩
    · exact .inr ⟨hnil, hre, .inr hcursor⟩
  · rintro ⟨⟨hbound, hjob, hj⟩, ⟨hreading, hpaused⟩, hheld, ⟨c, recopy, hchunk, d, id, hmem, honline, hid, hjid⟩, hslots, hfree⟩
    have hnext : ∃ starts, nextChunk s j = some ⟨c, recopy, starts⟩ := by
      rcases hchunk with ⟨hhead, hre⟩ | ⟨hnil, hre, hfirst | hcursor⟩
      · exact ⟨false, nextChunk_eq_some.mpr (.inl ⟨hhead, hre, rfl⟩)⟩
      · exact ⟨false, nextChunk_eq_some.mpr (.inr ⟨hnil, hre, .inl ⟨rfl, hfirst⟩⟩)⟩
      · exact ⟨true, nextChunk_eq_some.mpr (.inr ⟨hnil, hre, .inr ⟨rfl, hcursor⟩⟩)⟩
    obtain ⟨starts, hnext⟩ := hnext
    exact ⟨hjob, hj, hbound, hreading, hpaused, not_held_iff.mpr hheld,
      ⟨⟨c, recopy, starts⟩, d, hnext, mem_targetSet.mpr hmem, usable_iff.mpr ⟨honline, id, hid, hjid⟩⟩, hslots, portFree_iff.mpr hfree⟩

/-! ### The grant of a slot (R66, R68, R71, R81) -/

section
variable {s : State} {p : Port}

theorem pickWaiting_eq_none (h : ∀ p, (s.reader p).waiting = false) : pickWaiting s = none := by
  simp [pickWaiting, h]

/-- The allocator takes the first waiting reader after the last-granted pointer, in port order (R66). -/
theorem pickWaiting_eq_some {turns : Nat} (hlow : 1 ≤ turns) (hhigh : turns ≤ 8) (hp : p.val = (s.lastGranted.val + turns) % 8)
    (hwaiting : (s.reader p).waiting = true)
    (hbefore : ∀ i, 1 ≤ i → i < turns → ∀ q : Port, q.val = (s.lastGranted.val + i) % 8 → (s.reader q).waiting = false) :
    pickWaiting s = some p := by
  have hval (i : Nat) : (s.lastGranted + Fin.ofNat 8 i : Port).val = (s.lastGranted.val + i) % 8 := by
    rw [Fin.val_add, Fin.val_ofNat, Nat.add_mod_mod]
  have hlist : [1, 2, 3, 4, 5, 6, 7, 8] = List.range' 1 8 := rfl
  rw [pickWaiting, hlist, List.find?_eq_some_iff_getElem]
  refine ⟨hwaiting, turns - 1, by simp; omega, ?_, fun i hi => ?_⟩
  · simp only [List.getElem_map, List.getElem_range']
    exact Fin.ext (by rw [hval, hp]; congr 2; omega)
  · simp only [List.getElem_map, List.getElem_range', Bool.not_eq_true']
    exact hbefore (1 + 1 * i) (by omega) (by omega) _ (hval _)

theorem grant_eq {n : Nat} {rest : List Nat} {h : Nat} {j : Job} {nc : NextChunk} {k : Clip} (hfree : s.freeSlots = n :: rest)
    (hpick : pickWaiting s = some p) (hjob : (s.port p).job = some h) (hj : s.job h = some j) (hnext : nextChunk s j = some nc)
    (hk : s.clip nc.clip = some k) : grant s = startChunk n p h j nc k { s with freeSlots := rest } := by
  simp only [grant, hfree, hpick, hjob, hj, hnext, hk]

theorem grant_idle (h : s.freeSlots = [] ∨ ∀ p, (s.reader p).waiting = false) : grant s = s := by
  rcases h with hfree | hwaiting
  · simp [grant, hfree]
  · cases hfree : s.freeSlots <;> simp [grant, hfree, pickWaiting_eq_none hwaiting]

theorem granted_source (k : Clip) (again : Bool) : (k.granted again).source = k.source := by
  unfold Clip.granted
  split <;> rfl

theorem granted_blocks (k : Clip) (again : Bool) : (k.granted again).blocks = k.blocks := by
  unfold Clip.granted
  split <;> rfl

/-- The state in which a granted chunk's first READ waits for the link (R66, R71, R84). -/
def granted (n : Nat) (p : Port) (h : Nat) (j : Job) (nc : NextChunk) (k : Clip) (s : State) : State :=
  { s with
    slots := store s.slots n
      ⟨false, h, nc.clip, (k.granted nc.recopy).nextBlock, chunkLength k.blocks (k.granted nc.recopy).nextBlock, 0,
        nc.recopy, 0⟩
    clips := store s.clips nc.clip (k.granted nc.recopy)
    jobs := store s.jobs h { j with cursor := if nc.starts then j.cursor + 1 else j.cursor }
    readers := s.readers.set p.val
      { s.reader p with
        chunk := some
          ⟨n, nc.clip, h, (k.granted nc.recopy).nextBlock, chunkLength k.blocks (k.granted nc.recopy).nextBlock, 0,
            nc.recopy, (k.granted nc.recopy).acc, false⟩
        retries := 0, turn := .segment }
    lastGranted := p }

theorem startChunk_eq (n h : Nat) (j : Job) (nc : NextChunk) (k : Clip) : startChunk n p h j nc k s = refresh (cardKick p (granted n p h j nc k s)) := by
  simp only [startChunk, setReader, setJob, setClip, setSlot, granted_blocks, granted]
  rfl

/-- On a free link the first READ of a granted chunk is sent at once (R71). -/
theorem cardKick_granted {n h : Nat} {j : Job} {nc : NextChunk} {k : Clip} (hlink : (s.port p).request = none)
    (hsurvey : s.survey.any (fun v => decide (v.port = p)) = false) :
    cardKick p (granted n p h j nc k s) = setPort (granted n p h j nc k s) p
      { s.port p with
        request := some
          ⟨.read (requestRun k.source (k.granted nc.recopy).nextBlock
              (chunkLength k.blocks (k.granted nc.recopy).nextBlock)).1
            (requestRun k.source (k.granted nc.recopy).nextBlock
              (chunkLength k.blocks (k.granted nc.recopy).nextBlock)).2, .chunk, s.cfg.cardTimeoutMs, false⟩ } := by
  have hchunk : ((granted n p h j nc k s).reader p).chunk = some
      ⟨n, nc.clip, h, (k.granted nc.recopy).nextBlock, chunkLength k.blocks (k.granted nc.recopy).nextBlock, 0,
        nc.recopy, (k.granted nc.recopy).acc, false⟩ := by
    simp [granted, State.reader]
  have hclip : (granted n p h j nc k s).clip nc.clip = some (k.granted nc.recopy) := lookup_store_self _ _ _
  have hkick := cardKick_chunk (s := granted n p h j nc k s) hlink hsurvey hchunk hclip
  rw [granted_source] at hkick
  exact hkick

end

/-- Settles O36: the reader is the one `pickWaiting` finds, its chunk the one of `nextChunk_eq_some`, and `startChunk` does the rest. -/
theorem grantStartsTheNextChunk : Obligations.GrantStartsTheNextChunk := by
  refine ⟨fun s hidle => ?_, ?_⟩
  · simp [exec, execSlotGrant, awake, grant_idle hidle]
  · intro s n rest p turns h c j k recopy starts hlow hfree h1 h8 hp hwaiting hbefore hjob hj hk hchunk hlink hsurvey
    have hgrant := grant_eq hfree (pickWaiting_eq_some h1 h8 hp hwaiting hbefore) hjob hj (nextChunk_eq_some.mpr hchunk) hk
    refine ⟨k.granted recopy, _, rfl, rfl, ?_⟩
    rw [exec, execSlotGrant, awake_of_high hlow, hgrant, startChunk_eq]
    rw [cardKick_granted (s := { s with freeSlots := rest }) (n := n) (h := h) (j := j) (nc := ⟨c, recopy, starts⟩) (k := k) hlink hsurvey]
    rfl

end Sys2Proof.Machine
end

section
/-! SUPPORT. Source-verify segments at a card port (R84, R85, R91, R126, R128), and the requests of a chunk read (R71, R72, R76, R82). -/

namespace Sys2Proof.Machine

-- One theorem at a time: checking them all at once needs more threads than the sandbox gives.
set_option Elab.async false

open Sys2Proof

section
variable {s : State} {p : Port} {e : EngineIx}

@[simp] theorem setReader_setReader (s : State) (p : Port) (x y : Reader) : setReader (setReader s p x) p y = setReader s p y := by
  simp [setReader]

/-- A link whose request is over takes the chunk read's next READ (R15, R71). -/
theorem cardKick_clearCard_chunk {c : ChunkRead} {k : Clip} (hs : s.survey.any (fun v => decide (v.port = p)) = false)
    (hc : (s.reader p).chunk = some c) (hk : s.clip c.clip = some k) :
    cardKick p (clearCard p s) = setPort s p { s.port p with
      request := some ⟨.read (requestRun k.source (c.first + c.done) (c.count - c.done)).1
        (requestRun k.source (c.first + c.done) (c.count - c.done)).2, .chunk, s.cfg.cardTimeoutMs, false⟩ } := by
  rw [cardKick_chunk (s := clearCard p s) (by simp [clearCard]) hs hc hk]
  simp [clearCard]

/-- A link whose request is over takes the segment's next READ (R15, R85). -/
theorem cardKick_clearCard_segment {g : Segment} {k : Clip} (hs : s.survey.any (fun v => decide (v.port = p)) = false)
    (hc : (s.reader p).chunk = none) (hg : (s.reader p).segment = some g) (hk : engineClip s g.engine = some k) :
    cardKick p (clearCard p s) = setPort s p { s.port p with
      request := some ⟨.read (requestRun k.source (g.first + g.done) (g.count - g.done)).1
        (requestRun k.source (g.first + g.done) (g.count - g.done)).2, .segment, s.cfg.cardTimeoutMs, false⟩ } := by
  rw [cardKick_segment (s := clearCard p s) (by simp [clearCard]) hs hc hg hk]
  simp [clearCard]

/-! ### The card-port read arbiter (R84) -/

theorem readerAhead_iff {first : Bool} :
    readerAhead s p first = true ↔
      (s.reader p).waiting = true ∧ (s.reader p).turn = .chunk ∧ ¬(first = true ∧ s.use p = .freed) := by
  cases first <;> simp [readerAhead, and_assoc]

theorem enginePaused_iff {task : Task} {h : Nat} (htask : (s.engine e).task = some (task, h)) :
    enginePaused s e = true ↔ ∃ j, s.job h = some j ∧ j.paused = true := by
  cases hj : s.job h <;> simp [enginePaused, jobPaused, htask, hj]

theorem engineClip_of_task {task : Task} {h : Nat} (htask : (s.engine e).task = some (task, h)) : engineClip s e = s.clip task.clip := by
  simp [engineClip, htask]

theorem arbitrate_waiting {rest : List EngineIx} (hwait : (s.reader p).segWaiting = e :: rest) (first : Bool) :
    arbitrate p first s =
      if portFree s p = true ∧ enginePaused s e = false ∧ readerAhead s p first = false then startSegment p e rest s else s := by
  simp only [arbitrate, hwait]

/-- A segment that starts on a free link sends its first READ at once (R85, R126). -/
theorem startSegment_eq {rest : List EngineIx} {task : Task} {h : Nat} {k : Clip} (htask : (s.engine e).task = some (task, h))
    (hk : s.clip task.clip = some k) (hfree : portFree s p = true) (hsurvey : s.survey.any (fun v => decide (v.port = p)) = false) :
    startSegment p e rest s =
      refresh (setPort
        (setReader (setEngine s e { s.engine e with seg := .inFlight }) p
          { s.reader p with
            segment := some ⟨e, (s.engine e).next, chunkLength k.blocks (s.engine e).next, 0, false⟩
            segWaiting := rest, turn := .chunk, retries := 0 })
        p
        { s.port p with
          request := some
            ⟨.read (requestRun k.source (s.engine e).next (chunkLength k.blocks (s.engine e).next)).1
              (requestRun k.source (s.engine e).next (chunkLength k.blocks (s.engine e).next)).2, .segment, s.cfg.cardTimeoutMs, false⟩ }) := by
  obtain ⟨hlink, hchunk, _⟩ := portFree_iff.mp hfree
  have hclip : engineClip s e = some k := (engineClip_of_task htask).trans hk
  have hcount : ((engineClip s e).map Clip.blocks).getD 0 = k.blocks := by simp [hclip]
  rw [startSegment, hcount]
  refine congrArg refresh ?_
  exact cardKick_segment (g := ⟨e, (s.engine e).next, chunkLength k.blocks (s.engine e).next, 0, false⟩) (k := k) hlink hsurvey
    (by simpa using hchunk) (by simp) (by simpa [engineClip, htask] using hk)

/-! ### The requests of a segment (R85, R91) -/

/-- A READ of a segment that leaves blocks to be read is folded, and the next READ is sent (R85, R91). -/
theorem segmentAnswered_eq {data : List Byte} {start count ms : Nat} {g : Segment} {task : Task} {h : Nat} {k : Clip} {acc : Acc}
    (hrequest : (s.port p).request = some ⟨.read start count, .segment, ms, false⟩) (hg : (s.reader p).segment = some g)
    (hcancelled : g.cancelled = false) (hleft : g.done + count < g.count) (htask : (s.engine g.engine).task = some (task, h))
    (hk : s.clip task.clip = some k) (hacc : (s.engine g.engine).acc = some acc) (hchunk : (s.reader p).chunk = none)
    (hsurvey : s.survey.any (fun v => decide (v.port = p)) = false) :
    segmentAnswered p data s =
      setPort
        (setReader
          (setEngine s g.engine
            { s.engine g.engine with acc := some (foldStream acc data (streamBytes k.length (g.first + g.done) count)) })
          p { s.reader p with segment := some { g with done := g.done + count }, retries := 0 })
        p
        { s.port p with
          request := some
            ⟨.read (requestRun k.source (g.first + (g.done + count)) (g.count - (g.done + count))).1
              (requestRun k.source (g.first + (g.done + count)) (g.count - (g.done + count))).2, .segment, s.cfg.cardTimeoutMs, false⟩ } := by
  have hfold : foldSegment g count data (clearCard p s) = setEngine (clearCard p s) g.engine
      { s.engine g.engine with acc := some (foldStream acc data (streamBytes k.length (g.first + g.done) count)) } := by
    have hclip : engineClip (clearCard p s) g.engine = some k := (engineClip_of_task htask).trans hk
    have haccs : ((clearCard p s).engine g.engine).acc = some acc := hacc
    simp only [foldSegment, hclip, haccs]
    rfl
  have hlive : ¬ g.cancelled = true := by simp [hcancelled]
  simp only [segmentAnswered, hrequest, hg, if_neg hlive, if_pos hleft, hfold]
  exact cardKick_clearCard_segment (s := setReader (setEngine s g.engine
      { s.engine g.engine with acc := some (foldStream acc data (streamBytes k.length (g.first + g.done) count)) })
      p { s.reader p with segment := some { g with done := g.done + count }, retries := 0 })
    (g := { g with done := g.done + count }) (k := k) hsurvey (by simpa using hchunk) (by simp) (by simpa [engineClip, htask] using hk)

end

/-- Settles O40, from `arbitrate_waiting` and the equations of a start and of an answered READ. -/
theorem sourceSegmentsShareThePort : Obligations.SourceSegmentsShareThePort := by
  refine ⟨fun s p => ?_, ?_, ?_⟩
  · rw [refresh_use, nextUse]
    by_cases hfree : portFree s p = true
    · rw [if_pos hfree, if_pos (portFree_iff.mp hfree)]
    · rw [if_neg hfree, if_neg (mt portFree_iff.mpr hfree)]
  · intro p first s e rest task h k hlow hwait htask hk
    rw [exec, execSourceSegmentStart, awake_of_high hlow, arbitrate_waiting hwait]
    refine ⟨fun hidle => ?_, fun hturn hlink hchunk hsegment hpaused hsurvey => ⟨_, rfl, ?_⟩⟩
    · refine congrArg Host.Outcome.next (if_neg fun ⟨hfree, hrunning, hahead⟩ => ?_)
      obtain ⟨hlink, hchunk, hsegment⟩ := portFree_iff.mp hfree
      rcases hidle with hreader | hlink' | hchunk' | hsegment' | hpaused
      · exact absurd (readerAhead_iff.mpr hreader) (by simp [hahead])
      · exact hlink' hlink
      · exact hchunk' hchunk
      · exact hsegment' hsegment
      · exact absurd ((enginePaused_iff htask).mpr hpaused) (by simp [hrunning])
    · have hfree : portFree s p = true := portFree_iff.mpr ⟨hlink, hchunk, hsegment⟩
      have hrunning : enginePaused s e = false := by
        rw [← Bool.not_eq_true, enginePaused_iff htask]
        rintro ⟨j, hj, hp⟩
        simp [hpaused j hj] at hp
      have hahead : readerAhead s p first = false := by
        rw [← Bool.not_eq_true, readerAhead_iff]
        exact fun ⟨hw, ht, hn⟩ => hn (hturn hw ht)
      rw [if_pos ⟨hfree, hrunning, hahead⟩, startSegment_eq htask hk hfree hsurvey]
      rfl
  · intro p data s start count ms g task h k acc hlow hrequest hg hcancelled hleft htask hk hacc hchunk hsurvey
    rw [exec, execSourceSegmentRequestDone, awake_of_high hlow,
      segmentAnswered_eq hrequest hg hcancelled hleft htask hk hacc hchunk hsurvey]
    rfl

end Sys2Proof.Machine
end

section
/-! SUPPORT. What the tests at an event's end make of the clips and of an open job (R38, R46, R145), and the requests of a chunk read: those
that leave it to be continued and those that end a cancelled one (R71, R72, R76, R82, R91). -/

namespace Sys2Proof.Machine

-- One theorem at a time: checking them all at once needs more threads than the sandbox gives.
set_option Elab.async false

open Sys2Proof

section
variable {s t u : State} {p : Port}

/-! ### Clips whose source-verify state alone moves -/

/-- The clip's source-verify state may have moved; everything else stands. -/
def Clip.SvMoved (k k' : Clip) : Prop := k' = { k with sv := k'.sv }

theorem Clip.SvMoved.refl (k : Clip) : k.SvMoved k := rfl

theorem Clip.SvMoved.trans {k l m : Clip} (h : k.SvMoved l) (i : l.SvMoved m) : k.SvMoved m := by
  rw [Clip.SvMoved, i, h]

theorem Clip.SvMoved.copies {k k' : Clip} (h : k.SvMoved k') : k'.copies = k.copies := by rw [h]

/-- Clips may be freed; of those that are left only the source-verify state may have moved. -/
def ClipsSvMoved (t u : Table Clip) : Prop :=
  (t.map Prod.fst).Pairwise (· < ·) →
    (u.map Prod.fst).Pairwise (· < ·) ∧ ∀ c k', lookup u c = some k' → ∃ k, lookup t c = some k ∧ k.SvMoved k'

theorem ClipsSvMoved.refl (t : Table Clip) : ClipsSvMoved t t := fun h => ⟨h, fun _ k hk => ⟨k, hk, rfl⟩⟩

theorem ClipsSvMoved.trans {t u v : Table Clip} (h : ClipsSvMoved t u) (i : ClipsSvMoved u v) : ClipsSvMoved t v := fun hkeys => by
  obtain ⟨hkeys', hread⟩ := h hkeys
  obtain ⟨hkeys'', hread'⟩ := i hkeys'
  refine ⟨hkeys'', fun c k'' hk'' => ?_⟩
  obtain ⟨k', hk', hmoved'⟩ := hread' c k'' hk''
  obtain ⟨k, hk, hmoved⟩ := hread c k' hk'
  exact ⟨k, hk, hmoved.trans hmoved'⟩

theorem ClipsSvMoved.foldl {α : Type} {g : State → α → State} (step : ∀ s a, ClipsSvMoved s.clips (g s a).clips) (l : List α) (s : State) :
    ClipsSvMoved s.clips (l.foldl g s).clips := by
  induction l generalizing s with
  | nil => exact .refl _
  | cons a l ih => exact (step s a).trans (ih _)

theorem issueTask_svMoved (s : State) (c : Nat) : ClipsSvMoved s.clips (issueTask s c).clips := by
  unfold issueTask
  split
  next k hk =>
    split
    · refine fun hkeys => ⟨pairwise_store hkeys hk, fun i k' hk' => ?_⟩
      by_cases hi : i = c
      · subst hi
        obtain rfl := Option.some.inj ((lookup_store_self _ _ _).symm.trans hk')
        exact ⟨k, hk, rfl⟩
      · exact ⟨k', (lookup_store_of_ne _ hi _).symm.trans hk', rfl⟩
    · exact .refl _
  · exact .refl _

theorem drainJob_svMoved (s : State) (h : Nat) : ClipsSvMoved s.clips (drainJob s h).clips := by
  unfold drainJob
  split
  next j hj =>
    split
    · have hnotice : ClipsSvMoved s.clips (notify (.jobDrained h) (setJob s h { j with state := .drained, tasksIssued := true })).clips := by
        rw [notify_clips]
        exact .refl _
      dsimp only
      split
      · exact hnotice.trans (.foldl issueTask_svMoved _ _)
      · exact hnotice
    · exact .refl _
  · exact .refl _

theorem evalJob_clips (s : State) (h : Nat) : (evalJob s h).clips = s.clips := by
  cases hj : s.job h with
  | none => simp [evalJob, hj]
  | some j =>
    obtain ⟨_, _, _, _, _, _, _, heval, _⟩ := evalJob_spec hj
    rw [heval]

theorem freeJob_svMoved (s : State) (h : Nat) : ClipsSvMoved s.clips (freeJob s h).clips := by
  unfold freeJob
  split
  · split
    · rw [notify_clips]
      exact fun hkeys => ⟨hkeys.sublist (List.filter_sublist.map _), fun c k hk => ⟨k, lookup_of_filter hkeys hk, rfl⟩⟩
    · exact .refl _
  · exact .refl _

/-- The tests at an event's end free clips and move source-verify states; they do nothing else to a clip. -/
theorem closeJobs_svMoved (hs : List Nat) (s : State) : ClipsSvMoved s.clips (closeJobs hs s).clips :=
  ((ClipsSvMoved.foldl drainJob_svMoved hs s).trans (.foldl (fun s h => by rw [evalJob_clips]; exact .refl _) hs _)).trans
    (.foldl freeJob_svMoved hs _)

/-! ### The requests of a chunk read (R71, R72, R91) -/

/-- The state in which an OK answer to a chunk READ has freed the link and been counted (R72). -/
def counted (p : Port) (count waitMs : Nat) (s : State) : State :=
  setReader { s with now := s.now + waitMs, ports := s.ports.set p.val { s.port p with request := none } } p
    { s.reader p with blocksRead := (s.reader p).blocksRead + BitVec.ofNat 64 count, retries := 0 }

@[simp] theorem counted_reader (p : Port) (count waitMs : Nat) (s : State) : (counted p count waitMs s).reader p =
    { s.reader p with blocksRead := (s.reader p).blocksRead + BitVec.ofNat 64 count, retries := 0 } := setReader_reader_self _ _ _

@[simp] theorem counted_port (p : Port) (count waitMs : Nat) (s : State) :
    (counted p count waitMs s).port p = { s.port p with request := none } := by simp [counted, State.port]

theorem exec_chunkRequestDone {data : List Byte} {waitMs start count ms : Nat} {c : ChunkRead} (hlow : s.resetLow = false)
    (hrequest : (s.port p).request = some ⟨.read start count, .chunk, ms, false⟩) (hc : (s.reader p).chunk = some c) :
    exec (.chunkRequestDone p data waitMs) s = .next
      (if c.cancelled then endCancelled p c (counted p count waitMs s) else chunkProgress p c count data (counted p count waitMs s)) := by
  simp only [exec, execChunkRequestDone, awake_of_high hlow, chunkAnswered, hrequest, hc]
  rfl

/-- The chunk read with a request's data counted and folded (R71, R91). -/
def ChunkRead.advanced (c : ChunkRead) (k : Clip) (count : Nat) (data : List Byte) : ChunkRead :=
  { c with done := c.done + count, acc := foldStream c.acc data (streamBytes k.length (c.first + c.done) count) }

/-- The data of a request in their place in the slot (R71). -/
def slotFilled (c : ChunkRead) (count : Nat) (data : List Byte) (s : State) : State :=
  { s with mem := Memory.write s.mem (slotAddress c.slot c.done) (count * Config.blockBytes) data }

theorem chunkProgress_eq {c : ChunkRead} {k : Clip} (hk : s.clip c.clip = some k) (count : Nat) (data : List Byte) :
    chunkProgress p c count data s =
      if c.done + count < c.count then
        cardKick p (setReader (slotFilled c count data s) p { s.reader p with chunk := some (c.advanced k count data) })
      else stage p (c.advanced k count data) (slotFilled c count data s) := by
  simp only [chunkProgress, hk]
  rfl

/-- The slot's bytes at the position of the request's blocks are the answer's, and no other byte of the memory changes (R71). -/
theorem slotFilled_read (c : ChunkRead) (count : Nat) (data : List Byte) (s : State) :
    (∀ i < count * 512, Memory.read (slotFilled c count data s).mem (c.slot * 4194304 + c.done * 512 + i) = data.getD i 0) ∧
      ∀ a, a < c.slot * 4194304 + c.done * 512 ∨ c.slot * 4194304 + c.done * 512 + count * 512 ≤ a →
        Memory.read (slotFilled c count data s).mem a = Memory.read s.mem a := by
  have hread (a : Nat) : Memory.read (slotFilled c count data s).mem a =
      if c.slot * 4194304 + c.done * 512 ≤ a ∧ a < c.slot * 4194304 + c.done * 512 + count * 512 then
        data.getD (a - (c.slot * 4194304 + c.done * 512)) 0
      else Memory.read s.mem a := read_write _ _ _ _ _
  refine ⟨fun i hi => ?_, fun a ha => ?_⟩
  · rw [hread, if_pos (by omega), Nat.add_sub_cancel_left]
  · rw [hread, if_neg (by omega)]

/-- A READ that leaves blocks of the chunk to be read: the data are taken and the next READ is sent (R71). -/
theorem chunkProgress_continues {c : ChunkRead} {k : Clip} {count waitMs : Nat} {data : List Byte} (hk : s.clip c.clip = some k)
    (hleft : c.done + count < c.count) (hsurvey : s.survey.any (fun v => decide (v.port = p)) = false) :
    chunkProgress p c count data (counted p count waitMs s) =
      setPort
        (setReader { slotFilled c count data s with now := s.now + waitMs } p
          { s.reader p with
            blocksRead := (s.reader p).blocksRead + BitVec.ofNat 64 count, retries := 0, chunk := some (c.advanced k count data) })
        p
        { s.port p with
          request := some
            ⟨.read (requestRun k.source (c.first + (c.done + count)) (c.count - (c.done + count))).1
              (requestRun k.source (c.first + (c.done + count)) (c.count - (c.done + count))).2, .chunk, s.cfg.cardTimeoutMs, false⟩ } := by
  have hkick := cardKick_clearCard_chunk (p := p) (k := k) (c := c.advanced k count data)
    (s := setReader { slotFilled c count data s with now := s.now + waitMs } p
      { s.reader p with
        blocksRead := (s.reader p).blocksRead + BitVec.ofNat 64 count, retries := 0, chunk := some (c.advanced k count data) })
    hsurvey (by simp) hk
  rw [chunkProgress_eq (s := counted p count waitMs s) hk, if_pos hleft]
  refine Eq.trans (congrArg (cardKick p) ?_) hkick
  rw [counted_reader]
  simp [slotFilled, counted, clearCard, setReader, setPort, State.port]

/-! ### A cancelled chunk read (R76, R82) -/

/-- A cancelled chunk read ends: its slot is free and nothing else of the slots, the memory, the destinations or the checkpoints moves. -/
theorem endCancelled_spec {c : ChunkRead} (hkeys : (s.clips.map Prod.fst).Pairwise (· < ·)) :
    ((endCancelled p c s).reader p).chunk = none ∧ ((endCancelled p c s).reader p).blocksRead = (s.reader p).blocksRead ∧
      (endCancelled p c s).slot c.slot = none ∧ (endCancelled p c s).freeSlots = s.freeSlots ++ [c.slot] ∧
      (∀ n, n ≠ c.slot → (endCancelled p c s).slot n = s.slot n) ∧ (endCancelled p c s).mem = s.mem ∧
      (endCancelled p c s).dests = s.dests ∧
      ∀ n k', (endCancelled p c s).clip n = some k' → ∃ k, s.clip n = some k ∧ k.SvMoved k' := by
  obtain ⟨_, hkick⟩ := cardKick_frame (dropChunk p c s) p
  have hclips := closeJobs_svMoved [c.job] (cardKick p (dropChunk p c s))
  obtain ⟨_, _, _, _, _, _, _, _, hclose⟩ := closeJobs_settles (cardKick p (dropChunk p c s)) [c.job]
  have hreader : (cardKick p (dropChunk p c s)).reader p = { s.reader p with chunk := none, retries := 0 } := by
    rw [hkick]
    exact setReader_reader_self s p _
  have hslot (n : Nat) : (closeJobs [c.job] (cardKick p (dropChunk p c s))).slot n = lookup (erase s.slots c.slot) n := by
    rw [hclose, hkick]
    rfl
  have hread : (endCancelled p c s).reader p = { (closeJobs [c.job] (cardKick p (dropChunk p c s))).reader p with
      waiting := startCondition (closeJobs [c.job] (cardKick p (dropChunk p c s))) p } := refresh_reader _ p
  have hreader' : (closeJobs [c.job] (cardKick p (dropChunk p c s))).reader p = (cardKick p (dropChunk p c s)).reader p := by
    rw [hclose]
    rfl
  have hkept : (cardKick p (dropChunk p c s)).clips = s.clips := by
    rw [hkick]
    rfl
  rw [hkept] at hclips
  refine ⟨by rw [hread, hreader', hreader], by rw [hread, hreader', hreader], (hslot _).trans (lookup_erase_self _ _), ?_,
    fun n hn => (hslot n).trans (lookup_erase_of_ne _ hn), ?_, ?_, ?_⟩
  · change (closeJobs _ _).freeSlots = _
    rw [hclose, hkick]
    rfl
  · change (closeJobs _ _).mem = _
    rw [hclose, hkick]
    rfl
  · change (closeJobs _ _).dests = _
    rw [hclose, hkick]
    rfl
  · exact (hclips hkeys).2

end

/-- Settles O37: `chunkProgress_continues` for a READ that leaves blocks to be read, `endCancelled_spec` for a cancelled chunk read. -/
theorem chunkReadFillsTheSlot : Obligations.ChunkReadFillsTheSlot := by
  constructor
  · intro p data waitMs s start count ms c k hlow hrequest hc hcancelled hk hleft hsurvey
    obtain ⟨hdata, hother⟩ := slotFilled_read c count data s
    have hexec := (exec_chunkRequestDone (data := data) (waitMs := waitMs) hlow hrequest hc).trans
      (congrArg Host.Outcome.next ((if_neg (by simp [hcancelled])).trans (chunkProgress_continues hk hleft hsurvey)))
    exact ⟨_, _, c.advanced k count data, hexec, rfl, rfl, rfl, hdata, hother⟩
  · intro i p s r c blocks hlow hkeyed hr howner hc hcancelled hevent
    obtain ⟨_, hclips, _⟩ := hkeyed
    rcases hevent with ⟨data, waitMs, start, rfl, hheld, hask⟩ | ⟨rfl, hheld, hpresent, rfl⟩
    · obtain ⟨ask, owner, ms, held⟩ := r
      subst howner hheld hask
      obtain ⟨hchunk, hblocks, hspec⟩ := endCancelled_spec (p := p) (c := c) (s := counted p blocks waitMs s) hclips
      refine ⟨_, by rw [exec_chunkRequestDone hlow hr hc, if_pos hcancelled], hchunk, ?_, hspec⟩
      rw [hblocks, counted_reader]
    · obtain ⟨hchunk, hblocks, hspec⟩ := endCancelled_spec (p := p) (c := c) (s := confirmed p s) hclips
      have hdeliver : deliverError p r.owner (confirmed p s) = endCancelled p c (confirmed p s) := by
        simp [deliverError, howner, hc, chunkError, hcancelled]
      refine ⟨_, (exec_errorConfirm hlow hr hheld hpresent).trans (congrArg Host.Outcome.next hdeliver), hchunk, ?_, hspec⟩
      rw [hblocks]
      exact (add_zero _).symm

end Sys2Proof.Machine
end

section
/-! SUPPORT. The rules of the operations on copies (R82, R107), of the monitors' turn at an event's end (R77, R156), and of a slot that a
destination is done with (R63). -/

namespace Sys2Proof.Machine

-- One theorem at a time: checking them all at once needs more threads than the sandbox gives.
set_option Elab.async false

open Sys2Proof

section
variable {s : State}

/-! ### The copies of a clip -/

@[simp] theorem setCopy_copy_self (k : Clip) (d : Dest) (x : Copy) : (k.setCopy d x).copy d = x := by simp [Clip.copy, Clip.setCopy]

theorem setCopy_copy_of_ne (k : Clip) {d e : Dest} (h : e ≠ d) (x : Copy) : (k.setCopy d x).copy e = k.copy e := by
  have hne : d.val ≠ e.val := fun heq => h (Fin.ext heq.symm)
  simp [Clip.copy, Clip.setCopy, hne]

/-- A clip whose recopy set and pass `d` has left (R82). -/
def Clip.left (d : Dest) (k : Clip) : Clip :=
  if dmem k.recopySet d then { k with recopySet := derase k.recopySet d, passMembers := derase k.passMembers d } else k

@[simp] theorem left_copies (d : Dest) (k : Clip) : (k.left d).copies = k.copies := by
  unfold Clip.left
  split <;> rfl

@[simp] theorem left_copy (d : Dest) (k : Clip) (e : Dest) : (k.left d).copy e = k.copy e := by simp [Clip.copy]

/-- A clip whose copy on `d` has failed, or is a MISMATCH (R82). -/
def Clip.failed (d : Dest) (st : CopyState) (cause : Cause) (k : Clip) : Clip :=
  (k.setCopy d { k.copy d with state := st, cause := cause }).left d

theorem failed_copy (d : Dest) (st : CopyState) (cause : Cause) (k : Clip) (e : Dest) :
    (k.failed d st cause).copy e = if e = d then { k.copy d with state := st, cause := cause } else k.copy e := by
  unfold Clip.failed
  split
  next h => simp [h]
  next h => rw [left_copy, setCopy_copy_of_ne _ h]

theorem leaveRecopy_clip (c : Nat) (d : Dest) (i : Nat) :
    (leaveRecopy c d s).clip i = if i = c then (s.clip c).map (Clip.left d) else s.clip i := by
  have hlist (t : State) : (leaveRecopyList c t).clip i = t.clip i := by
    obtain ⟨_, hframe⟩ := leaveRecopyList_frame (s := t) c
    rw [hframe]
    rfl
  unfold leaveRecopy
  split
  next k hk =>
    split
    next hmem =>
      have hset : (setClip s c (k.left d)).clip i = if i = c then some (k.left d) else s.clip i := by
        split
        next hi => rw [hi, setClip_clip_self]
        next hi => rw [setClip_clip_of_ne _ hi]
      rw [Clip.left, if_pos hmem] at hset
      simp only [hk, Option.map_some, Clip.left, hmem, if_true]
      rw [← hset, hlist]
      split <;> rfl
    next hmem =>
      split
      next hi => simp [hi, hk, Clip.left, hmem]
      · rfl
  next hk =>
    split
    next hi => simp [hi, hk]
    · rfl

theorem tellCopy_clip (c : Nat) (news : CopyNews) (cause : Cause) (s : State) (i : Nat) : (tellCopy c news cause s).clip i = s.clip i := by
  obtain ⟨_, _, _, _, hframe⟩ := tellCopy_frame (s := s) c news cause
  rw [hframe]
  rfl

/-- What the failure of a copy makes of the clips. -/
theorem failCopy_clip (c : Nat) (d : Dest) (st : CopyState) (cause : Cause) (i : Nat) :
    (failCopy c d st cause s).clip i = if i = c then (s.clip c).map (Clip.failed d st cause) else s.clip i := by
  rw [failCopy, tellCopy_clip, leaveRecopy_clip, setCopyState, modClip_clip, modClip_clip]
  split
  · rw [if_pos rfl, Option.map_map]
    rfl
  · rfl

@[simp] theorem failCopy_dests (c : Nat) (d : Dest) (st : CopyState) (cause : Cause) : (failCopy c d st cause s).dests = s.dests := by
  obtain ⟨_, _, _, _, _, _, _, hframe⟩ := failCopy_frame (s := s) c d st cause
  rw [hframe]

@[simp] theorem failCopy_dest (c : Nat) (d : Dest) (st : CopyState) (cause : Cause) (e : Dest) :
    (failCopy c d st cause s).dest e = s.dest e := by simp [State.dest]

@[simp] theorem failCopy_slots (c : Nat) (d : Dest) (st : CopyState) (cause : Cause) : (failCopy c d st cause s).slots = s.slots := by
  obtain ⟨_, _, _, _, _, _, _, hframe⟩ := failCopy_frame (s := s) c d st cause
  rw [hframe]

/-! ### The monitors' turn and the tests at an event's end (R77, R156) -/

theorem seeBacklog_frame (d : Dest) : ∃ jobs monitors, seeBacklog s d = { s with jobs := jobs, monitors := monitors } := by
  unfold seeBacklog
  dsimp only
  split
  · exact ⟨s.jobs, s.monitors, rfl⟩
  · split
    · split
      · exact ⟨s.jobs, _, rfl⟩
      · unfold crossingHolds
        split
        · exact ⟨_, _, rfl⟩
        · exact ⟨_, _, rfl⟩
        · exact ⟨s.jobs, _, rfl⟩
    · exact ⟨s.jobs, _, rfl⟩

theorem seeBacklogs_frame (l : List Dest) : ∃ jobs monitors, l.foldl seeBacklog s = { s with jobs := jobs, monitors := monitors } := by
  induction l generalizing s with
  | nil => exact ⟨s.jobs, s.monitors, rfl⟩
  | cons d l ih =>
    obtain ⟨_, _, hd⟩ := seeBacklog_frame (s := s) d
    obtain ⟨jobs, monitors, hl⟩ := ih (s := seeBacklog s d)
    exact ⟨jobs, monitors, by rw [List.foldl_cons, hl, hd]⟩

/-- The end of an event that changes backlogs frees clips and moves source-verify states; it does nothing else to a clip. -/
theorem closeSeen_svMoved (hs : List Nat) (s : State) : ClipsSvMoved s.clips (closeSeen hs s).clips := by
  obtain ⟨_, _, hseen⟩ := seeBacklogs_frame (s := s) allDests
  obtain ⟨_, _, _, _, htell⟩ :=
    tellAll_frame (allDests.flatMap (crossingNews s)) (closeJobs hs (allDests.foldl seeBacklog s))
  have hclips := closeJobs_svMoved hs (allDests.foldl seeBacklog s)
  rw [closeSeen, htell]
  rwa [hseen] at hclips ⊢

/-! ### Slots -/

theorem freeIfDone_slot (n : Nat) (i : Nat) :
    (freeIfDone n s).slot i =
      if i = n then (s.slot n).filter (fun x => !decide (x.staged = true ∧ x.pending = 0 ∧ x.writing = 0)) else s.slot i := by
  unfold freeIfDone
  split
  next x hx =>
    split
    next hdone =>
      split
      next hi =>
        subst hi
        rw [hx, Option.filter_some, if_neg (by simp [hdone])]
        exact lookup_erase_self _ _
      next hi => exact lookup_erase_of_ne _ hi
    next hdone =>
      split
      next hi =>
        subst hi
        rw [hx, Option.filter_some, if_pos (by rw [decide_eq_false hdone]; rfl)]
      · rfl
  next hnone =>
    split
    next hi => rw [hi, hnone, Option.filter_none]
    · rfl

theorem setDest_setDest (s : State) (d : Dest) (x y : DestPort) : setDest (setDest s d x) d y = setDest s d y := by simp [setDest]

end

end Sys2Proof.Machine
end

section
/-! SUPPORT. Completed writes and completed flushes (R63, R107, R109, R112). -/

namespace Sys2Proof.Machine

-- One theorem at a time: checking them all at once needs more threads than the sandbox gives.
set_option Elab.async false

open Sys2Proof

section
variable {s : State} {d : Dest}

/-! ### An answered WRITE (R107, R109) -/

/-- The destination port of an answered WRITE that has been counted, with the operation it goes on with. -/
def DestPort.wrote (x : DestPort) (count : Nat) (op : Option DestOp) : DestPort :=
  { x with op := op, request := none, blocksWritten := x.blocksWritten + BitVec.ofNat 64 count }

theorem exec_destWriteOk {n m a b ms : Nat} {cancelled again : Bool} {x : Slot} (hlow : s.resetLow = false) (hop : (s.dest d).op = some (.write n m cancelled))
    (hrequest : (s.dest d).request = some ⟨.write a b, false, ms, again⟩) (hx : s.slot n = some x) :
    exec (.destWriteOk d) s = .next
      (if cancelled then endAbortedWrite d n (setDest s d ((s.dest d).wrote b (some (.write n (m + b) cancelled))))
       else if m + b < x.count then bridgeKick d (setDest s d ((s.dest d).wrote b (some (.write n (m + b) cancelled))))
       else finishWrite d n (setDest s d ((s.dest d).wrote b (some (.write n (m + b) cancelled))))) := by
  simp only [exec, execDestWriteOk, awake_of_high hlow, writeAnswered, hop, hrequest, hx]
  rfl

/-- A WRITE that leaves blocks of the chunk to be written: the next WRITE is sent (R106). -/
theorem bridgeKick_wrote {n m b : Nat} {x : Slot} {k : Clip} (honline : (s.dest d).state = .online) (hx : s.slot n = some x)
    (hk : s.clip x.clip = some k) :
    bridgeKick d (setDest s d ((s.dest d).wrote b (some (.write n m false)))) =
      setDest s d { (s.dest d).wrote b (some (.write n m false)) with
        request := some
          ⟨.write (requestRun (k.target d) (x.first + m) (x.count - m)).1 (requestRun (k.target d) (x.first + m) (x.count - m)).2, false,
            s.cfg.destTimeoutMs, false⟩ } := by
  simp [bridgeKick, DestPort.wrote, honline, bridgeAsk, writeRun, hx, hk, bridgeSend, setDest_setDest]

/-- What a completed chunk makes of its copy (R107, R83). -/
def Copy.counted (x : Copy) (chunks : Nat) : Copy :=
  if x.state = .pending then
    if x.written + 1 < chunks then { x with written := x.written + 1 }
    else if x.cause = .sourceChanged then { x with written := x.written + 1, state := .mismatch }
    else { x with written := x.written + 1, state := .written }
  else x

theorem countChunk_slots (c : Nat) : (countChunk c d s).slots = s.slots := by
  unfold countChunk
  split
  · split
    · dsimp only
      split
      · rfl
      · split
        · exact failCopy_slots _ _ _ _
        · rfl
    · rfl
  · rfl

/-- The clip's copy on `d` counts the chunk, and the copies on the other destinations stand (R107). -/
theorem countChunk_clip {c : Nat} {k : Clip} (hk : s.clip c = some k) :
    ∃ k', (countChunk c d s).clip c = some k' ∧ (∀ e, e ≠ d → k'.copy e = k.copy e) ∧ k'.copy d = (k.copy d).counted k.chunks := by
  simp only [countChunk, hk, Copy.counted]
  split
  next hpending =>
    split
    next hmore => exact ⟨_, setClip_clip_self _ _ _, fun e he => setCopy_copy_of_ne k he _, setCopy_copy_self _ _ _⟩
    next hlast =>
      split
      next hchanged =>
        refine ⟨_, by rw [failCopy_clip, if_pos rfl, setClip_clip_self, Option.map_some], fun e he => ?_, ?_⟩
        · rw [failed_copy, if_neg he, setCopy_copy_of_ne _ he]
        · rw [failed_copy, if_pos rfl, setCopy_copy_self, ← hchanged]
      next => exact ⟨_, setClip_clip_self _ _ _, fun e he => setCopy_copy_of_ne k he _, setCopy_copy_self _ _ _⟩
  next => exact ⟨k, hk, fun _ _ => rfl, rfl⟩

/-- A copy that becomes WRITTEN joins the awaiting-flush list of its destination; no other destination's record moves (R107). -/
theorem countChunk_dest {c : Nat} {k : Clip} (hk : s.clip c = some k) :
    (countChunk c d s).dest d =
        { s.dest d with
          awaiting :=
            if (k.copy d).state = .pending ∧ k.chunks ≤ (k.copy d).written + 1 ∧ (k.copy d).cause ≠ .sourceChanged then
              (s.dest d).awaiting ++ [c]
            else (s.dest d).awaiting } ∧
      ∀ e, e ≠ d → (countChunk c d s).dest e = s.dest e := by
  simp only [countChunk, hk]
  split
  next hpending =>
    split
    next hmore => exact ⟨by simp [Nat.not_le.mpr hmore], fun _ _ => rfl⟩
    next hlast =>
      split
      next hchanged =>
        exact ⟨by simp [hchanged], fun _ _ => failCopy_dest _ _ _ _ _⟩
      next hsame =>
        refine ⟨?_, fun e he => setDest_dest_of_ne _ he _⟩
        rw [setDest_dest_self]
        simp [hpending, Nat.not_lt.mp hlast, hsame]
  next hpending => exact ⟨by simp [hpending], fun _ _ => rfl⟩

/-- The slot without `d`, or FREE where that leaves nobody to write it (R63). -/
theorem freeIfDone_modSlot {n : Nat} {x : Slot} {f : Slot → Slot} (hx : s.slot n = some x) (hstaged : (f x).staged = true) (i : Nat) :
    (freeIfDone n (modSlot n f s)).slot i =
      if i = n then (if (f x).pending = 0 ∧ (f x).writing = 0 then none else some (f x)) else s.slot i := by
  rw [freeIfDone_slot, modSlot_slot, modSlot_slot]
  split
  · rw [if_pos rfl, hx, Option.map_some, Option.filter_some]
    by_cases hdone : (f x).pending = 0 ∧ (f x).writing = 0
    · rw [if_pos hdone, decide_eq_true ⟨hstaged, hdone⟩]
      rfl
    · rw [if_neg hdone, decide_eq_false fun h => hdone h.2]
      rfl
  · rfl

theorem freeIfDone_modSlot_frame (n : Nat) (f : Slot → Slot) :
    ∃ slots free, freeIfDone n (modSlot n f s) = { s with slots := slots, freeSlots := free } := by
  obtain ⟨_, hmod⟩ := modSlot_frame s n f
  obtain ⟨slots, free, hfree⟩ := freeIfDone_frame (s := modSlot n f s) n
  exact ⟨slots, free, by rw [hfree, hmod]⟩

/-- The write of a chunk has completed (R107, R63): the copy is counted and `d` is done with the slot. -/
theorem finishWrite_spec {n : Nat} {x : Slot} {k : Clip} (hkeyed : s.TablesKeyed) (hx : s.slot n = some x) (hk : s.clip x.clip = some k)
    (hstaged : x.staged = true) :
    (finishWrite d n s).dest d =
        { s.dest d with
          op := none
          awaiting :=
            if (k.copy d).state = .pending ∧ k.chunks ≤ (k.copy d).written + 1 ∧ (k.copy d).cause ≠ .sourceChanged then
              (s.dest d).awaiting ++ [x.clip]
            else (s.dest d).awaiting } ∧
      (∀ k' ∈ (finishWrite d n s).clip x.clip, (∀ e, e ≠ d → k'.copy e = k.copy e) ∧ k'.copy d = (k.copy d).counted k.chunks) ∧
      (∀ i, (finishWrite d n s).slot i =
        if i = n then
          (if derase x.pending d = 0 ∧ derase x.writing d = 0 then none
           else some { x with pending := derase x.pending d, writing := derase x.writing d })
        else s.slot i) ∧
      ∀ e, e ≠ d → (finishWrite d n s).dest e = s.dest e := by
  have hk1 : (setDest s d { s.dest d with op := none }).clip x.clip = some k := hk
  have hworks := ((Works.refl s).after_setDest (d := d) (x := { s.dest d with op := none })).after_countChunk (c := x.clip) (d := d)
  obtain ⟨k1, hk1', hothers, hcounted⟩ := countChunk_clip (d := d) hk1
  obtain ⟨hdest, hdests⟩ := countChunk_dest (d := d) hk1
  have hslots := countChunk_slots (d := d) (s := setDest s d { s.dest d with op := none }) x.clip
  have heq : finishWrite d n s = refresh (closeSeen [x.job]
      (freeIfDone n (modSlot n (fun x => { x with pending := derase x.pending d, writing := derase x.writing d })
        (countChunk x.clip d (setDest s d { s.dest d with op := none }))))) := by
    simp [finishWrite, hx, slotJob]
  generalize countChunk x.clip d (setDest s d { s.dest d with op := none }) = v at *
  have hxv : v.slot n = some x := (congrArg (lookup · n) hslots).trans hx
  have hslot := freeIfDone_modSlot (f := fun x => { x with pending := derase x.pending d, writing := derase x.writing d }) hxv hstaged
  obtain ⟨_, _, hfree⟩ :=
    freeIfDone_modSlot_frame (s := v) n (fun x => { x with pending := derase x.pending d, writing := derase x.writing d })
  generalize freeIfDone n (modSlot n (fun x => { x with pending := derase x.pending d, writing := derase x.writing d }) v) = w at *
  have hclips := closeSeen_svMoved [x.job] w
  obtain ⟨_, _, _, _, _, _, _, _, hclose⟩ := closeSeen_settles w [x.job]
  have hdestw (e : Dest) : (finishWrite d n s).dest e = v.dest e := by
    rw [heq, refresh_dest, hclose, hfree]
    rfl
  refine ⟨?_, fun k' hk' => ?_, fun i => ?_, fun e he => ?_⟩
  · rw [hdestw, hdest, setDest_dest_self]
  · have hclipw : w.clip x.clip = some k1 := by
      rw [hfree]
      exact hk1'
    have hkeysw : (w.clips.map Prod.fst).Pairwise (· < ·) := by
      rw [hfree]
      obtain ⟨_, hkeys, _⟩ := hworks.forms.keyed hkeyed
      exact hkeys
    rw [heq] at hk'
    obtain ⟨k2, hk2, hmoved⟩ := (hclips hkeysw).2 _ _ hk'
    obtain rfl := Option.some.inj (hclipw.symm.trans hk2)
    have hcopy (e : Dest) : k'.copy e = k1.copy e := by simp [Clip.copy, hmoved.copies]
    exact ⟨fun e he => (hcopy e).trans (hothers e he), (hcopy d).trans hcounted⟩
  · have hslotw : (finishWrite d n s).slot i = w.slot i := by
      rw [heq, refresh_slot, hclose]
      rfl
    rw [hslotw, hslot]
    split
    · rfl
    · exact congrArg (lookup · i) hslots
  · rw [hdestw, hdests e he, setDest_dest_of_ne _ he]

/-- The write of an aborted job's slot ends (R109, R64): no copy changes, and a slot with nobody left to write it is free. -/
theorem endAbortedWrite_spec {n : Nat} {x : Slot} (hkeyed : s.TablesKeyed) (hx : s.slot n = some x) :
    (endAbortedWrite d n s).dest d = { s.dest d with op := none } ∧
      (∀ i k', (endAbortedWrite d n s).clip i = some k' → (s.clip i).map Clip.copies = some k'.copies) ∧
      (x.staged = true → x.pending = 0 → derase x.writing d = 0 → (endAbortedWrite d n s).slot n = none) := by
  have hxv : (setDest s d { s.dest d with op := none }).slot n = some x := hx
  have heq : endAbortedWrite d n s = refresh (closeSeen [x.job]
      (freeIfDone n (modSlot n (fun x => { x with writing := derase x.writing d }) (setDest s d { s.dest d with op := none })))) := by
    simp [endAbortedWrite, hx, slotJob]
  have hslot := freeIfDone_modSlot (f := fun x => { x with writing := derase x.writing d }) hxv
  obtain ⟨_, _, hfree⟩ :=
    freeIfDone_modSlot_frame (s := setDest s d { s.dest d with op := none }) n (fun x => { x with writing := derase x.writing d })
  generalize freeIfDone n (modSlot n (fun x => { x with writing := derase x.writing d }) (setDest s d { s.dest d with op := none })) = w at *
  have hclips := closeSeen_svMoved [x.job] w
  obtain ⟨_, _, _, _, _, _, _, _, hclose⟩ := closeSeen_settles w [x.job]
  have hwclips : w.clips = s.clips := by rw [hfree]; rfl
  rw [hwclips] at hclips
  refine ⟨?_, fun i k' hk' => ?_, fun hstaged hpending hwriting => ?_⟩
  · rw [heq, refresh_dest, hclose, hfree]
    exact setDest_dest_self _ _ _
  · rw [heq] at hk'
    obtain ⟨k, hk, hmoved⟩ := (hclips hkeyed.2.1).2 _ _ hk'
    rw [State.clip, hk, Option.map_some, hmoved.copies]
  · rw [heq, refresh_slot, hclose]
    have hnone := hslot hstaged n
    rw [if_pos rfl, if_pos ⟨hpending, hwriting⟩] at hnone
    exact hnone

/-! ### An answered FLUSH (R112) -/

/-- A clip whose copy on `d`, where it is WRITTEN, has become FLUSHED. -/
def Clip.flushed (d : Dest) (k : Clip) : Clip :=
  if (k.copy d).state = .written then k.setCopy d { k.copy d with state := .flushed } else k

theorem flushed_copy (k : Clip) (e : Dest) :
    (k.flushed d).copy e = if e = d ∧ (k.copy d).state = .written then { k.copy d with state := .flushed } else k.copy e := by
  unfold Clip.flushed
  by_cases he : e = d
  · subst he
    split <;> simp_all
  · split
    · rw [setCopy_copy_of_ne _ he]
      simp [he]
    · simp [he]

theorem flushCopy_clip (c i : Nat) : (flushCopy d s c).clip i = if i = c then (s.clip c).map (Clip.flushed d) else s.clip i := by
  unfold flushCopy copyIs
  cases hk : s.clip c with
  | none =>
    by_cases hi : i = c <;> simp [hi, hk]
  | some k =>
    by_cases hwritten : (k.copy d).state = .written
    · simp only [hwritten, decide_true, if_true]
      refine (modClip_clip s c _ i).trans ?_
      simp [hk, Clip.flushed, hwritten]
    · by_cases hi : i = c <;> simp [hi, hk, hwritten, Clip.flushed]

theorem flushCopy_queue (c : Nat) :
    (flushCopy d s c).verifyQueue = s.verifyQueue ++ if copyIs s c d .written then [⟨c, .dest d, false⟩] else [] := by
  unfold flushCopy
  split
  · obtain ⟨_, hframe⟩ := modClip_frame s c (fun k => k.setCopy d { k.copy d with state := .flushed })
    simp [hframe]
  · simp

theorem flushCopy_frame (c : Nat) : ∃ clips queue, flushCopy d s c = { s with clips := clips, verifyQueue := queue } := by
  unfold flushCopy
  split
  · obtain ⟨clips, hframe⟩ := modClip_frame s c (fun k => k.setCopy d { k.copy d with state := .flushed })
    exact ⟨clips, _, by rw [hframe]⟩
  · exact ⟨s.clips, s.verifyQueue, rfl⟩

/-- The covered copies that are WRITTEN become FLUSHED, and each has its verify task, in the order covered (R112). -/
theorem flushCopies_spec {l : List Nat} (hnodup : l.Nodup) :
    (l.foldl (flushCopy d) s).verifyQueue =
        s.verifyQueue ++ (l.filter (fun c => copyIs s c d .written)).map (fun c => ⟨c, .dest d, false⟩) ∧
      (∀ i, (l.foldl (flushCopy d) s).clip i = if i ∈ l then (s.clip i).map (Clip.flushed d) else s.clip i) ∧
      ∃ clips queue, l.foldl (flushCopy d) s = { s with clips := clips, verifyQueue := queue } := by
  induction l generalizing s with
  | nil => exact ⟨by simp, by simp, s.clips, s.verifyQueue, rfl⟩
  | cons c l ih =>
    obtain ⟨hc, hl⟩ := List.nodup_cons.mp hnodup
    obtain ⟨hqueue, hclip, clips, queue, hframe⟩ := ih (s := flushCopy d s c) hl
    obtain ⟨_, _, hfirst⟩ := flushCopy_frame (d := d) (s := s) c
    have hcopyIs (i : Nat) (hi : i ∈ l) : copyIs (flushCopy d s c) i d .written = copyIs s i d .written := by
      have hne : i ≠ c := fun heq => hc (heq ▸ hi)
      simp only [copyIs, flushCopy_clip, if_neg hne]
    refine ⟨?_, fun i => ?_, clips, queue, ?_⟩
    · rw [List.foldl_cons, hqueue, flushCopy_queue, List.filter_congr hcopyIs, List.filter_cons]
      split <;> simp
    · rw [List.foldl_cons, hclip, flushCopy_clip]
      by_cases hi : i = c
      · subst hi
        simp [hc]
      · simp [hi]
    · rw [List.foldl_cons, hframe, hfirst]

theorem exec_destFlushOk {clips : List Nat} {ms : Nat} {again : Bool} (hlow : s.resetLow = false) (hop : (s.dest d).op = some (.flush clips))
    (hrequest : (s.dest d).request = some ⟨.flush, false, ms, again⟩) :
    exec (.destFlushOk d) s = .next (refresh (closeJobs ((liveJobs s).filter (fun h => clips.any (clipOfJob s h)))
      (clips.foldl (flushCopy d) (setDest s d { s.dest d with op := none, request := none })))) := by
  simp only [exec, execDestFlushOk, awake_of_high hlow, flushAnswered, hop, hrequest]

end

/-- Settles O46: `exec_destWriteOk` sends each case to `bridgeKick_wrote`, `finishWrite_spec` or `endAbortedWrite_spec`; `flushCopies_spec`
for the flush. -/
theorem writesAndFlushesComplete : Obligations.WritesAndFlushesComplete := by
  constructor
  · intro d s n m a b ms again x k hlow hkeyed hrequest hx hk
    refine ⟨fun hop honline hmore => ?_, fun hop hlast hstaged => ?_, fun hop => ?_⟩
    · refine (exec_destWriteOk hlow hop hrequest hx).trans (congrArg Host.Outcome.next ?_)
      rw [if_neg (by decide), if_pos hmore, bridgeKick_wrote honline hx hk]
      rfl
    · obtain ⟨hdest, hclip, hslot, hdests⟩ :=
        finishWrite_spec (s := setDest s d ((s.dest d).wrote b (some (.write n (m + b) false)))) (d := d) (n := n) hkeyed hx hk hstaged
      refine ⟨_, k.chunks, (exec_destWriteOk hlow hop hrequest hx).trans (congrArg Host.Outcome.next ?_), rfl, ?_, hclip, ?_,
        fun i hi => ?_, fun e he => ?_⟩
      · rw [if_neg (by decide), if_neg (Nat.not_lt.mpr hlast)]
      · rw [hdest, setDest_dest_self]
        rfl
      · rw [hslot, if_pos rfl]
        rfl
      · rw [hslot, if_neg hi]
        rfl
      · rw [hdests e he, setDest_dest_of_ne _ he]
    · obtain ⟨hdest, hclip, hslot⟩ := endAbortedWrite_spec
        (s := setDest s d ((s.dest d).wrote b (some (.write n (m + b) true)))) (d := d) (n := n) hkeyed hx
      refine ⟨_, (exec_destWriteOk hlow hop hrequest hx).trans (congrArg Host.Outcome.next (if_pos rfl)), ?_, hclip, hslot⟩
      rw [hdest, setDest_dest_self]
      rfl
  · intro d s clips ms again hlow hkeyed hop hrequest hnodup
    obtain ⟨hqueue, hclip, _, _, hframe⟩ :=
      flushCopies_spec (s := setDest s d { s.dest d with op := none, request := none }) (d := d) hnodup
    have hworks := ((Works.refl s).after_setDest (d := d) (x := { s.dest d with op := none, request := none })).after_foldl
      (g := flushCopy d) (fun _ _ hu => hu.after_flushCopy) clips
    have hanswered := exec_destFlushOk hlow hop hrequest
    generalize clips.foldl (flushCopy d) (setDest s d { s.dest d with op := none, request := none }) = v at *
    generalize (liveJobs s).filter (fun h => clips.any (clipOfJob s h)) = hs at *
    obtain ⟨more, hmore, hsource⟩ := (closeJobs_tested hs v).queue
    obtain ⟨_, _, _, _, _, _, _, _, hclose⟩ := closeJobs_settles v hs
    have hclips := closeJobs_svMoved hs v
    refine ⟨_, more, hanswered, ?_, ?_, hsource, fun c k k' hk hk' => ?_, fun e he => ?_, ?_⟩
    · rw [refresh_dest, hclose, hframe]
      exact setDest_dest_self _ _ _
    · have hcopyIs (c : Nat) : copyIs (setDest s d { s.dest d with op := none, request := none }) c d .written =
          (s.clip c).any (fun k => decide ((k.copy d).state = .written)) := by
        simp only [copyIs, setDest_clip]
        cases s.clip c <;> rfl
      rw [refresh_verifyQueue, hmore, hqueue]
      simp only [hcopyIs]
      rfl
    · obtain ⟨_, hkeys, _⟩ := hworks.forms.keyed hkeyed
      obtain ⟨k1, hk1, hmoved⟩ := (hclips hkeys).2 c k' hk'
      have hcopy (e : Dest) : k'.copy e = k1.copy e := by simp [Clip.copy, hmoved.copies]
      have hflushed := (hclip c).symm.trans hk1
      rw [setDest_clip, hk] at hflushed
      by_cases hc : c ∈ clips
      · rw [if_pos hc] at hflushed
        obtain rfl := Option.some.inj hflushed
        refine ⟨fun e he => ?_, ?_⟩
        · rw [hcopy, flushed_copy, if_neg fun h => he h.1]
        · rw [hcopy, flushed_copy]
          simp [hc]
      · rw [if_neg hc] at hflushed
        obtain rfl := Option.some.inj hflushed
        exact ⟨fun e _ => hcopy e, by simp [hcopy, hc]⟩
    · rw [refresh_dest, hclose, hframe]
      exact setDest_dest_of_ne _ he _
    · rw [refresh_slots, hclose, hframe]
      rfl

end Sys2Proof.Machine
end

section
/-! SUPPORT. The tests at an event's end for a job that is not CLOSING (R38, R145), and the monitors' turn before them (R77, R156, R159). -/

namespace Sys2Proof.Machine

-- One theorem at a time: checking them all at once needs more threads than the sandbox gives.
set_option Elab.async false

open Sys2Proof

section
variable {s t u : State} {h : Nat}

/-! ### The tests of an open job -/

/-- What the drained test and the evaluation may make of an open job's record. -/
structure Job.Judged (j j' : Job) : Prop where
  opened : j'.state ≠ .closing
  rest : j' = { j with state := j'.state, tasksIssued := j'.tasksIssued, clearable := j'.clearable, attention := j'.attention }

theorem Job.Judged.trans {i j k : Job} (h : i.Judged j) (l : j.Judged k) : i.Judged k := by
  refine ⟨l.opened, ?_⟩
  rw [l.rest, h.rest]

/-- What the tests of job `h`, which is open, may do: its record is judged, and STAGED clips get their source task. -/
structure Closes (h : Nat) (s t : State) : Prop where
  rest : ∃ jobs clips queue sending waiting notices missed, t = { s with
    jobs := jobs, clips := clips, verifyQueue := queue, sending := sending, waitingReply := waiting, notices := notices, missed := missed }
  job : ∀ j, s.job h = some j → j.state ≠ .closing → ∃ j', t.job h = some j' ∧ j.Judged j'
  others : ∀ i, i ≠ h → t.job i = s.job i
  clip : ∀ c, t.clip c = s.clip c ∨ ∃ k, s.clip c = some k ∧ k.sourceState = .staged ∧ t.clip c = some { k with sv := .queued }

theorem Closes.refl (h : Nat) (s : State) : Closes h s s :=
  ⟨⟨s.jobs, s.clips, s.verifyQueue, s.sending, s.waitingReply, s.notices, s.missed, rfl⟩, fun j hj hst => ⟨j, hj, hst, rfl⟩,
    fun _ _ => rfl, fun _ => .inl rfl⟩

theorem Closes.trans (k : Closes h s t) (l : Closes h t u) : Closes h s u := by
  refine ⟨?_, fun j hj hst => ?_, fun i hi => (l.others i hi).trans (k.others i hi), fun c => ?_⟩
  · obtain ⟨_, _, _, _, _, _, _, hk⟩ := k.rest
    obtain ⟨jobs, clips, queue, sending, waiting, notices, missed, hl⟩ := l.rest
    exact ⟨jobs, clips, queue, sending, waiting, notices, missed, by rw [hl, hk]⟩
  · obtain ⟨j', hj', hjudged⟩ := k.job j hj hst
    obtain ⟨j'', hj'', hjudged'⟩ := l.job j' hj' hjudged.opened
    exact ⟨j'', hj'', hjudged.trans hjudged'⟩
  · rcases l.clip c with hsame | ⟨x, hx, hstaged, hqueued⟩
    · exact (k.clip c).imp hsame.trans fun ⟨y, hy, hstaged, hqueued⟩ => ⟨y, hy, hstaged, hsame.trans hqueued⟩
    · rcases k.clip c with hsame | ⟨y, hy, hstaged', hqueued'⟩
      · exact .inr ⟨x, hsame.symm.trans hx, hstaged, hqueued⟩
      · obtain rfl := Option.some.inj (hx.symm.trans hqueued')
        exact .inr ⟨y, hy, hstaged', hqueued⟩

theorem Closes.foldl {α : Type} {g : State → α → State} (step : ∀ s a, Closes h s (g s a)) (l : List α) (s : State) :
    Closes h s (l.foldl g s) := by
  induction l generalizing s with
  | nil => exact .refl h s
  | cons a l ih => exact (step s a).trans (ih (g s a))

theorem Closes.notify (h : Nat) (n : Notice) (s : State) : Closes h s (notify n s) := by
  refine ⟨⟨s.jobs, s.clips, s.verifyQueue, _, _, _, _, notify_frame s n⟩, fun j hj hst => ⟨j, by simpa using hj, hst, rfl⟩,
    fun i _ => by simp, fun c => .inl (by simp)⟩

theorem Closes.setJob {j j' : Job} (hj : s.job h = some j) (hjudged : j.Judged j') : Closes h s (setJob s h j') := by
  refine ⟨⟨_, s.clips, s.verifyQueue, s.sending, s.waitingReply, s.notices, s.missed, rfl⟩, fun i hi _ => ?_,
    fun i hi => setJob_job_of_ne _ hi _, fun _ => .inl rfl⟩
  obtain rfl := Option.some.inj (hj.symm.trans hi)
  exact ⟨j', setJob_job_self _ _ _, hjudged⟩

theorem issueTask_closes (h : Nat) (s : State) (c : Nat) : Closes h s (issueTask s c) := by
  unfold issueTask
  split
  next k hk =>
    split
    next hstaged =>
      refine ⟨⟨s.jobs, _, _, s.sending, s.waitingReply, s.notices, s.missed, rfl⟩, fun j hj hst => ⟨j, hj, hst, rfl⟩, fun _ _ => rfl,
        fun i => ?_⟩
      by_cases hi : i = c
      · subst hi
        exact .inr ⟨k, hk, hstaged, setClip_clip_self _ _ _⟩
      · exact .inl (setClip_clip_of_ne _ hi _)
    · exact .refl h s
  · exact .refl h s

theorem drainJob_closes (s : State) (h : Nat) : Closes h s (drainJob s h) := by
  unfold drainJob
  split
  next j hj =>
    split
    · have hdrained : Closes h s (Machine.notify (.jobDrained h) (Machine.setJob s h { j with state := .drained, tasksIssued := true })) :=
        .trans (.setJob hj ⟨by simp, rfl⟩) (.notify h _ _)
      dsimp only
      split
      · exact hdrained.trans (.foldl (issueTask_closes h) _ _)
      · exact hdrained
    · exact .refl h s
  · exact .refl h s

/-- The evaluation of an open job: the attention and clearable results are those of the record it leaves (R143, R144). -/
theorem evalJob_closes {j : Job} (hj : s.job h = some j) (hst : j.state ≠ .closing) :
    Closes h s (evalJob s h) ∧ ∃ j', (evalJob s h).job h = some j' ∧ j.Judged j' ∧ j'.attention = attentionMet s j' ∧
      j'.clearable = clearableMet s j' := by
  have hjudged : j.Judged { j with attention := attentionMet s j, clearable := clearableMet s j } := ⟨hst, rfl⟩
  have hset := Closes.setJob hj hjudged
  simp only [evalJob, hj, if_neg hst]
  split
  · exact ⟨hset, _, setJob_job_self _ _ _, hjudged, rfl, rfl⟩
  · split
    · exact ⟨hset.trans (.notify h _ _), _, by rw [notify_job, setJob_job_self], hjudged, rfl, rfl⟩
    · exact ⟨hset.trans (.notify h _ _), _, by rw [notify_job, setJob_job_self], hjudged, rfl, rfl⟩

/-- The tests of an open job judge it and free nothing. -/
theorem closeJobs_closes {j : Job} (hj : s.job h = some j) (hst : j.state ≠ .closing) :
    Closes h s (closeJobs [h] s) ∧ ∃ j', (closeJobs [h] s).job h = some j' ∧ j.Judged j' ∧
      j'.attention = attentionMet (closeJobs [h] s) j' ∧ j'.clearable = clearableMet (closeJobs [h] s) j' := by
  have hdrain := drainJob_closes s h
  obtain ⟨j1, hj1, hjudged⟩ := hdrain.job j hj hst
  obtain ⟨heval, j2, hj2, hjudged', hattention, hclearable⟩ := evalJob_closes hj1 hjudged.opened
  have hfree : closeJobs [h] s = evalJob (drainJob s h) h := freeJob_open hj2 hjudged'.opened
  have hclips : ∀ c, (evalJob (drainJob s h) h).clip c = (drainJob s h).clip c := fun c =>
    congrArg (lookup · c) (evalJob_clips (drainJob s h) h)
  rw [hfree]
  refine ⟨hdrain.trans heval, j2, hj2, hjudged.trans hjudged', ?_, ?_⟩
  · rw [hattention]
    simp only [attentionMet, hclips]
  · rw [hclearable]
    simp only [clearableMet, hclips]

/-! ### The monitors' turn -/

/-- Destinations may have joined a job's hold sets; everything else but the hold-changed flag stands (R159). -/
structure Job.HeldMore (j j' : Job) : Prop where
  rest : j' = { j with softHold := j'.softHold, hardHold := j'.hardHold, holdChanged := j'.holdChanged }
  soft : ∀ d, dmem j.softHold d = true → dmem j'.softHold d = true
  hard : ∀ d, dmem j.hardHold d = true → dmem j'.hardHold d = true

theorem Job.HeldMore.refl (j : Job) : j.HeldMore j := ⟨rfl, fun _ => id, fun _ => id⟩

theorem Job.HeldMore.trans {i j k : Job} (h : i.HeldMore j) (l : j.HeldMore k) : i.HeldMore k := by
  refine ⟨?_, fun d => l.soft d ∘ h.soft d, fun d => l.hard d ∘ h.hard d⟩
  rw [l.rest, h.rest]

theorem dmem_dinsert (set : DestSet) (d e : Dest) : dmem (dinsert set d) e = (dmem set e || decide (e = d)) := by
  revert set d e
  decide

theorem dmem_derase (set : DestSet) (d e : Dest) : dmem (derase set d) e = (dmem set e && decide (e ≠ d)) := by
  revert set d e
  decide

theorem withHolds_rest (j : Job) (soft hard : DestSet) :
    j.withHolds soft hard = { j with softHold := soft, hardHold := hard, holdChanged := (j.withHolds soft hard).holdChanged } := by
  unfold Job.withHolds
  dsimp only
  split <;> rfl

@[simp] theorem withHolds_softHold (j : Job) (soft hard : DestSet) : (j.withHolds soft hard).softHold = soft := by rw [withHolds_rest]

@[simp] theorem withHolds_hardHold (j : Job) (soft hard : DestSet) : (j.withHolds soft hard).hardHold = hard := by rw [withHolds_rest]

theorem heldBy_heldMore (d : Dest) (hard : Bool) (j : Job) : j.HeldMore (j.heldBy d hard) := by
  unfold Job.heldBy
  split
  · split
    · refine ⟨?_, ?_, ?_⟩
      · rw [withHolds_hardHold, withHolds_softHold]
        exact withHolds_rest _ _ _
      · simp
      · simp +contextual [dmem_dinsert]
    · refine ⟨?_, ?_, ?_⟩
      · rw [withHolds_hardHold, withHolds_softHold]
        exact withHolds_rest _ _ _
      · simp +contextual [dmem_dinsert]
      · simp
  · exact .refl j

/-- Every job is as it was, but for holds that it has gained. -/
def JobsHeldMore (s t : State) : Prop := ∀ h j, s.job h = some j → ∃ j', t.job h = some j' ∧ j.HeldMore j'

theorem JobsHeldMore.refl (s : State) : JobsHeldMore s s := fun _ j hj => ⟨j, hj, .refl j⟩

theorem JobsHeldMore.trans (k : JobsHeldMore s t) (l : JobsHeldMore t u) : JobsHeldMore s u := fun h j hj => by
  obtain ⟨j', hj', hheld⟩ := k h j hj
  obtain ⟨j'', hj'', hheld'⟩ := l h j' hj'
  exact ⟨j'', hj'', hheld.trans hheld'⟩

theorem addHolds_job (d : Dest) (hard : Bool) (s : State) (h : Nat) : (addHolds d hard s).job h = (s.job h).map (Job.heldBy d hard) := by
  rw [addHolds_eq]
  exact lookup_map (fun _ x => x.heldBy d hard) s.jobs h

theorem addHolds_heldMore (d : Dest) (hard : Bool) (s : State) : JobsHeldMore s (addHolds d hard s) := fun h j hj =>
  ⟨_, by rw [addHolds_job, hj, Option.map_some], heldBy_heldMore d hard j⟩

theorem seeBacklog_heldMore (s : State) (d : Dest) : JobsHeldMore s (seeBacklog s d) := by
  have hset (x : Monitor) : JobsHeldMore s (setMonitor s d x) := .refl s
  unfold seeBacklog
  dsimp only
  split
  · exact .refl s
  · split
    · split
      · exact hset _
      · unfold crossingHolds
        split
        · exact (hset _).trans (addHolds_heldMore _ _ _)
        · exact (hset _).trans (addHolds_heldMore _ _ _)
        · exact hset _
    · exact hset _

theorem seeBacklogs_heldMore (l : List Dest) (s : State) : JobsHeldMore s (l.foldl seeBacklog s) := by
  induction l generalizing s with
  | nil => exact .refl s
  | cons d l ih => exact (seeBacklog_heldMore s d).trans (ih _)

theorem crossingHolds_monitor (d : Dest) (m : Monitor) (s : State) (e : Dest) : (crossingHolds d m s).monitor e = s.monitor e := by
  unfold crossingHolds
  split <;> rfl

theorem seeBacklog_monitor_of_ne {d e : Dest} (he : e ≠ d) (s : State) : (seeBacklog s d).monitor e = s.monitor e := by
  unfold seeBacklog
  dsimp only
  split
  · rfl
  · split
    · split
      · exact setMonitor_monitor_of_ne _ he _
      · rw [crossingHolds_monitor, setMonitor_monitor_of_ne _ he]
    · exact setMonitor_monitor_of_ne _ he _

theorem seeBacklogs_monitor_of_not_mem {e : Dest} {l : List Dest} (he : e ∉ l) (s : State) : (l.foldl seeBacklog s).monitor e = s.monitor e := by
  induction l generalizing s with
  | nil => rfl
  | cons d l ih =>
    obtain ⟨hd, hl⟩ := not_or.mp (List.mem_cons.not.mp he)
    exact (ih hl _).trans (seeBacklog_monitor_of_ne hd s)

/-- Monitor `d` is below, and destination `d`'s backlog then exceeds its threshold outside the holdoff (R156, R157). -/
structure Crosses (s : State) (d : Dest) : Prop where
  below : (s.monitor d).above = false
  exceeds : threshold (s.monitor d).level < backlog (s.dest d)
  outside : (s.monitor d).holdoff ≤ s.now - s.windowStart

/-- Monitor `d` after a crossing upwards (R156, R158). -/
def Monitor.crossed (m : Monitor) : Monitor := { m with above := true, tripped := m.tripped || decide (m.mode ≠ .off) }

/-- The crossing's holds stand on every job that was READING and uses `d` (R159). -/
def HoldsPlaced (d : Dest) (mode : MonitorMode) (s t : State) : Prop :=
  ∀ h j, s.job h = some j → j.state = .reading → dmem j.destSet d = true → ∃ j', t.job h = some j' ∧
    (mode = .soft → dmem j'.softHold d = true) ∧ (mode = .hard → dmem j'.hardHold d = true)

theorem HoldsPlaced.before {d : Dest} {mode : MonitorMode} (k : JobsHeldMore s t) (l : HoldsPlaced d mode t u) : HoldsPlaced d mode s u :=
  fun h j hj hreading huses => by
    obtain ⟨j', hj', hheld⟩ := k h j hj
    refine l h j' hj' ?_ ?_
    · rw [hheld.rest, hreading]
    · rw [hheld.rest, huses]

/-- No job has lost a hold. -/
def HoldsKept (s t : State) : Prop :=
  ∀ h j, s.job h = some j → ∃ j', t.job h = some j' ∧ (∀ d, dmem j.softHold d = true → dmem j'.softHold d = true) ∧
    ∀ d, dmem j.hardHold d = true → dmem j'.hardHold d = true

theorem JobsHeldMore.kept (k : JobsHeldMore s t) : HoldsKept s t := fun h j hj => by
  obtain ⟨j', hj', hheld⟩ := k h j hj
  exact ⟨j', hj', hheld.soft, hheld.hard⟩

theorem Closes.kept {j : Job} (k : Closes h s t) (hj : s.job h = some j) (hst : j.state ≠ .closing) : HoldsKept s t := fun i x hx => by
  by_cases hi : i = h
  · subst hi
    obtain rfl := Option.some.inj (hj.symm.trans hx)
    obtain ⟨j', hj', hjudged⟩ := k.job j hj hst
    exact ⟨j', hj', by rw [hjudged.rest]; exact fun _ => id, by rw [hjudged.rest]; exact fun _ => id⟩
  · exact ⟨x, (k.others i hi).trans hx, fun _ => id, fun _ => id⟩

theorem HoldsPlaced.after {d : Dest} {mode : MonitorMode} (k : HoldsPlaced d mode s t) (l : HoldsKept t u) : HoldsPlaced d mode s u :=
  fun h j hj hreading huses => by
    obtain ⟨j', hj', hsoft, hhard⟩ := k h j hj hreading huses
    obtain ⟨j'', hj'', hsofter, hharder⟩ := l h j' hj'
    exact ⟨j'', hj'', hsofter d ∘ hsoft, hharder d ∘ hhard⟩

theorem seeBacklog_crosses {d : Dest} (hcross : Crosses s d) :
    (seeBacklog s d).monitor d = (s.monitor d).crossed ∧ HoldsPlaced d (s.monitor d).mode s (seeBacklog s d) := by
  obtain ⟨hbelow, hover, houtside⟩ := hcross
  have hinside : insideHoldoff s (s.monitor d) = false := decide_eq_false (Nat.not_lt.mpr houtside)
  have heq : seeBacklog s d = crossingHolds d (s.monitor d) (setMonitor s d (s.monitor d).crossed) := by
    simp only [seeBacklog, hover, hbelow, hinside, decide_true]
    rfl
  rw [heq]
  refine ⟨by rw [crossingHolds_monitor, setMonitor_monitor_self], fun h j hj hreading huses => ?_⟩
  have hjob (hard : Bool) : (addHolds d hard (setMonitor s d (s.monitor d).crossed)).job h = some (j.heldBy d hard) := by
    rw [addHolds_job, setMonitor_job, hj, Option.map_some]
  unfold crossingHolds
  split
  next hmode =>
    refine ⟨_, hjob false, fun _ => ?_, fun hhard => absurd (hmode.symm.trans hhard) (by decide)⟩
    simp [Job.heldBy, hreading, huses, dmem_dinsert]
  next hmode =>
    refine ⟨_, hjob true, fun hsoft => absurd (hmode.symm.trans hsoft) (by decide), fun _ => ?_⟩
    simp [Job.heldBy, hreading, huses, dmem_dinsert]
  next hsoft hhard => exact ⟨j, hj, fun hmode => absurd hmode hsoft, fun hmode => absurd hmode hhard⟩

theorem allDests_nodup : allDests.Nodup := by decide

/-- A crossing is seen once, in whatever order the monitors take their turns (R156, R159). -/
theorem seeBacklogs_crosses {d : Dest} (hcross : Crosses s d) :
    (allDests.foldl seeBacklog s).monitor d = (s.monitor d).crossed ∧
      HoldsPlaced d (s.monitor d).mode s (allDests.foldl seeBacklog s) := by
  obtain ⟨before, after, hsplit⟩ := List.append_of_mem (mem_allDests d)
  have hnodup := allDests_nodup
  rw [hsplit] at hnodup ⊢
  obtain ⟨_, hafter, hdisjoint⟩ := List.nodup_append.mp hnodup
  have hbefore : d ∉ before := fun hd => hdisjoint d hd d List.mem_cons_self rfl
  obtain ⟨_, _, hframe⟩ := seeBacklogs_frame (s := s) before
  have hmonitor := seeBacklogs_monitor_of_not_mem hbefore s
  have hcross' : Crosses (before.foldl seeBacklog s) d := by
    refine ⟨by rw [hmonitor, hcross.below], ?_, ?_⟩
    · rw [hmonitor, hframe]
      exact hcross.exceeds
    · rw [hmonitor, hframe]
      exact hcross.outside
  obtain ⟨hcrossed, hplaced⟩ := seeBacklog_crosses hcross'
  rw [hmonitor] at hcrossed hplaced
  rw [List.foldl_append, List.foldl_cons]
  refine ⟨?_, (HoldsPlaced.before (seeBacklogs_heldMore before s) hplaced).after (seeBacklogs_heldMore after _).kept⟩
  rw [seeBacklogs_monitor_of_not_mem (List.nodup_cons.mp hafter).1, hcrossed]

theorem tellAll_keeps_told {n : Notice} (ns : List Notice) (s : State) (htold : s.Told n) : (tellAll ns s).Told n := by
  unfold tellAll
  induction ns generalizing s with
  | nil => exact htold
  | cons m ns ih => exact ih _ (notify_keeps_told htold m)

/-- What the end of an event that changes backlogs makes of a state in which job `h` is open (R77, R156, R159). -/
structure EndsSeen (h : Nat) (s t : State) : Prop where
  told : ∀ n, s.Told n → t.Told n
  clip : ∀ c, t.clip c = s.clip c ∨ ∃ k, s.clip c = some k ∧ k.sourceState = .staged ∧ t.clip c = some { k with sv := .queued }
  job : ∀ j, s.job h = some j → ∃ j1 j', t.job h = some j' ∧ j.HeldMore j1 ∧ j1.Judged j'
  crosses : ∀ d, Crosses s d → t.monitor d = (s.monitor d).crossed ∧ HoldsPlaced d (s.monitor d).mode s t
  request : ∀ p, (t.port p).request = (s.port p).request
  chunk : ∀ p, (t.reader p).chunk = (s.reader p).chunk
  blocksRead : ∀ p, (t.reader p).blocksRead = (s.reader p).blocksRead
  slots : t.slots = s.slots
  freeSlots : t.freeSlots = s.freeSlots
  mem : t.mem = s.mem
  dests : t.dests = s.dests
  known : t.known = s.known
  cfg : t.cfg = s.cfg

theorem endsSeen {j : Job} (hj : s.job h = some j) (hst : j.state ≠ .closing) : EndsSeen h s (refresh (closeSeen [h] s)) := by
  obtain ⟨_, _, _, _, _, _, _, _, hsettles⟩ := closeSeen_settles s [h]
  obtain ⟨_, _, hseen⟩ := seeBacklogs_frame (s := s) allDests
  obtain ⟨j1, hj1, hheld⟩ := seeBacklogs_heldMore allDests s h j hj
  have hst1 : j1.state ≠ .closing := by
    rw [hheld.rest]
    exact hst
  obtain ⟨hcloses, -⟩ := closeJobs_closes hj1 hst1
  have htested := closeJobs_tested [h] (allDests.foldl seeBacklog s)
  have hcrosses := fun d => seeBacklogs_crosses (s := s) (d := d)
  have htold : ∀ n, (closeJobs [h] (allDests.foldl seeBacklog s)).Told n → (closeSeen [h] s).Told n := fun _ => tellAll_keeps_told _ _
  have hclosed : ∃ sending waiting notices missed, closeSeen [h] s = { closeJobs [h] (allDests.foldl seeBacklog s) with
      sending := sending, waitingReply := waiting, notices := notices, missed := missed } := tellAll_frame _ _
  generalize closeSeen [h] s = w at *
  generalize allDests.foldl seeBacklog s = v at *
  generalize closeJobs [h] v = u at *
  obtain ⟨_, _, _, _, htell⟩ := hclosed
  have hjobs (i : Nat) : (refresh w).job i = u.job i := by
    rw [refresh_job, htell]
    rfl
  have hclips (i : Nat) : (refresh w).clip i = u.clip i := by
    rw [refresh_clip, htell]
    rfl
  refine ⟨fun n hn => ?_, fun c => ?_, fun x hx => ?_, fun d hcross => ?_, fun p => ?_, fun p => ?_, fun p => ?_, ?_, ?_, ?_, ?_, ?_, ?_⟩
  · refine refresh_keeps_told (htold n (htested.told n ?_))
    rw [hseen]
    exact hn
  · have hsame : v.clip c = s.clip c := by
      rw [hseen]
      rfl
    rw [hclips, ← hsame]
    exact hcloses.clip c
  · obtain rfl := Option.some.inj (hj.symm.trans hx)
    obtain ⟨j', hj', hjudged⟩ := hcloses.job j1 hj1 hst1
    exact ⟨j1, j', (hjobs h).trans hj', hheld, hjudged⟩
  · obtain ⟨hmonitor, hplaced⟩ := hcrosses d hcross
    obtain ⟨_, _, _, _, _, _, _, hrest⟩ := hcloses.rest
    refine ⟨?_, hplaced.after fun i x hx => ?_⟩
    · rw [refresh_monitor, htell, ← hmonitor, hrest]
      rfl
    · rw [hjobs]
      exact hcloses.kept hj1 hst1 i x hx
  · rw [refresh_port, hsettles]
    rfl
  · rw [refresh_reader, hsettles]
    rfl
  · rw [refresh_reader, hsettles]
    rfl
  all_goals
    rw [hsettles]
    rfl

end

end Sys2Proof.Machine
end

section
/-! SUPPORT. Copies of one clip that fail one after the other (R74, R75, R77, R82), and chunk reads that fail for good (R74, R75). -/

namespace Sys2Proof.Machine

-- One theorem at a time: checking them all at once needs more threads than the sandbox gives.
set_option Elab.async false

open Sys2Proof

section
variable {s t u : State} {c : Nat} {cause : Cause} {l : List Dest}

/-! ### Failed copies -/

/-- A clip whose copies on the listed destinations have failed. -/
def Clip.failedAll (l : List Dest) (cause : Cause) (k : Clip) : Clip := l.foldl (fun k d => k.failed d .failed cause) k

@[simp] theorem setCopy_recopySet (k : Clip) (d : Dest) (x : Copy) : (k.setCopy d x).recopySet = k.recopySet := rfl

@[simp] theorem setCopy_passMembers (k : Clip) (d : Dest) (x : Copy) : (k.setCopy d x).passMembers = k.passMembers := rfl

theorem dmem_left (d : Dest) (k : Clip) (e : Dest) :
    dmem (k.left d).recopySet e = (dmem k.recopySet e && decide (e ≠ d)) ∧
      dmem (k.left d).passMembers e = (dmem k.passMembers e && !(dmem k.recopySet e && decide (e = d))) := by
  unfold Clip.left
  split
  next hd =>
    rw [dmem_derase, dmem_derase]
    by_cases he : e = d <;> simp [he, hd]
  next hd => by_cases he : e = d <;> simp [he, hd]

theorem failed_rest (d : Dest) (st : CopyState) (cause : Cause) (k : Clip) : k.failed d st cause =
    { k with copies := (k.failed d st cause).copies, recopySet := (k.failed d st cause).recopySet
             passMembers := (k.failed d st cause).passMembers } := by
  unfold Clip.failed Clip.left
  split <;> rfl

theorem failedAll_rest (l : List Dest) (cause : Cause) (k : Clip) : k.failedAll l cause =
    { k with copies := (k.failedAll l cause).copies, recopySet := (k.failedAll l cause).recopySet
             passMembers := (k.failedAll l cause).passMembers } := by
  unfold Clip.failedAll
  induction l generalizing k with
  | nil => rfl
  | cons d l ih =>
    rw [List.foldl_cons, ih, failed_rest]

theorem failedAll_copy (l : List Dest) (cause : Cause) (k : Clip) (e : Dest) :
    (k.failedAll l cause).copy e = if e ∈ l then { k.copy e with state := .failed, cause := cause } else k.copy e := by
  unfold Clip.failedAll
  induction l generalizing k with
  | nil => simp
  | cons d l ih =>
    rw [List.foldl_cons, ih, failed_copy]
    by_cases he : e = d <;> by_cases hl : e ∈ l <;> simp [he, hl]

theorem failedAll_recopySet (l : List Dest) (cause : Cause) (k : Clip) (e : Dest) :
    dmem (k.failedAll l cause).recopySet e = (dmem k.recopySet e && decide (e ∉ l)) := by
  unfold Clip.failedAll
  induction l generalizing k with
  | nil => simp
  | cons d l ih =>
    rw [List.foldl_cons, ih, Clip.failed, (dmem_left d _ e).1, setCopy_recopySet]
    by_cases he : e = d <;> simp [he]

theorem failedAll_passMembers (l : List Dest) (cause : Cause) (k : Clip) (e : Dest) :
    dmem (k.failedAll l cause).passMembers e = (dmem k.passMembers e && !(dmem k.recopySet e && decide (e ∈ l))) := by
  unfold Clip.failedAll
  induction l generalizing k with
  | nil => simp
  | cons d l ih =>
    rw [List.foldl_cons, ih, Clip.failed, (dmem_left d _ e).1, (dmem_left d _ e).2, setCopy_recopySet, setCopy_passMembers]
    by_cases he : e = d <;> simp [he]

/-- What failing copies of clip `c` may make of a job's record: only the recopy list moves, and only in what it says of `c` (R82). -/
def Job.RecopyMoved (c : Nat) (j j' : Job) : Prop :=
  j' = { j with recopy := j'.recopy } ∧ j'.recopy.filter (fun i => decide (i ≠ c)) = j.recopy.filter (fun i => decide (i ≠ c))

/-- The copies of clip `c` on the listed destinations have failed and been told of; nothing else has happened (R82, R167). -/
structure Fails (c : Nat) (cause : Cause) (l : List Dest) (s t : State) : Prop where
  rest : ∃ clips readers jobs sending waiting notices missed, t = { s with
    clips := clips, readers := readers, jobs := jobs, sending := sending, waitingReply := waiting, notices := notices, missed := missed }
  clip : ∀ i, t.clip i = if i = c then (s.clip c).map (Clip.failedAll l cause) else s.clip i
  job : ∀ h j, s.job h = some j → ∃ j', t.job h = some j' ∧ j.RecopyMoved c j'
  reader : ∀ p, (s.reader p).chunk = none → t.reader p = s.reader p
  told : ∀ n, s.Told n → t.Told n
  tells : ∀ k, s.clip c = some k → ∀ d ∈ l, t.Told (.copyState k.job c (.copy d .failed) cause)

theorem Fails.nil (c : Nat) (cause : Cause) (s : State) : Fails c cause [] s s := by
  refine ⟨⟨s.clips, s.readers, s.jobs, s.sending, s.waitingReply, s.notices, s.missed, rfl⟩, fun i => ?_, fun h j hj => ⟨j, hj, rfl, rfl⟩,
    fun _ _ => rfl, fun _ => id, fun _ _ d hd => absurd hd List.not_mem_nil⟩
  split
  next hi =>
    rw [hi]
    exact (congrFun Option.map_id _).symm
  · rfl

theorem Fails.append {l' : List Dest} (h : Fails c cause l s t) (i : Fails c cause l' t u) : Fails c cause (l ++ l') s u := by
  refine ⟨?_, fun n => ?_, fun n j hj => ?_, fun p hp => ?_, fun n => i.told n ∘ h.told n, fun k hk d hd => ?_⟩
  · obtain ⟨_, _, _, _, _, _, _, ht⟩ := h.rest
    obtain ⟨clips, readers, jobs, sending, waiting, notices, missed, hu⟩ := i.rest
    exact ⟨clips, readers, jobs, sending, waiting, notices, missed, by rw [hu, ht]⟩
  · rw [i.clip, h.clip, h.clip, if_pos rfl, Option.map_map]
    split
    · congr 1
      funext k
      simp [Clip.failedAll]
    · rfl
  · obtain ⟨j', hj', hrest, hrecopy⟩ := h.job n j hj
    obtain ⟨j'', hj'', hrest', hrecopy'⟩ := i.job n j' hj'
    exact ⟨j'', hj'', by rw [hrest', hrest], hrecopy'.trans hrecopy⟩
  · have hreader := h.reader p hp
    exact (i.reader p (by rw [hreader, hp])).trans hreader
  · rcases List.mem_append.mp hd with hd | hd
    · exact i.told _ (h.tells k hk d hd)
    · have hk' : t.clip c = some (k.failedAll l cause) := by rw [h.clip, if_pos rfl, hk, Option.map_some]
      have htold := i.tells _ hk' d hd
      rw [failedAll_rest] at htold
      exact htold

theorem cancelPass_reader {p : Port} (c : Nat) (hp : (s.reader p).chunk = none) : (cancelPass c s).reader p = s.reader p := by
  have hmap : (cancelPass c s).reader p = { s.reader p with
      chunk := (s.reader p).chunk.map (fun x => if x.clip = c ∧ x.recopy = true then { x with cancelled := true } else x) } := by
    simp [cancelPass, State.reader]
  rw [hmap, hp, Option.map_none, ← hp]

theorem leaveRecopyList_job (c : Nat) {h : Nat} {j : Job} (hj : s.job h = some j) :
    ∃ j', (leaveRecopyList c s).job h = some j' ∧ j.RecopyMoved c j' := by
  unfold leaveRecopyList
  split
  next k hk =>
    split
    · rw [modJob_job]
      split
      next hh => exact ⟨_, by rw [← hh, hj, Option.map_some], rfl, by simp⟩
      · exact ⟨j, hj, rfl, rfl⟩
    · exact ⟨j, hj, rfl, rfl⟩
  · exact ⟨j, hj, rfl, rfl⟩

theorem leaveRecopy_job (c : Nat) (d : Dest) {h : Nat} {j : Job} (hj : s.job h = some j) :
    ∃ j', (leaveRecopy c d s).job h = some j' ∧ j.RecopyMoved c j' := by
  unfold leaveRecopy
  split
  · split
    · dsimp only
      split
      · exact leaveRecopyList_job c hj
      · exact leaveRecopyList_job c hj
    · exact ⟨j, hj, rfl, rfl⟩
  · exact ⟨j, hj, rfl, rfl⟩

theorem leaveRecopy_reader (c : Nat) (d : Dest) {p : Port} (hp : (s.reader p).chunk = none) : (leaveRecopy c d s).reader p = s.reader p := by
  have hlist (t : State) : (leaveRecopyList c t).reader p = t.reader p := by
    obtain ⟨_, hframe⟩ := leaveRecopyList_frame (s := t) c
    rw [hframe]
    rfl
  unfold leaveRecopy
  split
  · split
    · dsimp only
      rw [hlist]
      split
      · exact cancelPass_reader c hp
      · rfl
    · rfl
  · rfl

theorem leaveRecopy_keeps_told {n : Notice} (c : Nat) (d : Dest) (hn : s.Told n) : (leaveRecopy c d s).Told n := by
  obtain ⟨_, _, _, hframe⟩ := leaveRecopy_frame (s := s) c d
  rw [hframe]
  exact hn

theorem tellCopy_told {news : CopyNews} {k : Clip} (hk : s.clip c = some k) : (tellCopy c news cause s).Told (.copyState k.job c news cause) := by
  simp only [tellCopy, hk]
  exact notify_told _ _

theorem tellCopy_keeps_told {n : Notice} (c : Nat) (news : CopyNews) (cause : Cause) (hn : s.Told n) : (tellCopy c news cause s).Told n := by
  unfold tellCopy
  split
  · exact notify_keeps_told hn _
  · exact hn

theorem failCopy_fails (c : Nat) (d : Dest) (cause : Cause) (s : State) : Fails c cause [d] s (failCopy c d .failed cause s) := by
  obtain ⟨_, hset⟩ := modClip_frame s c (fun k => k.setCopy d { k.copy d with state := .failed, cause := cause })
  obtain ⟨_, _, _, _, htell⟩ := tellCopy_frame (s := leaveRecopy c d (setCopyState c d .failed cause s)) c (.copy d .failed) cause
  refine ⟨failCopy_frame s c d .failed cause, fun i => failCopy_clip c d .failed cause i, fun h j hj => ?_, fun p hp => ?_, fun n hn => ?_,
    fun k hk e he => ?_⟩
  · have hjob : (setCopyState c d .failed cause s).job h = some j := by
      rw [setCopyState, hset]
      exact hj
    obtain ⟨j', hj', hmoved⟩ := leaveRecopy_job c d hjob
    refine ⟨j', ?_, hmoved⟩
    rw [failCopy, htell]
    exact hj'
  · have hreader : (setCopyState c d .failed cause s).reader p = s.reader p := by
      rw [setCopyState, hset]
      rfl
    rw [failCopy, htell]
    exact (leaveRecopy_reader c d (by rw [hreader, hp])).trans hreader
  · refine tellCopy_keeps_told c _ cause (leaveRecopy_keeps_told c d ?_)
    rw [setCopyState, hset]
    exact hn
  · obtain rfl := List.mem_singleton.mp he
    have hclip : (leaveRecopy c e (setCopyState c e .failed cause s)).clip c = some (k.failed e .failed cause) := by
      have hfailed := failCopy_clip (s := s) c e .failed cause c
      rwa [failCopy, tellCopy_clip, if_pos rfl, hk, Option.map_some] at hfailed
    have htold := tellCopy_told (news := .copy e .failed) (cause := cause) hclip
    rw [failed_rest] at htold
    exact htold

/-- Copies of one clip fail one after the other. -/
theorem failCopies_fails (c : Nat) (cause : Cause) (l : List Dest) (s : State) :
    Fails c cause l s (l.foldl (fun t d => failCopy c d .failed cause t) s) := by
  induction l generalizing s with
  | nil => exact .nil c cause s
  | cons d l ih => exact (failCopy_fails c d cause s).append (ih _)

theorem failPendings_fails {k : Clip} (hk : s.clip c = some k) (hl : l.Nodup) :
    Fails c .readError (l.filter (fun d => decide ((k.copy d).state = .pending))) s
      (l.foldl (fun t d => if copyIs t c d .pending then failCopy c d .failed .readError t else t) s) := by
  induction l generalizing s k with
  | nil => exact .nil c _ s
  | cons d l ih =>
    obtain ⟨hd, hl⟩ := List.nodup_cons.mp hl
    have hcopyIs : copyIs s c d .pending = decide ((k.copy d).state = .pending) := by simp [copyIs, hk]
    rw [List.foldl_cons, hcopyIs, List.filter_cons]
    by_cases hpending : (k.copy d).state = .pending
    · rw [if_pos (decide_eq_true hpending), if_pos (decide_eq_true hpending)]
      have hfirst := failCopy_fails c d .readError s
      have hk' : (failCopy c d .failed .readError s).clip c = some (k.failed d .failed .readError) := by
        rw [failCopy_clip, if_pos rfl, hk, Option.map_some]
      have hsame : ∀ e ∈ l, decide (((k.failed d .failed .readError).copy e).state = .pending) = decide ((k.copy e).state = .pending) := by
        intro e he
        have hne : e ≠ d := fun heq => hd (heq ▸ he)
        rw [failed_copy, if_neg hne]
      rw [← List.filter_congr hsame]
      exact hfirst.append (ih hk' hl)
    · rw [if_neg (by simpa using hpending), if_neg (by simpa using hpending)]
      exact ih hk hl

/-- The copies that are PENDING and in the set fail (R74, R75). -/
theorem failPending_fails {k : Clip} (hk : s.clip c = some k) (set : DestSet) :
    Fails c .readError ((allDests.filter (dmem set)).filter (fun d => decide ((k.copy d).state = .pending))) s (failPending c set s) :=
  failPendings_fails hk (allDests_nodup.filter _)

/-! ### A chunk read that fails for good (R74, R75) -/

/-- Whether the failure of a chunk read fails the clip's copy on `d`. -/
def ChunkRead.spoils (c : ChunkRead) (k : Clip) (d : Dest) : Bool :=
  decide ((k.copy d).state = .pending) && (!c.recopy || dmem k.recopySet d)

/-- What the failure of a chunk read makes of its clip and of the clip's job (R74 for a first read, R75 for a recopy pass). -/
def spoilRead (c : ChunkRead) (s : State) : State :=
  if c.recopy then
    leaveRecopyList c.clip (modClip c.clip (fun k => { k with recopySet := 0, passMembers := 0 })
      (failPending c.clip (((s.clip c.clip).map Clip.recopySet).getD 0) s))
  else failPending c.clip 15 (modClip c.clip (fun k => { k with sourceState := .sourceError }) s)

theorem failChunk_eq (p : Port) (c : ChunkRead) (s : State) :
    failChunk p c s = refresh (closeJobs [c.job] (cardKick p (spoilRead c (tellReadError c (dropChunk p c s))))) := rfl

/-- Clip `k` and its job `j`, in state `s`, have been spoiled in state `t` by the failure of chunk read `c`. -/
structure ReadSpoiled (c : ChunkRead) (k : Clip) (j : Job) (s t : State) : Prop where
  rest : ∃ clips readers jobs sending waiting notices missed, t = { s with
    clips := clips, readers := readers, jobs := jobs, sending := sending, waitingReply := waiting, notices := notices, missed := missed }
  others : ∀ i, i ≠ c.clip → t.clip i = s.clip i
  reader : ∀ p, (s.reader p).chunk = none → t.reader p = s.reader p
  told : ∀ n, s.Told n → t.Told n
  clip : ∃ k', t.clip c.clip = some k' ∧
    k' = { k with
      copies := k'.copies, sourceState := if c.recopy then k.sourceState else .sourceError
      recopySet := k'.recopySet, passMembers := k'.passMembers } ∧
    (∀ d, k'.copy d = if c.spoils k d then { k.copy d with state := .failed, cause := .readError } else k.copy d) ∧
    (c.recopy = true → k'.recopySet = 0 ∧ k'.passMembers = 0)
  job : ∃ j', t.job c.job = some j' ∧ j' = { j with recopy := j'.recopy } ∧
    (c.recopy = true → j'.recopy = j.recopy.filter (fun i => decide (i ≠ c.clip)))
  tells : ∀ d, c.spoils k d = true → t.Told (.copyState c.job c.clip (.copy d .failed) .readError)

theorem mem_spoiled (set : DestSet) (k : Clip) (d : Dest) :
    d ∈ (allDests.filter (dmem set)).filter (fun d => decide ((k.copy d).state = .pending)) ↔
      (k.copy d).state = .pending ∧ dmem set d = true := by
  simp only [List.mem_filter, mem_allDests, true_and, decide_eq_true_eq]
  exact and_comm

theorem spoilRead_first {c : ChunkRead} {k : Clip} {j : Job} (hfirst : c.recopy = false) (hk : s.clip c.clip = some k)
    (hj : s.job c.job = some j) (hjob : k.job = c.job) : ReadSpoiled c k j s (spoilRead c s) := by
  obtain ⟨_, hmod⟩ := modClip_frame s c.clip (fun k => { k with sourceState := .sourceError })
  have hk' : (modClip c.clip (fun k => { k with sourceState := .sourceError }) s).clip c.clip =
      some { k with sourceState := .sourceError } := by
    rw [modClip_clip, if_pos rfl, hk, Option.map_some]
  have hothers (i : Nat) (hi : i ≠ c.clip) : (modClip c.clip (fun k => { k with sourceState := .sourceError }) s).clip i = s.clip i := by
    rw [modClip_clip, if_neg hi]
  have hfails := failPending_fails hk' 15
  have hspoils (d : Dest) : d ∈ (allDests.filter (dmem 15)).filter (fun d => decide ((k.copy d).state = .pending)) ↔
      c.spoils k d = true := by
    have hall : dmem 15 d = true := by
      revert d
      decide
    rw [mem_spoiled, hall, ChunkRead.spoils]
    simp [hfirst]
  have heq : spoilRead c s = failPending c.clip 15 (modClip c.clip (fun k => { k with sourceState := .sourceError }) s) := by
    rw [spoilRead, hfirst]
    rfl
  rw [heq]
  generalize modClip c.clip (fun k => { k with sourceState := .sourceError }) s = v at *
  generalize failPending c.clip 15 v = w at *
  obtain ⟨_, _, _, _, _, _, _, hrest⟩ := hfails.rest
  obtain ⟨j', hj', hmoved, -⟩ := hfails.job c.job j (by rw [hmod]; exact hj)
  refine ⟨⟨_, _, _, _, _, _, _, by rw [hrest, hmod]⟩, fun i hi => ?_, fun p hp => ?_, fun n hn => hfails.told n ?_, ?_,
    ⟨j', hj', hmoved, fun h => absurd (hfirst.symm.trans h) (by decide)⟩, fun d hd => ?_⟩
  · rw [hfails.clip, if_neg hi, hothers i hi]
  · have hreader : v.reader p = s.reader p := by
      rw [hmod]
      rfl
    exact (hfails.reader p (by rw [hreader, hp])).trans hreader
  · rw [hmod]
    exact hn
  · refine ⟨_, by rw [hfails.clip, if_pos rfl, hk', Option.map_some], ?_, fun d => ?_, fun h => absurd (hfirst.symm.trans h) (by decide)⟩
    · rw [hfirst]
      exact failedAll_rest _ _ _
    · rw [failedAll_copy]
      exact if_congr (hspoils d) rfl rfl
  · rw [← hjob]
    exact hfails.tells _ hk' d ((hspoils d).mpr hd)

theorem spoilRead_recopy {c : ChunkRead} {k : Clip} {j : Job} (hrecopy : c.recopy = true) (hk : s.clip c.clip = some k)
    (hj : s.job c.job = some j) (hjob : k.job = c.job) : ReadSpoiled c k j s (spoilRead c s) := by
  have hfails := failPending_fails hk k.recopySet
  have hspoils (d : Dest) : d ∈ (allDests.filter (dmem k.recopySet)).filter (fun d => decide ((k.copy d).state = .pending)) ↔
      c.spoils k d = true := by
    rw [mem_spoiled, ChunkRead.spoils]
    simp [hrecopy]
  have heq : spoilRead c s = leaveRecopyList c.clip (modClip c.clip (fun k => { k with recopySet := 0, passMembers := 0 })
      (failPending c.clip k.recopySet s)) := by
    rw [spoilRead, hrecopy, hk]
    rfl
  rw [heq]
  generalize failPending c.clip k.recopySet s = v at *
  generalize (allDests.filter (dmem k.recopySet)).filter (fun d => decide ((k.copy d).state = .pending)) = l at *
  have hkv : v.clip c.clip = some (k.failedAll l .readError) := by rw [hfails.clip, if_pos rfl, hk, Option.map_some]
  obtain ⟨_, hmod⟩ := modClip_frame v c.clip (fun k => { k with recopySet := 0, passMembers := 0 })
  have hkw : (modClip c.clip (fun k => { k with recopySet := 0, passMembers := 0 }) v).clip c.clip =
      some { k.failedAll l .readError with recopySet := 0, passMembers := 0 } := by
    rw [modClip_clip, if_pos rfl, hkv, Option.map_some]
  have hothers (i : Nat) (hi : i ≠ c.clip) : (modClip c.clip (fun k => { k with recopySet := 0, passMembers := 0 }) v).clip i = s.clip i := by
    rw [modClip_clip, if_neg hi, hfails.clip, if_neg hi]
  obtain ⟨_, _, _, _, _, _, _, hrest⟩ := hfails.rest
  obtain ⟨j1, hj1, hmoved, hlist⟩ := hfails.job c.job j hj
  generalize modClip c.clip (fun k => { k with recopySet := 0, passMembers := 0 }) v = w at *
  have hleave : leaveRecopyList c.clip w = modJob c.job (fun j => { j with recopy := j.recopy.filter (fun i => decide (i ≠ c.clip)) }) w := by
    simp only [leaveRecopyList, hkw, if_true]
    rw [← hjob, failedAll_rest]
  obtain ⟨_, hjobs⟩ := modJob_frame w c.job (fun j => { j with recopy := j.recopy.filter (fun i => decide (i ≠ c.clip)) })
  have hjw : w.job c.job = some j1 := by
    rw [hmod]
    exact hj1
  have hjob' := modJob_job w c.job (fun j => { j with recopy := j.recopy.filter (fun i => decide (i ≠ c.clip)) }) c.job
  rw [if_pos rfl, hjw, Option.map_some] at hjob'
  rw [hleave]
  generalize modJob c.job (fun j => { j with recopy := j.recopy.filter (fun i => decide (i ≠ c.clip)) }) w = u at *
  have hclips (i : Nat) : u.clip i = w.clip i := by
    rw [hjobs]
    rfl
  refine ⟨⟨_, _, _, _, _, _, _, by rw [hjobs, hmod, hrest]⟩, fun i hi => (hclips i).trans (hothers i hi), fun p hp => ?_, fun n hn => ?_,
    ⟨_, (hclips _).trans hkw, ?_, fun d => ?_, fun _ => ⟨rfl, rfl⟩⟩, ⟨_, hjob', ?_, fun _ => hlist⟩, fun d hd => ?_⟩
  · rw [hjobs, hmod]
    exact hfails.reader p hp
  · rw [hjobs, hmod]
    exact hfails.told n hn
  · rw [hrecopy, failedAll_rest]
    rfl
  · exact (failedAll_copy l .readError k d).trans (if_congr (hspoils d) rfl rfl)
  · rw [hmoved]
  · rw [hjobs, hmod, ← hjob]
    exact hfails.tells _ hk d ((hspoils d).mpr hd)

theorem spoilRead_spec {c : ChunkRead} {k : Clip} {j : Job} (hk : s.clip c.clip = some k) (hj : s.job c.job = some j)
    (hjob : k.job = c.job) : ReadSpoiled c k j s (spoilRead c s) := by
  cases hrecopy : c.recopy with
  | false => exact spoilRead_first hrecopy hk hj hjob
  | true => exact spoilRead_recopy hrecopy hk hj hjob

theorem tellReadError_frame {c : ChunkRead} : ∃ sending waiting notices missed, tellReadError c s =
    { s with sending := sending, waitingReply := waiting, notices := notices, missed := missed } := by
  unfold tellReadError
  split
  · exact ⟨_, _, _, _, notify_frame s _⟩
  · exact ⟨s.sending, s.waitingReply, s.notices, s.missed, rfl⟩

/-- A chunk read fails for good: its slot is free, its clip and its job are spoiled, and both errors are told of (R74, R75). -/
theorem failChunk_spec {p : Port} {c : ChunkRead} {k : Clip} {j : Job} (hk : s.clip c.clip = some k) (hj : s.job c.job = some j)
    (hjob : k.job = c.job) (hst : j.state ≠ .closing) :
    ∃ k' j', (failChunk p c s).clip c.clip = some k' ∧ (failChunk p c s).job c.job = some j' ∧
      k' = { k with
        copies := k'.copies, sourceState := if c.recopy then k.sourceState else .sourceError, sv := k'.sv
        recopySet := k'.recopySet, passMembers := k'.passMembers } ∧
      (∀ d, k'.copy d = if c.spoils k d then { k.copy d with state := .failed, cause := .readError } else k.copy d) ∧
      (c.recopy = false → k'.sv = k.sv) ∧ (c.recopy = true → k'.recopySet = 0 ∧ k'.passMembers = 0) ∧
      (c.recopy = true → j'.recopy = j.recopy.filter (fun i => decide (i ≠ c.clip))) ∧
      (∀ d, c.spoils k d = true → (failChunk p c s).Told (.copyState c.job c.clip (.copy d .failed) .readError)) ∧
      (failChunk p c s).Told (.clipReadError c.job c.clip (c.first + c.done) (locate k.source (c.first + c.done)).1 k.label) ∧
      (∀ i, i ≠ c.clip → ((failChunk p c s).clip i).map Clip.copies = (s.clip i).map Clip.copies) ∧
      (failChunk p c s).slot c.slot = none ∧ (failChunk p c s).freeSlots = s.freeSlots ++ [c.slot] ∧
      ((failChunk p c s).reader p).chunk = none := by
  have hdropped : ((dropChunk p c s).reader p).chunk = none := congrArg Reader.chunk (setReader_reader_self s p _)
  have htells : (tellReadError c (dropChunk p c s)).Told
      (.clipReadError c.job c.clip (c.first + c.done) (locate k.source (c.first + c.done)).1 k.label) := by
    have hk' : (dropChunk p c s).clip c.clip = some k := hk
    simp only [tellReadError, hk']
    exact notify_told _ _
  obtain ⟨_, _, _, _, htell⟩ := tellReadError_frame (s := dropChunk p c s) (c := c)
  rw [failChunk_eq]
  generalize tellReadError c (dropChunk p c s) = v at *
  have hspoiled : ReadSpoiled c k j v (spoilRead c v) := by
    refine spoilRead_spec ?_ ?_ hjob
    · rw [htell]
      exact hk
    · rw [htell]
      exact hj
  generalize spoilRead c v = w at *
  obtain ⟨_, _, _, _, _, _, _, hrest⟩ := hspoiled.rest
  obtain ⟨k1, hk1, hrest1, hcopy, hpass⟩ := hspoiled.clip
  obtain ⟨j1, hj1, hrestj, hlist⟩ := hspoiled.job
  obtain ⟨_, hkick⟩ := cardKick_frame w p
  generalize cardKick p w = x at *
  have hj1x : x.job c.job = some j1 := by
    rw [hkick]
    exact hj1
  have hclipx (i : Nat) : x.clip i = w.clip i := by
    rw [hkick]
    rfl
  have htoldx {n : Notice} (hn : w.Told n) : x.Told n := by
    rw [hkick]
    exact hn
  have hst1 : j1.state ≠ .closing := by
    rw [hrestj]
    exact hst
  obtain ⟨hcloses, -⟩ := closeJobs_closes hj1x hst1
  have htested := closeJobs_tested [c.job] x
  generalize closeJobs [c.job] x = y at *
  obtain ⟨_, _, _, _, _, _, _, hclosed⟩ := hcloses.rest
  obtain ⟨j', hj', hjudged⟩ := hcloses.job j1 hj1x hst1
  obtain ⟨k', hk', hmoved, hsame⟩ : ∃ k', y.clip c.clip = some k' ∧ k1.SvMoved k' ∧ (c.recopy = false → k'.sv = k1.sv) := by
    rcases hcloses.clip c.clip with hsame | ⟨k2, hk2, hstaged, hqueued⟩
    · exact ⟨k1, by rw [hsame, hclipx, hk1], rfl, fun _ => rfl⟩
    · obtain rfl := Option.some.inj (hk1.symm.trans ((hclipx _).symm.trans hk2))
      refine ⟨_, hqueued, rfl, fun hfirst => ?_⟩
      rw [hrest1, hfirst] at hstaged
      exact absurd hstaged (by simp)
  refine ⟨k', j', hk', hj', ?_, fun d => ?_, fun hfirst => ?_, fun hrecopy => ?_, fun hrecopy => ?_, fun d hd => ?_, ?_, fun i hi => ?_,
    ?_, ?_, ?_⟩
  · rw [hmoved, hrest1]
  · rw [← hcopy, Clip.copy, hmoved.copies]
    rfl
  · rw [hsame hfirst, hrest1]
  · rw [hmoved]
    exact hpass hrecopy
  · rw [hjudged.rest]
    exact hlist hrecopy
  · exact refresh_keeps_told (htested.told _ (htoldx (hspoiled.tells d hd)))
  · exact refresh_keeps_told (htested.told _ (htoldx (hspoiled.told _ htells)))
  · have hclip : v.clip i = s.clip i := by
      rw [htell]
      rfl
    rw [refresh_clip, ← hclip, ← hspoiled.others i hi, ← hclipx]
    rcases hcloses.clip i with hsame | ⟨k2, hk2, _, hqueued⟩
    · rw [hsame]
    · rw [hqueued, hk2]
      rfl
  · rw [refresh_slot, hclosed, hkick, hrest, htell]
    exact lookup_erase_self _ _
  · rw [refresh_freeSlots, hclosed, hkick, hrest, htell]
    rfl
  · have hreader : v.reader p = (dropChunk p c s).reader p := by
      rw [htell]
      rfl
    rw [refresh_reader, hclosed, hkick]
    change (w.reader p).chunk = none
    rw [hspoiled.reader p (by rw [hreader, hdropped]), hreader, hdropped]

/-! ### A source-verify segment that fails for good (R85, R133) -/

/-- The state in which the segment's engine is free, its clip's source is a MISMATCH, and that has been told of (R133). -/
def sourceFailed (p : Port) (e : EngineIx) (c : Nat) (s : State) : State :=
  tellCopy c (.source .mismatch) .readError
    (setSv c .mismatch (freeEngine e (cardKick p (setReader s p { s.reader p with segment := none, retries := 0 }))))

theorem sourceFailed_spec {p : Port} {e : EngineIx} {k : Clip} (hk : s.clip c = some k) :
    (sourceFailed p e c s).clip c = some { k with sv := .mismatch } ∧
      (sourceFailed p e c s).Told (.copyState k.job c (.source .mismatch) .readError) ∧
      ∃ ports clips sending waiting notices missed, sourceFailed p e c s =
        { setEngine (setReader s p { s.reader p with segment := none, retries := 0 }) e Engine.idle with
          ports := ports, clips := clips, sending := sending, waitingReply := waiting, notices := notices, missed := missed } := by
  obtain ⟨ports, hkick⟩ := cardKick_frame (setReader s p { s.reader p with segment := none, retries := 0 }) p
  rw [sourceFailed, hkick]
  generalize hv : freeEngine e _ = v
  have hkv : v.clip c = some k := by
    rw [← hv]
    exact hk
  have hclip : (setSv c .mismatch v).clip c = some { k with sv := .mismatch } := by
    rw [setSv, modClip_clip, if_pos rfl, hkv, Option.map_some]
  obtain ⟨clips, hmod⟩ := modClip_frame v c (fun k => { k with sv := .mismatch })
  obtain ⟨sending, waiting, notices, missed, htell⟩ := tellCopy_frame (s := setSv c .mismatch v) c (.source .mismatch) .readError
  refine ⟨(tellCopy_clip _ _ _ _ _).trans hclip, tellCopy_told (k := { k with sv := .mismatch }) hclip, ports, clips, sending, waiting, notices, missed, ?_⟩
  rw [htell, setSv, hmod, ← hv]
  rfl

theorem endSegment_eq {p : Port} {g : Segment} {v : Task} {h : Nat} {j : Job} (htask : (s.engine g.engine).task = some (v, h))
    (hcancelled : g.cancelled = false) (hsource : v.target = .source) (hj : s.job h = some j) (hpaused : j.paused = false) :
    endSegment p g false s = refresh (closeJobs [h] (sourceFailed p g.engine v.clip s)) := by
  obtain ⟨_, hkick⟩ := cardKick_frame (setReader s p { s.reader p with segment := none, retries := 0 }) p
  have htask' : ((cardKick p (setReader s p { s.reader p with segment := none, retries := 0 })).engine g.engine).task = some (v, h) := by
    rw [hkick]
    exact htask
  have hjob : jobPaused (cardKick p (setReader s p { s.reader p with segment := none, retries := 0 })) h = false := by
    rw [hkick]
    simp only [jobPaused]
    change (s.job h).any Job.paused = false
    rw [hj, Option.any_some, hpaused]
  simp only [endSegment, Bool.false_eq_true, if_false, segmentFailed, htask', hcancelled, hjob, and_false, settleTarget, hsource, sourceFailed]

theorem endSegment_fails {p : Port} {g : Segment} {v : Task} {h : Nat} {k : Clip} {j : Job} (htask : (s.engine g.engine).task = some (v, h))
    (hcancelled : g.cancelled = false) (hsource : v.target = .source) (hk : s.clip v.clip = some k) (hj : s.job h = some j)
    (hjob : k.job = h) (hst : j.state ≠ .closing) (hpaused : j.paused = false) (hissued : j.tasksIssued = true) :
    ∃ j', (endSegment p g false s).job h = some j' ∧
      (v.clip ∈ j.order → j'.attention = true ∧ (j.sourceVerify = true → j'.clearable = false)) ∧
      (endSegment p g false s).engine g.engine = ⟨none, 0, none, .none⟩ ∧
      (endSegment p g false s).clip v.clip = some { k with sv := .mismatch } ∧
      (endSegment p g false s).Told (.copyState h v.clip (.source .mismatch) .readError) ∧
      (endSegment p g false s).verifyQueue = s.verifyQueue ∧ ((endSegment p g false s).reader p).segment = none ∧
      (endSegment p g false s).slots = s.slots ∧ (endSegment p g false s).dests = s.dests := by
  rw [endSegment_eq htask hcancelled hsource hj hpaused]
  obtain ⟨hclip', htold, hrest⟩ := sourceFailed_spec (p := p) (e := g.engine) hk
  generalize sourceFailed p g.engine v.clip s = w at *
  obtain ⟨_, _, _, _, _, _, hrest⟩ := hrest
  have hjw : w.job h = some j := by
    rw [hrest]
    exact hj
  obtain ⟨_, j', hj', hjudged, hattention, hclearable⟩ := closeJobs_closes hjw hst
  obtain ⟨_, _, _, _, _, _, hclosed, _⟩ := closeJobs_issued hjw hst hissued
  have htested := closeJobs_tested [h] w
  generalize closeJobs [h] w = x at *
  have hclipx : x.clip v.clip = some { k with sv := .mismatch } := by
    rw [hclosed]
    exact hclip'
  refine ⟨j', hj', fun hmem => ⟨?_, fun hsv => ?_⟩, ?_, hclipx, refresh_keeps_told (htested.told _ (hjob ▸ htold)), ?_, ?_, ?_, ?_⟩
  · rw [hattention, attentionMet, List.any_eq_true]
    refine ⟨v.clip, by rw [hjudged.rest]; exact hmem, ?_⟩
    rw [hclipx]
    simp [Clip.needsAttention]
  · rw [hclearable, clearableMet, Bool.and_eq_false_iff]
    refine .inr (List.all_eq_false.mpr ⟨v.clip, by rw [hjudged.rest]; exact hmem, ?_⟩)
    have hsv' : j'.sourceVerify = true := by
      rw [hjudged.rest]
      exact hsv
    rw [hclipx]
    simp [Clip.proven, hsv']
  · rw [refresh_engine, hclosed, hrest]
    exact setEngine_engine_self _ _ _
  · rw [refresh_verifyQueue, hclosed, hrest]
    rfl
  · rw [refresh_reader, hclosed, hrest]
    exact congrArg Reader.segment (setReader_reader_self _ _ _)
  · rw [refresh_slots, hclosed, hrest]
    rfl
  · rw [refresh_dests, hclosed, hrest]
    rfl

end

/-- Settles O18: a chunk read by `failChunk_spec`, a source-verify segment by `endSegment_fails`. -/
theorem fourthReadErrorFailsTheClip : Obligations.FourthReadErrorFailsTheClip := by
  constructor
  · intro p s r c k j hlow _ hr hheld hpresent howner hc hcancelled hretries hk hj hjob hst
    have hexec : exec (.errorConfirm p) s = .next (failChunk p c (confirmed p s)) := by
      rw [exec_errorConfirm hlow hr hheld hpresent, howner]
      simp [deliverError, hc, chunkError, hcancelled, Nat.not_lt.mpr hretries, Config.cardRetries]
    have hflags := (Keeps.refl (confirmed p s)).after_failChunk (p := p) (c := c) |>.flags.read p (by simp)
    obtain ⟨k', j', hk', hj', hrest, hcopy, hsv, hpass, hlist, htells, htold, hothers, hslot, hfree, hchunk⟩ :=
      failChunk_spec (s := confirmed p s) (p := p) hk hj hjob hst
    refine ⟨_, k', j', hexec, hk', hj', by rw [hrest], by rw [hrest], by rw [hrest], hslot, hfree, hchunk, hflags, htold, hothers,
      fun fails hfails => ?_⟩
    have hsame (d : Dest) : c.spoils k d = fails d := by
      rw [Bool.eq_iff_iff, hfails]
      cases hrecopy : c.recopy <;> simp [ChunkRead.spoils, hrecopy, dmem]
    refine ⟨fun d => by rw [hcopy, hsame], fun d hd => htells d ((hsame d).trans hd), fun hfirst => ⟨?_, hsv hfirst⟩,
      fun hrecopy => ⟨?_, (hpass hrecopy).1, (hpass hrecopy).2, hlist hrecopy⟩⟩
    · rw [hrest, hfirst]
      rfl
    · rw [hrest, hrecopy]
      rfl
  · intro p s r g u h k j hlow _ hr hheld hpresent howner hg hcancelled hretries htask hsource hk hj hjob hst hpaused hissued
    have hexec : exec (.errorConfirm p) s = .next (endSegment p g false (confirmed p s)) := by
      rw [exec_errorConfirm hlow hr hheld hpresent, howner]
      simp [deliverError, hg, segmentError, hcancelled, Nat.not_lt.mpr hretries, Config.cardRetries]
    have hflags := (Keeps.refl (confirmed p s)).after_endSegment (p := p) (g := g) (ok := false) |>.flags.read p (by simp)
    obtain ⟨j', hj', hattention, hengine, hclip, htold, hqueue, hsegment, hslots, hdests⟩ :=
      endSegment_fails (s := confirmed p s) (p := p) htask hcancelled hsource hk hj hjob hst hpaused hissued
    exact ⟨_, j', [], hexec, hengine, hclip, htold, by rw [hqueue, List.append_nil]; rfl, fun _ hx => absurd hx List.not_mem_nil, hsegment, hflags,
      hslots, hdests, hj', hattention⟩

end Sys2Proof.Machine
end

section
/-! SUPPORT. A complete chunk is staged (R77, R78, R82, R83): the copies lost, the slot placed, the checkpoint advanced. -/

namespace Sys2Proof.Machine

-- One theorem at a time: checking them all at once needs more threads than the sandbox gives.
set_option Elab.async false

open Sys2Proof

section
variable {s t u : State} {p : Port}

/-! ### Sets of destinations -/

theorem dmem_dsetOf (test : Dest → Bool) (d : Dest) : dmem (dsetOf test) d = test d := by
  have hall : ∀ (a b c e : Bool) (d : Dest), dmem (dsetOf ![a, b, c, e]) d = ![a, b, c, e] d := by decide
  have htest : test = ![test 0, test 1, test 2, test 3] := by
    funext i
    fin_cases i <;> rfl
  rw [htest]
  exact hall _ _ _ _ d

theorem dmem_dminus (set other : DestSet) (d : Dest) : dmem (dminus set other) d = (dmem set d && !dmem other d) := by
  revert set other d
  decide

theorem set_eq_zero_iff (set : DestSet) : set = 0 ↔ ∀ d, dmem set d = false := by
  revert set
  decide

/-! ### The slot and the write queues (R77) -/

theorem placeSlot_empty (n : Nat) (s : State) : placeSlot n 0 s = freeSlot n s := rfl

theorem queueSlot_frame (n : Nat) (l : List Dest) (s : State) : ∃ dests,
    l.foldl (fun t d => setDest t d { t.dest d with writeQueue := (t.dest d).writeQueue ++ [n] }) s = { s with dests := dests } := by
  induction l generalizing s with
  | nil => exact ⟨s.dests, rfl⟩
  | cons d l ih =>
    obtain ⟨dests, hl⟩ := ih (setDest s d { s.dest d with writeQueue := (s.dest d).writeQueue ++ [n] })
    exact ⟨dests, by rw [List.foldl_cons, hl]; rfl⟩

theorem placeSlot_frame (n : Nat) (set : DestSet) (s : State) :
    ∃ slots free dests, placeSlot n set s = { s with slots := slots, freeSlots := free, dests := dests } := by
  unfold placeSlot
  split
  · exact ⟨_, _, s.dests, rfl⟩
  · obtain ⟨slots, hmod⟩ := modSlot_frame s n (fun x => { x with staged := true, pending := set })
    obtain ⟨dests, hqueue⟩ := queueSlot_frame n (allDests.filter (dmem set)) (modSlot n (fun x => { x with staged := true, pending := set }) s)
    exact ⟨slots, s.freeSlots, dests, by rw [hqueue, hmod]⟩

/-- Each destination of the set takes the slot at the tail of its write queue. -/
theorem queueSlot_dest (n : Nat) {l : List Dest} (hl : l.Nodup) (s : State) (e : Dest) :
    (l.foldl (fun t d => setDest t d { t.dest d with writeQueue := (t.dest d).writeQueue ++ [n] }) s).dest e =
      { s.dest e with writeQueue := if e ∈ l then (s.dest e).writeQueue ++ [n] else (s.dest e).writeQueue } := by
  induction l generalizing s with
  | nil => simp
  | cons d l ih =>
    obtain ⟨hd, hl⟩ := List.nodup_cons.mp hl
    rw [List.foldl_cons, ih hl]
    by_cases he : e = d
    · subst he
      simp [hd]
    · rw [setDest_dest_of_ne _ he]
      simp [he]

theorem placeSlot_dest (n : Nat) (set : DestSet) (s : State) (e : Dest) :
    (placeSlot n set s).dest e =
      { s.dest e with writeQueue := if dmem set e then (s.dest e).writeQueue ++ [n] else (s.dest e).writeQueue } := by
  unfold placeSlot
  split
  next hempty =>
    rw [(set_eq_zero_iff set).mp hempty e]
    rfl
  next =>
    obtain ⟨_, hmod⟩ := modSlot_frame s n (fun x => { x with staged := true, pending := set })
    have hmem : e ∈ allDests.filter (dmem set) ↔ dmem set e = true := by
      rw [List.mem_filter]
      exact and_iff_right (mem_allDests e)
    dsimp only
    rw [queueSlot_dest n (allDests_nodup.filter _), hmod]
    simp only [hmem]
    rfl

/-- The slot becomes STAGED for a set that is not empty. -/
theorem placeSlot_slot {n : Nat} {set : DestSet} {x : Slot} (hset : set ≠ 0) (hx : s.slot n = some x) :
    (placeSlot n set s).freeSlots = s.freeSlots ∧
      ∀ i, (placeSlot n set s).slot i = if i = n then some { x with staged := true, pending := set } else s.slot i := by
  obtain ⟨_, hqueue⟩ := queueSlot_frame n (allDests.filter (dmem set)) (modSlot n (fun x => { x with staged := true, pending := set }) s)
  obtain ⟨_, hmod⟩ := modSlot_frame s n (fun x => { x with staged := true, pending := set })
  simp only [placeSlot, if_neg hset]
  refine ⟨by rw [hqueue, hmod], fun i => ?_⟩
  have hslot := modSlot_slot s n (fun x => { x with staged := true, pending := set }) i
  rw [hx, Option.map_some] at hslot
  rw [hqueue]
  exact hslot

/-! ### The checkpoint (R78, R83) -/

/-- The clip with the checkpoint of a staged chunk. -/
def Clip.advanced (c : ChunkRead) (k : Clip) : Clip :=
  if c.recopy then
    if k.blocks ≤ c.first + c.count then Clip.passEnded { k with nextBlock := c.first + c.count, acc := c.acc } c.acc
    else { k with nextBlock := c.first + c.count, acc := c.acc }
  else Clip.readOn { k with nextBlock := c.first + c.count, acc := c.acc } (decide (k.blocks ≤ c.first + c.count)) c.acc

theorem advanced_first {c : ChunkRead} (hfirst : c.recopy = false) (k : Clip) : k.advanced c =
    { k with
      nextBlock := c.first + c.count, acc := c.acc, sourceState := if k.blocks ≤ c.first + c.count then .staged else .reading
      digest := if k.blocks ≤ c.first + c.count then digestOf c.acc else k.digest } := by
  by_cases hend : k.blocks ≤ c.first + c.count <;> simp [Clip.advanced, hfirst, Clip.readOn, hend]

theorem passEnded_copy (k : Clip) (acc : Acc) (d : Dest) : (k.passEnded acc).copy d =
    if digestOf acc = k.digest then k.copy d else if dmem k.passMembers d then (k.copy d).markChanged else k.copy d := by
  unfold Clip.passEnded
  split <;> simp [Clip.copy]

theorem advanced_rest {c : ChunkRead} (hrecopy : c.recopy = true) (k : Clip) : k.advanced c =
    { k with
      nextBlock := c.first + c.count, acc := c.acc, copies := (k.advanced c).copies, recopySet := (k.advanced c).recopySet
      passMembers := (k.advanced c).passMembers } := by
  by_cases hend : k.blocks ≤ c.first + c.count <;> simp [Clip.advanced, hrecopy, Clip.passEnded, hend]

theorem advanced_ended {c : ChunkRead} {k : Clip} (hrecopy : c.recopy = true) (hend : k.blocks ≤ c.first + c.count) :
    k.advanced c = Clip.passEnded { k with nextBlock := c.first + c.count, acc := c.acc } c.acc := by
  rw [Clip.advanced, if_pos hrecopy, if_pos hend]

theorem advanced_mid {c : ChunkRead} {k : Clip} (hrecopy : c.recopy = true) (hmore : c.first + c.count < k.blocks) :
    k.advanced c = { k with nextBlock := c.first + c.count, acc := c.acc } := by
  rw [Clip.advanced, if_pos hrecopy, if_neg (Nat.not_le.mpr hmore)]

/-- The advance of a recopy pass leaves what the clip says of a destination that is not in the pass. -/
theorem advanced_outsider {c : ChunkRead} {k : Clip} {d : Dest} (hrecopy : c.recopy = true) (hd : dmem k.passMembers d = false) :
    (k.advanced c).copy d = k.copy d ∧ dmem (k.advanced c).recopySet d = dmem k.recopySet d ∧
      dmem (k.advanced c).passMembers d = false := by
  by_cases hend : k.blocks ≤ c.first + c.count
  · rw [advanced_ended hrecopy hend, passEnded_copy]
    refine ⟨?_, ?_, (set_eq_zero_iff _).mp rfl d⟩
    · rw [hd]
      exact ite_self _
    · exact (dmem_dminus _ _ _).trans (by rw [hd]; simp)
  · rw [advanced_mid hrecopy (Nat.not_le.mp hend)]
    exact ⟨rfl, rfl, hd⟩

theorem advance_first {c : ChunkRead} {k : Clip} (hfirst : c.recopy = false) (hk : s.clip c.clip = some k) :
    advance c s = setClip s c.clip (k.advanced c) := by
  simp [advance, hk, hfirst, Clip.advanced]

theorem advance_recopy {c : ChunkRead} {k : Clip} (hrecopy : c.recopy = true) (hk : s.clip c.clip = some k) :
    advance c s = if k.blocks ≤ c.first + c.count then leaveRecopyList c.clip (setClip s c.clip (k.advanced c))
      else setClip s c.clip (k.advanced c) := by
  simp only [advance, hk, hrecopy, if_true, Clip.advanced, decide_eq_true_eq]
  split <;> rfl

theorem advance_frame (c : ChunkRead) : ∃ jobs clips, advance c s = { s with jobs := jobs, clips := clips } := by
  cases hk : s.clip c.clip with
  | none => exact ⟨s.jobs, s.clips, by simp [advance, hk]⟩
  | some k =>
    cases hrecopy : c.recopy with
    | false => exact ⟨s.jobs, _, advance_first hrecopy hk⟩
    | true =>
      obtain ⟨jobs, hlist⟩ := leaveRecopyList_frame (s := setClip s c.clip (k.advanced c)) c.clip
      rw [advance_recopy hrecopy hk]
      split
      · exact ⟨jobs, _, hlist⟩
      · exact ⟨s.jobs, _, rfl⟩

theorem advance_clip {c : ChunkRead} {k : Clip} (hk : s.clip c.clip = some k) : (advance c s).clip c.clip = some (k.advanced c) := by
  cases hrecopy : c.recopy with
  | false => rw [advance_first hrecopy hk, setClip_clip_self]
  | true =>
    obtain ⟨_, hlist⟩ := leaveRecopyList_frame (s := setClip s c.clip (k.advanced c)) c.clip
    rw [advance_recopy hrecopy hk]
    split
    · rw [hlist]
      exact setClip_clip_self _ _ _
    · exact setClip_clip_self _ _ _

/-- The checkpoint's advance leaves a job's record, but for its recopy list. -/
theorem advance_job (c : ChunkRead) {h : Nat} {j : Job} (hj : s.job h = some j) :
    ∃ j', (advance c s).job h = some j' ∧ j.RecopyMoved c.clip j' := by
  unfold advance
  split
  · dsimp only
    split
    · split
      · exact leaveRecopyList_job c.clip hj
      · exact ⟨j, hj, rfl, rfl⟩
    · exact ⟨j, hj, rfl, rfl⟩
  · exact ⟨j, hj, rfl, rfl⟩

/-- The clip leaves its job's recopy list at the end of a pass that empties its recopy set (R83). -/
theorem advance_list {c : ChunkRead} {k : Clip} {j : Job} (hrecopy : c.recopy = true) (hk : s.clip c.clip = some k)
    (hend : k.blocks ≤ c.first + c.count) (hj : s.job k.job = some j) :
    (advance c s).job k.job =
      some (if (k.advanced c).recopySet = 0 then { j with recopy := j.recopy.filter (fun i => decide (i ≠ c.clip)) } else j) := by
  have hjob : (k.advanced c).job = k.job := by rw [advanced_rest hrecopy]
  have hj' : (setClip s c.clip (k.advanced c)).job k.job = some j := hj
  rw [advance_recopy hrecopy hk, if_pos hend, leaveRecopyList, setClip_clip_self]
  dsimp only
  split
  · rw [hjob, modJob_job, if_pos rfl, hj', Option.map_some]
  · exact hj'

/-! ### The staging as a whole (R77) -/

/-- The state in which the chunk's reader is free and the copies of the lost destinations have failed (R77, step 2). -/
def membersLost (p : Port) (c : ChunkRead) (k : Clip) (j : Job) (s : State) : State :=
  (lostTargets s c k j).foldl (fun t d => failCopy c.clip d .failed .destLost t) (setReader s p { s.reader p with chunk := none, retries := 0 })

theorem membersLost_fails (p : Port) (c : ChunkRead) (k : Clip) (j : Job) (s : State) :
    Fails c.clip .destLost (lostTargets s c k j) (setReader s p { s.reader p with chunk := none, retries := 0 }) (membersLost p c k j s) :=
  failCopies_fails _ _ _ _

theorem mem_lostTargets {c : ChunkRead} {k : Clip} {j : Job} {d : Dest} : d ∈ lostTargets s c k j ↔
    dmem (chunkTargets c k j) d = true ∧ usable s j d = false ∧ (k.copy d).state = .pending := by
  simp only [lostTargets, List.mem_filter, mem_allDests, true_and, Bool.and_eq_true, Bool.not_eq_true', decide_eq_true_eq, and_assoc]

theorem dmem_pendingSet (c : ChunkRead) (k : Clip) (j : Job) (d : Dest) : dmem (pendingSet s c k j) d =
    (dmem (chunkTargets c k j) d && usable s j d && decide ((k.copy d).state = .pending) && (!c.recopy || dmem k.passMembers d)) :=
  dmem_dsetOf _ d

/-- The clip with the copies of the lost destinations failed. -/
def Clip.membersLost (s : State) (c : ChunkRead) (j : Job) (k : Clip) : Clip := k.failedAll (lostTargets s c k j) .destLost

theorem clipMembersLost_rest (s : State) (c : ChunkRead) (j : Job) (k : Clip) : k.membersLost s c j =
    { k with copies := (k.membersLost s c j).copies, recopySet := (k.membersLost s c j).recopySet
             passMembers := (k.membersLost s c j).passMembers } := failedAll_rest _ _ _

theorem clipMembersLost_blocks (s : State) (c : ChunkRead) (j : Job) (k : Clip) : (k.membersLost s c j).blocks = k.blocks := by
  rw [clipMembersLost_rest]
  rfl

theorem membersLost_clip {c : ChunkRead} {k : Clip} {j : Job} (hk : s.clip c.clip = some k) :
    (membersLost p c k j s).clip c.clip = some (k.membersLost s c j) := by
  have hk' : (setReader s p { s.reader p with chunk := none, retries := 0 }).clip c.clip = some k := hk
  rw [(membersLost_fails p c k j s).clip, if_pos rfl, hk', Option.map_some]
  rfl

theorem stage_eq {c : ChunkRead} {k : Clip} {j : Job} (hk : s.clip c.clip = some k) (hj : s.job c.job = some j) :
    stage p c s = refresh (closeSeen [c.job]
      (if c.recopy = true ∧ (k.membersLost s c j).passMembers = 0 then freeSlot c.slot (membersLost p c k j s)
       else advance c (placeSlot c.slot (pendingSet s c k j) (membersLost p c k j s)))) := by
  have hlost : passLost c (membersLost p c k j s) = decide (c.recopy = true ∧ (k.membersLost s c j).passMembers = 0) := by
    simp [passLost, membersLost_clip hk, Bool.decide_and]
  simp only [stage, hk, hj]
  change refresh (closeSeen [c.job] (if passLost c (membersLost p c k j s) = true then _ else _)) = _
  rw [hlost]
  simp only [decide_eq_true_eq]
  rfl

/-- What a staging that takes place has made, in state `t`, of state `s` before the event's end (R77, R78). -/
structure Staged (p : Port) (c : ChunkRead) (k : Clip) (j : Job) (s t : State) : Prop where
  rest : ∃ readers jobs clips slots free dests sending waiting notices missed, t = { s with
    readers := readers, jobs := jobs, clips := clips, slots := slots, freeSlots := free, dests := dests, sending := sending
    waitingReply := waiting, notices := notices, missed := missed }
  reader : t.reader p = { s.reader p with chunk := none, retries := 0 }
  clip : t.clip c.clip = some ((k.membersLost s c j).advanced c)
  job : ∀ h i, s.job h = some i → ∃ i', t.job h = some i' ∧ i' = { i with recopy := i'.recopy }
  list : c.recopy = true → lostTargets s c k j = [] → k.blocks ≤ c.first + c.count → ∀ i, s.job k.job = some i → t.job k.job = some
    (if (k.advanced c).recopySet = 0 then { i with recopy := i.recopy.filter (fun x => decide (x ≠ c.clip)) } else i)
  dest : ∀ e, t.dest e = { s.dest e with
    writeQueue := if dmem (pendingSet s c k j) e then (s.dest e).writeQueue ++ [c.slot] else (s.dest e).writeQueue }
  taken : ∀ x, s.slot c.slot = some x → pendingSet s c k j ≠ 0 →
    t.slot c.slot = some { x with staged := true, pending := pendingSet s c k j } ∧ t.freeSlots = s.freeSlots
  freed : pendingSet s c k j = 0 → t.slot c.slot = none ∧ t.freeSlots = s.freeSlots ++ [c.slot] ∧ t.dests = s.dests
  others : ∀ x, s.slot c.slot = some x → ∀ n, n ≠ c.slot → t.slot n = s.slot n
  tells : ∀ d ∈ lostTargets s c k j, t.Told (.copyState k.job c.clip (.copy d .failed) .destLost)

theorem membersLost_rest (p : Port) (c : ChunkRead) (k : Clip) (j : Job) (s : State) :
    (∃ readers jobs clips sending waiting notices missed, membersLost p c k j s = { s with
      readers := readers, jobs := jobs, clips := clips, sending := sending, waitingReply := waiting, notices := notices
      missed := missed }) ∧ (membersLost p c k j s).reader p = { s.reader p with chunk := none, retries := 0 } := by
  have hfails := membersLost_fails p c k j s
  obtain ⟨clips, readers, jobs, sending, waiting, notices, missed, hrest⟩ := hfails.rest
  have hreader := setReader_reader_self s p { s.reader p with chunk := none, retries := 0 }
  exact ⟨⟨readers, jobs, clips, sending, waiting, notices, missed, hrest⟩, (hfails.reader p (by rw [hreader])).trans hreader⟩

theorem staged_spec {c : ChunkRead} {k : Clip} {j : Job} (hk : s.clip c.clip = some k) :
    Staged p c k j s (advance c (placeSlot c.slot (pendingSet s c k j) (membersLost p c k j s))) := by
  have hfails := membersLost_fails p c k j s
  obtain ⟨⟨readers, jobs, clips, sending, waiting, notices, missed, hlost⟩, hreader⟩ := membersLost_rest p c k j s
  have hclip := membersLost_clip (p := p) (j := j) hk
  have hnone : lostTargets s c k j = [] → k.membersLost s c j = k ∧ ∀ h, (membersLost p c k j s).job h = s.job h := fun hnone => by
    rw [Clip.membersLost, membersLost, hnone]
    exact ⟨rfl, fun _ => rfl⟩
  have hkept : ∀ n, (membersLost p c k j s).slot n = s.slot n := by
    rw [hlost]
    exact fun _ => rfl
  generalize membersLost p c k j s = v at *
  have hdest := placeSlot_dest c.slot (pendingSet s c k j) v
  obtain ⟨slots, free, dests, hplace⟩ := placeSlot_frame c.slot (pendingSet s c k j) v
  have hslot := fun x hset => placeSlot_slot (n := c.slot) (set := pendingSet s c k j) (s := v) (x := x) hset
  have hempty : pendingSet s c k j = 0 → placeSlot c.slot (pendingSet s c k j) v = freeSlot c.slot v := fun hset => by
    rw [hset, placeSlot_empty]
  generalize placeSlot c.slot (pendingSet s c k j) v = w at *
  have hclipw : w.clip c.clip = some (k.membersLost s c j) := by
    rw [hplace]
    exact hclip
  have hadvanced := advance_clip (c := c) hclipw
  have hjobs := fun h i => advance_job (s := w) (h := h) (j := i) c
  have hlist := fun hrecopy hend i => advance_list (c := c) (j := i) hrecopy hclipw hend
  obtain ⟨jobs', clips', hadvance⟩ := advance_frame (s := w) c
  generalize advance c w = x at *
  have hslots (n : Nat) : x.slot n = w.slot n := by
    rw [hadvance]
    rfl
  have hfree : x.freeSlots = w.freeSlots := by rw [hadvance]
  refine ⟨⟨readers, jobs', clips', slots, free, dests, sending, waiting, notices, missed, by rw [hadvance, hplace, hlost]⟩, ?_, hadvanced,
    fun h i hi => ?_, fun hrecopy hempty hend i hi => ?_, fun e => ?_, fun y hy hset => ?_, fun hset => ?_, fun y hy n hn => ?_, fun d hd => ?_⟩
  · rw [hadvance, hplace]
    exact hreader
  · obtain ⟨i1, hi1, hmoved, -⟩ := hfails.job h i hi
    obtain ⟨i', hi', hmoved', -⟩ := hjobs h i1 (by rw [hplace]; exact hi1)
    exact ⟨i', hi', by rw [hmoved', hmoved]⟩
  · obtain ⟨hsame, hjobsv⟩ := hnone hempty
    rw [hsame] at hlist
    refine hlist hrecopy hend i ?_
    rw [hplace]
    exact (hjobsv k.job).trans hi
  · have hsame : v.dest e = s.dest e := by
      rw [hlost]
      rfl
    rw [← hsame, ← hdest, hadvance]
    rfl
  · obtain ⟨hkeptfree, htaken⟩ := hslot y hset ((hkept _).trans hy)
    have htaken' := htaken c.slot
    rw [if_pos rfl] at htaken'
    exact ⟨(hslots _).trans htaken', hfree.trans (hkeptfree.trans (by rw [hlost]))⟩
  · rw [hslots, hfree, hadvance, hempty hset, hlost]
    exact ⟨lookup_erase_self _ _, rfl, rfl⟩
  · rw [hslots]
    by_cases hset : pendingSet s c k j = 0
    · rw [hempty hset]
      exact (lookup_erase_of_ne _ hn).trans (hkept n)
    · obtain ⟨-, htaken⟩ := hslot y hset ((hkept _).trans hy)
      rw [htaken, if_neg hn, hkept]
  · rw [hadvance, hplace]
    exact hfails.tells k hk d hd

/-- What a staging that has cost the pass its last member has made of state `s` before the event's end (R82). -/
structure PassLost (p : Port) (c : ChunkRead) (k : Clip) (j : Job) (s t : State) : Prop where
  reader : t.reader p = { s.reader p with chunk := none, retries := 0 }
  clip : t.clip c.clip = some (k.membersLost s c j)
  slot : t.slot c.slot = none
  free : t.freeSlots = s.freeSlots ++ [c.slot]
  dests : t.dests = s.dests
  mem : t.mem = s.mem
  tells : ∀ d ∈ lostTargets s c k j, t.Told (.copyState k.job c.clip (.copy d .failed) .destLost)

theorem stage_lost {c : ChunkRead} {k : Clip} {j : Job} (hk : s.clip c.clip = some k) (hj : s.job c.job = some j) (hst : j.state ≠ .closing)
    (hrecopy : c.recopy = true) (hempty : (k.membersLost s c j).passMembers = 0) :
    ∃ t, PassLost p c k j s t ∧ EndsSeen c.job t (stage p c s) := by
  rw [stage_eq hk hj, if_pos ⟨hrecopy, hempty⟩]
  have hfails := membersLost_fails p c k j s
  obtain ⟨⟨_, _, _, _, _, _, _, hrest⟩, hreader⟩ := membersLost_rest p c k j s
  obtain ⟨j', hj', hmoved, -⟩ := hfails.job c.job j hj
  have hclip := membersLost_clip (p := p) (j := j) hk
  generalize membersLost p c k j s = v at *
  have hends := endsSeen (s := freeSlot c.slot v) (h := c.job) hj' (by rw [hmoved]; exact hst)
  refine ⟨freeSlot c.slot v, ⟨hreader, hclip, lookup_erase_self v.slots c.slot, ?_, ?_, ?_, hfails.tells k hk⟩, hends⟩
  all_goals
    rw [hrest]
    rfl

theorem EndsSeen.moved {h c : Nat} {k : Clip} (e : EndsSeen h s t) (hk : s.clip c = some k) : ∃ k', t.clip c = some k' ∧ k.SvMoved k' := by
  rcases e.clip c with hsame | ⟨k1, hk1, -, hqueued⟩
  · exact ⟨k, hsame.trans hk, rfl⟩
  · obtain rfl := Option.some.inj (hk.symm.trans hk1)
    exact ⟨_, hqueued, rfl⟩

/-- A staging that has not cost a pass its last member takes place, and the event ends (R77). -/
theorem stage_taken {c : ChunkRead} {k : Clip} {j : Job} (hk : s.clip c.clip = some k) (hj : s.job c.job = some j) (hst : j.state ≠ .closing)
    (htaken : c.recopy = true → (k.membersLost s c j).passMembers ≠ 0) :
    ∃ t, Staged p c k j s t ∧ EndsSeen c.job t (stage p c s) := by
  rw [stage_eq hk hj, if_neg fun h => htaken h.1 h.2]
  have hstaged := staged_spec (p := p) (j := j) hk
  obtain ⟨j', hj', hmoved⟩ := hstaged.job c.job j hj
  exact ⟨_, hstaged, endsSeen hj' (by rw [hmoved]; exact hst)⟩

/-- The last READ of a chunk: the chunk, its data in their place, is staged (R71, R77). -/
theorem exec_lastRead {data : List Byte} {waitMs start count ms : Nat} {c : ChunkRead} {k : Clip} (hlow : s.resetLow = false)
    (hrequest : (s.port p).request = some ⟨.read start count, .chunk, ms, false⟩) (hc : (s.reader p).chunk = some c)
    (hcancelled : c.cancelled = false) (hlast : c.count ≤ c.done + count) (hk : s.clip c.clip = some k) :
    exec (.chunkRequestDone p data waitMs) s =
      .next (stage p (c.advanced k count data) (slotFilled c count data (counted p count waitMs s))) := by
  rw [exec_chunkRequestDone hlow hrequest hc, if_neg (by simp [hcancelled]),
    chunkProgress_eq (k := k) (s := counted p count waitMs s) hk, if_neg (Nat.not_lt.mpr hlast)]

end

end Sys2Proof.Machine
end

section
/-! SUPPORT. The last READ of a chunk of a first read, and of a recopy pass (R77, R78, R82, R83). -/

namespace Sys2Proof.Machine

-- One theorem at a time: checking them all at once needs more threads than the sandbox gives.
set_option Elab.async false

open Sys2Proof

section
variable {s t u : State} {p : Port}

/-- The state in which the last READ of chunk `c` has been counted and its data stand in the slot (R71, R72). -/
def lastRead (p : Port) (c : ChunkRead) (count : Nat) (data : List Byte) (waitMs : Nat) (s : State) : State :=
  slotFilled c count data (counted p count waitMs s)

/-- Everything but the clock, the port's request, the reader's counts and the memory stands. -/
theorem lastRead_frame (p : Port) (c : ChunkRead) (count : Nat) (data : List Byte) (waitMs : Nat) (s : State) :
    ∃ mem ports readers, lastRead p c count data waitMs s =
      { s with now := s.now + waitMs, mem := mem, ports := ports, readers := readers } := ⟨_, _, _, rfl⟩

theorem lastRead_mem (p : Port) (c : ChunkRead) (count : Nat) (data : List Byte) (waitMs : Nat) (s : State) :
    (∀ i < count * 512, Memory.read (lastRead p c count data waitMs s).mem (c.slot * 4194304 + c.done * 512 + i) = data.getD i 0) ∧
      ∀ a, a < c.slot * 4194304 + c.done * 512 ∨ c.slot * 4194304 + (c.done + count) * 512 ≤ a →
        Memory.read (lastRead p c count data waitMs s).mem a = Memory.read s.mem a := by
  obtain ⟨hdata, hother⟩ := slotFilled_read c count data (counted p count waitMs s)
  refine ⟨hdata, fun a ha => hother a ?_⟩
  rwa [Nat.add_mul, ← Nat.add_assoc] at ha

theorem lastRead_reader (p : Port) (c : ChunkRead) (count : Nat) (data : List Byte) (waitMs : Nat) (s : State) :
    (lastRead p c count data waitMs s).reader p =
      { s.reader p with blocksRead := (s.reader p).blocksRead + BitVec.ofNat 64 count, retries := 0 } := counted_reader p count waitMs s

theorem lastRead_request (p : Port) (c : ChunkRead) (count : Nat) (data : List Byte) (waitMs : Nat) (s : State) :
    ((lastRead p c count data waitMs s).port p).request = none := congrArg CardPort.request (counted_port p count waitMs s)

theorem usable_lastRead {c : ChunkRead} {count : Nat} {data : List Byte} {waitMs : Nat} {j : Job} {can : Dest → Bool}
    (hcan : ∀ d, can d = true ↔ (s.dest d).state = .online ∧ ∃ id, (s.dest d).identity = some id ∧ j.destId d = some id) (d : Dest) :
    usable (lastRead p c count data waitMs s) j d = can d := by
  rw [Bool.eq_iff_iff, hcan]
  exact usable_iff

theorem backlog_queued (x : DestPort) (n : Nat) : backlog { x with writeQueue := x.writeQueue ++ [n] } = backlog x + 1 := by
  simp [backlog]
  omega

/-- A monitor that the slot takes over its threshold sees the crossing, and places its holds (R77, R156, R159). -/
theorem Staged.crosses {c : ChunkRead} {k : Clip} {j : Job} {h : Nat} {d : Dest} (hstaged : Staged p c k j s t) (hends : EndsSeen h t u)
    (hd : dmem (pendingSet s c k j) d = true) (hbelow : (s.monitor d).above = false)
    (hexceeds : threshold (s.monitor d).level < backlog (s.dest d) + 1) (houtside : (s.monitor d).holdoff ≤ s.now - s.windowStart) :
    u.monitor d = (s.monitor d).crossed ∧ HoldsPlaced d (s.monitor d).mode s u := by
  obtain ⟨_, _, _, _, _, _, _, _, _, _, hrest⟩ := hstaged.rest
  have hmonitor : t.monitor d = s.monitor d := by
    rw [hrest]
    rfl
  have hdest : t.dest d = { s.dest d with writeQueue := (s.dest d).writeQueue ++ [c.slot] } := by rw [hstaged.dest, if_pos hd]
  have hcross : Crosses t d := by
    refine ⟨by rw [hmonitor, hbelow], ?_, ?_⟩
    · rwa [hmonitor, hdest, backlog_queued]
    · rw [hmonitor, hrest]
      exact houtside
  obtain ⟨hcrossed, hplaced⟩ := hends.crosses d hcross
  rw [hmonitor] at hcrossed hplaced
  refine ⟨hcrossed, fun i x hx hreading hmember => ?_⟩
  obtain ⟨x', hx', hrecopied⟩ := hstaged.job i x hx
  exact hplaced i x' hx' (by rw [hrecopied, hreading]) (by rw [hrecopied, hmember])

end

/-- Settles O38: `stage_taken` for the staging and the end of its event, `Staged.crosses` for the monitors. -/
theorem lastReadStagesTheChunk : Obligations.LastReadStagesTheChunk := by
  intro p data waitMs s start count ms c k j x acc can hlow hrequest hc hcancelled hfirst hlast hk hj hjob hst hx hacc hcan
  have husable := usable_lastRead (p := p) (c := c) (count := count) (data := data) (waitMs := waitMs) hcan
  obtain ⟨hdata, hother⟩ := lastRead_mem p c count data waitMs s
  have hreader := lastRead_reader p c count data waitMs s
  have hrequest' := lastRead_request p c count data waitMs s
  have hexec := exec_lastRead (data := data) (waitMs := waitMs) hlow hrequest hc hcancelled hlast hk
  change _ = Host.Outcome.next (stage p (c.advanced k count data) (lastRead p c count data waitMs s)) at hexec
  obtain ⟨_, _, _, hframe⟩ := lastRead_frame p c count data waitMs s
  generalize lastRead p c count data waitMs s = v at *
  have hkv : v.clip c.clip = some k := by rw [hframe]; exact hk
  have hjv : v.job c.job = some j := by rw [hframe]; exact hj
  have hxv : v.slot c.slot = some x := by rw [hframe]; exact hx
  have hdestv (d : Dest) : v.dest d = s.dest d := by rw [hframe]; rfl
  have hmonitorv (d : Dest) : v.monitor d = s.monitor d := by rw [hframe]; rfl
  have hpending (d : Dest) : dmem (pendingSet v (c.advanced k count data) k j) d =
      (dmem j.destSet d && can d && decide ((k.copy d).state = .pending)) := by
    rw [dmem_pendingSet, husable]
    simp [chunkTargets, ChunkRead.advanced, hfirst]
  have hlost (d : Dest) : d ∈ lostTargets v (c.advanced k count data) k j ↔
      dmem j.destSet d = true ∧ can d = false ∧ (k.copy d).state = .pending := by
    rw [mem_lostTargets, husable]
    simp [chunkTargets, ChunkRead.advanced, hfirst]
  obtain ⟨w, hstaged, hends⟩ := stage_taken (p := p) (c := c.advanced k count data) hkv hjv hst
    fun hrecopy => absurd (hfirst.symm.trans hrecopy) (by decide)
  generalize stage p (c.advanced k count data) v = t at *
  obtain ⟨k', hk', hsv⟩ := hends.moved hstaged.clip
  have hadvanced := advanced_first (c := c.advanced k count data) hfirst (k.membersLost v (c.advanced k count data) j)
  rw [clipMembersLost_blocks] at hadvanced
  obtain ⟨_, _, _, _, _, _, _, _, _, _, hrest⟩ := hstaged.rest
  refine ⟨_, k', pendingSet v (c.advanced k count data) k j, hexec, ?_, ?_, ?_, ?_, ?_, hpending, hk', ?_, ?_, ?_, ?_, ?_, ?_, ?_, ?_, ?_, ?_,
    ?_, ?_⟩
  · rw [hends.chunk, hstaged.reader]
  · rw [hends.request, hrest]
    exact hrequest'
  · rw [hends.blocksRead, hstaged.reader, hreader]
  · rw [hends.mem, hrest]
    exact hdata
  · rw [hends.mem, hrest]
    exact hother
  · rw [hsv, hadvanced]
    rfl
  · rw [hsv, hadvanced]
    exact hacc.symm
  · intro (hend : k.blocks ≤ (c.advanced k count data).first + (c.advanced k count data).count)
    rw [hsv, hadvanced, if_pos hend, if_pos hend, hacc]
    exact ⟨rfl, rfl⟩
  · intro (hmore : (c.advanced k count data).first + (c.advanced k count data).count < k.blocks)
    rw [hsv, hadvanced, if_neg (Nat.not_le.mpr hmore), if_neg (Nat.not_le.mpr hmore), clipMembersLost_rest]
    exact ⟨rfl, rfl⟩
  · intro d
    have hcopy : k'.copy d = (k.membersLost v (c.advanced k count data) j).copy d := by
      rw [hsv, hadvanced]
      rfl
    rw [hcopy, Clip.membersLost, failedAll_copy]
    exact if_congr (hlost d) rfl rfl
  · intro d huses hunusable hpend
    exact hends.told _ (hjob ▸ hstaged.tells d ((hlost d).mpr ⟨huses, hunusable, hpend⟩))
  · intro hset
    obtain ⟨hslot, hfree⟩ := hstaged.taken x hxv hset
    refine ⟨(congrArg (lookup · _) hends.slots).trans hslot, hends.freeSlots.trans (hfree.trans (by rw [hframe])), fun d => ?_⟩
    have hdest := hstaged.dest d
    rw [hdestv] at hdest
    exact (congrArg (·[d.val]) hends.dests).trans hdest
  · intro hset
    obtain ⟨hslot, hfree, hdests⟩ := hstaged.freed hset
    exact ⟨(congrArg (lookup · _) hends.slots).trans hslot, hends.freeSlots.trans (hfree.trans (by rw [hframe]; rfl)),
      hends.dests.trans (hdests.trans (by rw [hframe]))⟩
  · intro d (hd : dmem _ d = true) hbelow hover houtside
    rw [← hmonitorv] at hbelow hover houtside
    obtain ⟨hcrossed, hplaced⟩ := hstaged.crosses hends hd hbelow (by rw [hdestv]; exact hover) (by rw [hframe] at houtside ⊢; exact houtside)
    rw [hmonitorv] at hcrossed hplaced
    exact ⟨hcrossed, fun h i hi => hplaced h i (by rw [hframe]; exact hi)⟩
  · intro n hn
    refine (congrArg (lookup · _) hends.slots).trans ((hstaged.others x hxv n hn).trans ?_)
    rw [hframe]
    rfl
  · rw [hends.known, hrest, hframe]
  · rw [hends.cfg, hrest, hframe]

section
variable {s : State} {p : Port} {c : ChunkRead} {k : Clip} {j : Job}

theorem Clip.SvMoved.copy {k' : Clip} (h : k.SvMoved k') (d : Dest) : k'.copy d = k.copy d := congrArg (·[d.val]) h.copies

theorem mem_lostMembers (hrecopy : c.recopy = true) (d : Dest) : d ∈ lostTargets s c k j ↔
    dmem k.recopySet d = true ∧ usable s j d = false ∧ (k.copy d).state = .pending := by
  rw [mem_lostTargets, chunkTargets, if_pos hrecopy]

theorem dmem_pendingMembers (hrecopy : c.recopy = true) (d : Dest) : dmem (pendingSet s c k j) d =
    (dmem k.recopySet d && usable s j d && decide ((k.copy d).state = .pending) && dmem k.passMembers d) := by
  rw [dmem_pendingSet, chunkTargets, if_pos hrecopy, hrecopy]
  rfl

/-- The last chunk of a recopy pass whose destinations are all usable: the digests are compared and the members leave (R83). -/
theorem stage_endsPass (hrecopy : c.recopy = true) (hk : s.clip c.clip = some k) (hj : s.job c.job = some j) (hjob : k.job = c.job)
    (hst : j.state ≠ .closing) (hmembers : k.passMembers ≠ 0) (hend : k.blocks ≤ c.first + c.count)
    (hall : ∀ d, dmem k.recopySet d = true → usable s j d = true) :
    ∃ k' j', (stage p c s).clip c.clip = some k' ∧ (stage p c s).job c.job = some j' ∧ (stage p c s).mem = s.mem ∧
      (Clip.passEnded { k with nextBlock := c.first + c.count, acc := c.acc } c.acc).SvMoved k' ∧
      j'.recopy = (if k'.recopySet = 0 then j.recopy.filter (fun i => decide (i ≠ c.clip)) else j.recopy) ∧
      ∀ d, ((stage p c s).dest d).writeQueue =
        if dmem k.recopySet d = true ∧ dmem k.passMembers d = true ∧ (k.copy d).state = .pending then (s.dest d).writeQueue ++ [c.slot]
        else (s.dest d).writeQueue := by
  have hnone : lostTargets s c k j = [] := by
    refine List.eq_nil_iff_forall_not_mem.mpr fun d hd => ?_
    obtain ⟨hmem, hunusable, -⟩ := (mem_lostMembers hrecopy d).mp hd
    exact absurd ((hall d hmem).symm.trans hunusable) (by decide)
  have hsame : k.membersLost s c j = k := by
    rw [Clip.membersLost, hnone]
    rfl
  obtain ⟨w, hstaged, hends⟩ := stage_taken (p := p) hk hj hst fun _ => by rw [hsame]; exact hmembers
  have hclip := hstaged.clip
  have hlist := hstaged.list hrecopy hnone hend j (by rw [hjob]; exact hj)
  rw [hsame, advanced_ended hrecopy hend] at hclip
  rw [hjob, advanced_ended hrecopy hend] at hlist
  obtain ⟨_, _, _, _, _, _, _, _, _, _, hrest⟩ := hstaged.rest
  obtain ⟨k', hk', hsv⟩ := hends.moved hclip
  obtain ⟨j1, j', hj', hheld, hjudged⟩ := hends.job _ hlist
  refine ⟨k', j', hk', hj', hends.mem.trans (by rw [hrest]), hsv, ?_, fun d => ?_⟩
  · rw [hjudged.rest, hheld.rest, hsv]
    exact apply_ite Job.recopy _ _ _
  · have hdest : (stage p c s).dest d = w.dest d := congrArg (·[d.val]) hends.dests
    rw [hdest, hstaged.dest, dmem_pendingMembers hrecopy]
    refine if_congr ?_ rfl rfl
    cases hmem : dmem k.recopySet d with
    | false => simp
    | true => simp [hall d hmem, and_comm]

/-- A member that is lost at this staging leaves the recopy set and the pass (R77, R82). -/
theorem membersLost_of_lost (hrecopy : c.recopy = true) {d : Dest} (hd : d ∈ lostTargets s c k j) :
    (k.membersLost s c j).copy d = { k.copy d with state := .failed, cause := .destLost } ∧
      dmem (k.membersLost s c j).recopySet d = false ∧ dmem (k.membersLost s c j).passMembers d = false := by
  have hmem := ((mem_lostMembers hrecopy d).mp hd).1
  simp only [Clip.membersLost, failedAll_copy, failedAll_recopySet, failedAll_passMembers]
  simp [hd, hmem]

theorem membersLost_of_kept {d : Dest} (hd : d ∉ lostTargets s c k j) :
    (k.membersLost s c j).copy d = k.copy d ∧ dmem (k.membersLost s c j).recopySet d = dmem k.recopySet d ∧
      dmem (k.membersLost s c j).passMembers d = dmem k.passMembers d := by
  simp only [Clip.membersLost, failedAll_copy, failedAll_recopySet, failedAll_passMembers]
  simp [hd]

/-- A staging that costs the pass its last member stages nothing, and the clip keeps its checkpoint (R82, assumption log 25). -/
theorem stage_losesAll (hrecopy : c.recopy = true) (hk : s.clip c.clip = some k) (hj : s.job c.job = some j) (hst : j.state ≠ .closing)
    (hall : ∀ d, dmem k.passMembers d = true → d ∈ lostTargets s c k j) :
    ∃ k', (stage p c s).clip c.clip = some k' ∧ (k.membersLost s c j).SvMoved k' ∧ k'.passMembers = 0 ∧
      ((stage p c s).reader p).chunk = none ∧ (stage p c s).mem = s.mem ∧ (stage p c s).slot c.slot = none ∧
      (stage p c s).freeSlots = s.freeSlots ++ [c.slot] ∧ (stage p c s).dests = s.dests ∧
      ∀ d ∈ lostTargets s c k j, (stage p c s).Told (.copyState k.job c.clip (.copy d .failed) .destLost) := by
  have hempty : (k.membersLost s c j).passMembers = 0 := by
    refine (set_eq_zero_iff _).mpr fun d => ?_
    by_cases hd : d ∈ lostTargets s c k j
    · exact (membersLost_of_lost hrecopy hd).2.2
    · rw [(membersLost_of_kept hd).2.2]
      exact Bool.eq_false_of_not_eq_true fun hmember => hd (hall d hmember)
  obtain ⟨w, hlost, hends⟩ := stage_lost (p := p) hk hj hst hrecopy hempty
  obtain ⟨k', hk', hsv⟩ := hends.moved hlost.clip
  exact ⟨k', hk', hsv, by rw [hsv]; exact hempty, (hends.chunk p).trans (congrArg Reader.chunk hlost.reader), hends.mem.trans hlost.mem,
    (congrArg (lookup · _) hends.slots).trans hlost.slot, hends.freeSlots.trans hlost.free, hends.dests.trans hlost.dests,
    fun d hd => hends.told _ (hlost.tells d hd)⟩

/-- The checkpoint's advance leaves what the clip says of a lost member. -/
theorem advanced_of_lost (hrecopy : c.recopy = true) {d : Dest} (hd : d ∈ lostTargets s c k j) :
    ((k.membersLost s c j).advanced c).copy d = { k.copy d with state := .failed, cause := .destLost } ∧
      dmem ((k.membersLost s c j).advanced c).recopySet d = false ∧ dmem ((k.membersLost s c j).advanced c).passMembers d = false := by
  obtain ⟨hcopy, hset, hmember⟩ := membersLost_of_lost hrecopy hd
  obtain ⟨hcopy', hset', hmember'⟩ := advanced_outsider hrecopy hmember
  exact ⟨hcopy'.trans hcopy, hset'.trans hset, hmember'⟩

theorem advanced_of_kept (hrecopy : c.recopy = true) (hmore : c.first + c.count < k.blocks) {d : Dest} (hd : d ∉ lostTargets s c k j) :
    ((k.membersLost s c j).advanced c).copy d = k.copy d ∧
      dmem ((k.membersLost s c j).advanced c).recopySet d = dmem k.recopySet d ∧
      dmem ((k.membersLost s c j).advanced c).passMembers d = dmem k.passMembers d := by
  rw [advanced_mid hrecopy (by rwa [clipMembersLost_blocks])]
  exact membersLost_of_kept hd

/-- A staging that leaves the pass a member takes place (R77, R78). -/
theorem stage_keepsMember (hk : s.clip c.clip = some k) (hj : s.job c.job = some j) (hst : j.state ≠ .closing)
    {x : Slot} (hx : s.slot c.slot = some x) (hkept : ∃ d, dmem k.passMembers d = true ∧ d ∉ lostTargets s c k j) :
    ∃ k', (stage p c s).clip c.clip = some k' ∧ ((k.membersLost s c j).advanced c).SvMoved k' ∧
      ((stage p c s).reader p).chunk = none ∧ (stage p c s).mem = s.mem ∧
      (∀ d ∈ lostTargets s c k j, (stage p c s).Told (.copyState k.job c.clip (.copy d .failed) .destLost)) ∧
      (pendingSet s c k j ≠ 0 →
        (stage p c s).slot c.slot = some { x with staged := true, pending := pendingSet s c k j } ∧
        (stage p c s).freeSlots = s.freeSlots ∧
        ∀ d, ((stage p c s).dest d).writeQueue =
          if dmem (pendingSet s c k j) d then (s.dest d).writeQueue ++ [c.slot] else (s.dest d).writeQueue) ∧
      (pendingSet s c k j = 0 →
        (stage p c s).slot c.slot = none ∧ (stage p c s).freeSlots = s.freeSlots ++ [c.slot] ∧ (stage p c s).dests = s.dests) := by
  have hmembers : (k.membersLost s c j).passMembers ≠ 0 := fun hempty => by
    obtain ⟨d, hd, hin⟩ := hkept
    have hnot := (set_eq_zero_iff _).mp hempty d
    rw [(membersLost_of_kept hin).2.2, hd] at hnot
    exact absurd hnot (by decide)
  obtain ⟨w, hstaged, hends⟩ := stage_taken (p := p) hk hj hst fun _ => hmembers
  obtain ⟨k', hk', hsv⟩ := hends.moved hstaged.clip
  obtain ⟨_, _, _, _, _, _, _, _, _, _, hrest⟩ := hstaged.rest
  refine ⟨k', hk', hsv, (hends.chunk p).trans (congrArg Reader.chunk hstaged.reader), hends.mem.trans (by rw [hrest]),
    fun d hd => hends.told _ (hstaged.tells d hd), fun hset => ?_, fun hset => ?_⟩
  · obtain ⟨hslot, hfree⟩ := hstaged.taken x hx hset
    refine ⟨(congrArg (lookup · _) hends.slots).trans hslot, hends.freeSlots.trans hfree, fun d => ?_⟩
    have hdest : (stage p c s).dest d = w.dest d := congrArg (·[d.val]) hends.dests
    rw [hdest, hstaged.dest]
  · obtain ⟨hslot, hfree, hdests⟩ := hstaged.freed hset
    exact ⟨(congrArg (lookup · _) hends.slots).trans hslot, hends.freeSlots.trans hfree, hends.dests.trans hdests⟩

end

/-- Settles O39: `stage_endsPass` for the end of a pass; `stage_lost` and `stage_taken` for a pass that loses members. -/
theorem recopyPassComparesDigests : Obligations.RecopyPassComparesDigests := by
  constructor
  · intro p data waitMs s start count ms c k j acc hlow hrequest hc hcancelled hrecopy hlast hk hj hjob hst hmembers hend hacc hall
    obtain ⟨hdata, hother⟩ := lastRead_mem p c count data waitMs s
    have hexec := exec_lastRead (data := data) (waitMs := waitMs) hlow hrequest hc hcancelled hlast hk
    have hall' (d : Dest) (hd : dmem k.recopySet d = true) : usable (lastRead p c count data waitMs s) j d = true := usable_iff.mpr (hall d hd)
    obtain ⟨k', j', hk', hj', hmem, hsv, hlist, hdest⟩ := stage_endsPass (p := p) (c := c.advanced k count data)
      (s := lastRead p c count data waitMs s) hrecopy hk hj hjob hst hmembers hend hall'
    subst hacc
    refine ⟨_, k', j', hexec, hk', hj', fun i hi => ?_, fun a ha => ?_, ?_, ?_, ?_, fun d => ?_, fun hequal => ?_, fun hdiffers d => ?_, hlist,
      hdest⟩
    · exact (congrArg (Memory.read · _) hmem).trans (hdata i hi)
    · exact (congrArg (Memory.read · _) hmem).trans (hother a ha)
    · rw [hsv]
      rfl
    · rw [hsv]
      rfl
    · rw [hsv]
      rfl
    · rw [hsv]
      exact dmem_dminus _ _ d
    · rw [hsv]
      exact if_pos hequal
    · refine (hsv.copy d).trans ((passEnded_copy _ _ d).trans ((if_neg hdiffers).trans ?_))
      rw [Copy.markChanged, ← ite_and]
      rfl
  · intro p data waitMs s start count ms c k j x acc can lost hlow hrequest hc hcancelled hrecopy hlast hk hj hjob hst hx hmembers hacc hcan
      hlost
    obtain ⟨hdata, hother⟩ := lastRead_mem p c count data waitMs s
    have hexec := exec_lastRead (data := data) (waitMs := waitMs) hlow hrequest hc hcancelled hlast hk
    have husable := usable_lastRead (p := p) (c := c) (count := count) (data := data) (waitMs := waitMs) hcan
    change _ = Host.Outcome.next (stage p (c.advanced k count data) (lastRead p c count data waitMs s)) at hexec
    have hmem (d : Dest) : d ∈ lostTargets (lastRead p c count data waitMs s) (c.advanced k count data) k j ↔ lost d = true := by
      rw [mem_lostMembers (c := c.advanced k count data) hrecopy, husable, hlost]
      simp [dmem, and_assoc]
    have hset (d : Dest) := dmem_pendingMembers (s := lastRead p c count data waitMs s) (k := k) (j := j) (c := c.advanced k count data) hrecopy d
    simp only [husable] at hset
    have hrest := clipMembersLost_rest (lastRead p c count data waitMs s) (c.advanced k count data) j k
    subst hacc
    by_cases hkept : ∃ d, dmem k.passMembers d = true ∧ lost d = false
    · obtain ⟨k', hk', hsv, hchunk, hmemory, htells, htaken, hfreed⟩ := stage_keepsMember (p := p) (c := c.advanced k count data)
        (s := lastRead p c count data waitMs s) hk hj hst hx (by simpa only [hmem, Bool.not_eq_true] using hkept)
      have hadvanced := advanced_rest (c := c.advanced k count data) hrecopy
        (k.membersLost (lastRead p c count data waitMs s) (c.advanced k count data) j)
      refine ⟨_, k', hexec, hk', by rw [hsv, hadvanced, hrest], by rw [hsv, hadvanced, hrest], hchunk,
        fun i hi => (congrArg (Memory.read · _) hmemory).trans (hdata i hi),
        fun a ha => (congrArg (Memory.read · _) hmemory).trans (hother a ha), fun d hd => ?_, fun hall => ?_,
        fun _ => ⟨by rw [hsv, hadvanced]; rfl, by rw [hsv, hadvanced]; rfl, _, hset, fun hmore d hd => ?_, htaken, hfreed⟩⟩
      · obtain ⟨hcopy, hset, hmember⟩ := advanced_of_lost (c := c.advanced k count data) hrecopy ((hmem d).mpr hd)
        exact ⟨(hsv.copy d).trans hcopy, by rw [hsv]; exact hset, by rw [hsv]; exact hmember, hjob ▸ htells d ((hmem d).mpr hd)⟩
      · obtain ⟨d, hd, hnot⟩ := hkept
        exact absurd ((hall d hd).symm.trans hnot) (by decide)
      · obtain ⟨hcopy, hset, hmember⟩ := advanced_of_kept (c := c.advanced k count data) hrecopy hmore
          (mt (hmem d).mp (Bool.not_eq_true _ |>.mpr hd))
        exact ⟨(hsv.copy d).trans hcopy, by rw [hsv]; exact hset, by rw [hsv]; exact hmember⟩
    · have hall (d : Dest) (hd : dmem k.passMembers d = true) : lost d = true := by
        by_contra hnot
        exact hkept ⟨d, hd, Bool.eq_false_of_not_eq_true hnot⟩
      obtain ⟨k', hk', hsv, hempty, hchunk, hmemory, hslot, hfree, hdests, htells⟩ := stage_losesAll (p := p) (c := c.advanced k count data)
        (s := lastRead p c count data waitMs s) hrecopy hk hj hst fun d hd => (hmem d).mpr (hall d hd)
      refine ⟨_, k', hexec, hk', by rw [hsv, hrest], by rw [hsv, hrest], hchunk,
        fun i hi => (congrArg (Memory.read · _) hmemory).trans (hdata i hi),
        fun a ha => (congrArg (Memory.read · _) hmemory).trans (hother a ha), fun d hd => ?_,
        fun _ => ⟨hslot, hfree, hdests, by rw [hsv, hrest], by rw [hsv, hrest], hempty, fun d hd => ?_⟩, fun h => absurd h hkept⟩
      · obtain ⟨hcopy, hset, -⟩ := membersLost_of_lost (c := c.advanced k count data) hrecopy ((hmem d).mpr hd)
        exact ⟨(hsv.copy d).trans hcopy, by rw [hsv]; exact hset, (set_eq_zero_iff _).mp hempty d, hjob ▸ htells d ((hmem d).mpr hd)⟩
      · obtain ⟨hcopy, hset, -⟩ := membersLost_of_kept (c := c.advanced k count data)
          (mt (hmem d).mp (Bool.not_eq_true _ |>.mpr hd))
        exact ⟨(hsv.copy d).trans hcopy, by rw [hsv]; exact hset⟩

end Sys2Proof.Machine
end

section
/-! SUPPORT. The closed form of the accumulators (R88, R89), a stream folded in parts (R87), and the two halves of the digest (R90). -/

namespace Sys2Proof.Machine

-- One theorem at a time: checking them all at once needs more threads than the sandbox gives.
set_option Elab.async false

open Sys2Proof

section
variable {acc : Acc}

/-! ### The accumulators after whole words (R88, R89) -/

theorem residue_eq_mod {w : Nat} (h : w < 2 ^ 32) : residue w = w % 4294967291 := by
  unfold residue Config.digestModulus
  split <;> omega

theorem foldWord_eq (hacc : acc.Reduced) {w : Nat} (h : w < 2 ^ 32) :
    foldWord acc w =
      ⟨(acc.a + w % 4294967291) % 4294967291, (acc.b + (acc.a + w % 4294967291)) % 4294967291⟩ := by
  have ha : addOnce acc.a (residue w) = (acc.a + w % 4294967291) % 4294967291 := by
    rw [addOnce_eq_mod hacc.1 (residue_lt h), residue_eq_mod h, Config.digestModulus]
  rw [foldWord, addOnce_eq_mod hacc.2 (addOnce_lt hacc.1 (residue_lt h)), ha, Config.digestModulus, Nat.add_mod_mod acc.b]

/-- The sum of the words' residues. -/
def residueSum (words : List Nat) : Nat := (words.map (fun w => w % 4294967291)).sum

/-- The sum of the words' residues, each as often as there are words from it on. -/
def weightedSum (words : List Nat) : Nat :=
  ((List.range words.length).map (fun i => (words.length - i) * (words.getD i 0 % 4294967291))).sum

theorem residueSum_cons (w : Nat) (words : List Nat) : residueSum (w :: words) = w % 4294967291 + residueSum words := by
  simp [residueSum]

theorem weightedSum_cons (w : Nat) (words : List Nat) :
    weightedSum (w :: words) = (words.length + 1) * (w % 4294967291) + weightedSum words := by
  simp [weightedSum, List.range_succ_eq_map, Function.comp_def]

/-- Each word enters A once, and B once for itself and once for every word after it; what A held enters B once for every word. -/
theorem foldl_foldWord_eq (hacc : acc.Reduced) (words : List Nat) (h : ∀ w ∈ words, w < 2 ^ 32) :
    words.foldl foldWord acc =
      ⟨(acc.a + residueSum words) % 4294967291, (acc.b + words.length * acc.a + weightedSum words) % 4294967291⟩ := by
  induction words generalizing acc with
  | nil =>
    have ha : acc.a % 4294967291 = acc.a := Nat.mod_eq_of_lt hacc.1
    have hb : acc.b % 4294967291 = acc.b := Nat.mod_eq_of_lt hacc.2
    simp [residueSum, weightedSum, ha, hb]
  | cons w words ih =>
    obtain ⟨hw, hwords⟩ := List.forall_mem_cons.mp h
    rw [List.foldl_cons, ih (foldWord_reduced hacc hw) hwords, foldWord_eq hacc hw, residueSum_cons, weightedSum_cons, List.length_cons]
    refine Acc.mk.injEq .. ▸ ⟨?_, ?_⟩
    · rw [Nat.mod_add_mod, Nat.add_assoc]
    · have hstep : acc.b + (words.length + 1) * acc.a + ((words.length + 1) * (w % 4294967291) + weightedSum words) =
          acc.b + (acc.a + w % 4294967291) + words.length * (acc.a + w % 4294967291) + weightedSum words := by ring
      rw [hstep]
      exact (((Nat.mod_modEq _ _).add ((Nat.mod_modEq _ _).mul_left _)).add_right _)

/-! ### A stream in parts (R87) -/

/-- A stream that does not begin with a whole word has at most three bytes. -/
theorem length_le_three {bs : List Byte} (h : ∀ b0 b1 b2 b3 rest, bs = b0 :: b1 :: b2 :: b3 :: rest → False) : bs.length ≤ 3 := by
  match bs, h with
  | [], _ | [_], _ | [_, _], _ | [_, _, _], _ => simp
  | b0 :: b1 :: b2 :: b3 :: rest, h => exact (h b0 b1 b2 b3 rest rfl).elim

/-- A computation that stops after whole words and resumes folds what one pass does. -/
theorem foldBytes_append (acc : Acc) {xs : List Byte} (h : xs.length % 4 = 0) (ys : List Byte) :
    foldBytes acc (xs ++ ys) = foldBytes (foldBytes acc xs) ys := by
  induction acc, xs using foldBytes.induct with
  | case1 acc b0 b1 b2 b3 rest ih =>
    have hrest : rest.length % 4 = 0 := by
      rw [List.length_cons, List.length_cons, List.length_cons, List.length_cons] at h
      omega
    simpa only [List.cons_append, foldBytes] using ih hrest
  | case2 acc => simp [foldBytes]
  | case3 acc bs h4 h0 =>
    have hlow := length_le_three h4
    have hpos : 0 < bs.length := List.length_pos_iff.mpr h0
    omega

/-- A last short word is completed with zeros. -/
theorem foldBytes_padded (hacc : acc.Reduced) {xs : List Byte} (h : xs.length % 4 ≠ 0) :
    foldBytes acc xs = foldBytes acc (xs ++ List.replicate (4 - xs.length % 4) 0) := by
  have hwords : wordsOf (xs.length + (4 - xs.length % 4)) - wordsOf xs.length = 0 := by
    unfold wordsOf
    omega
  rw [foldBytes_append_zeros hacc, hwords, foldZeros, if_pos rfl]

/-- The first `n` bytes of a list, those beyond its end being 0. -/
theorem take_append_zeros_eq (data : List Byte) (n : Nat) :
    data.take n ++ List.replicate (n - (data.take n).length) 0 = (List.range n).map (fun i => data.getD i 0) := by
  refine List.ext_getElem (by simp) fun i hi _ => ?_
  simp only [List.getElem_map, List.getElem_range, List.getD_eq_getElem?_getD, List.getElem_append, List.getElem_take, List.getElem_replicate]
  split <;> rename_i hlen <;> rw [List.length_take] at hlen
  · rw [List.getElem?_eq_getElem (by omega), Option.getD_some]
  · have hn : i < n := by simpa using hi
    rw [List.getElem?_eq_none (by omega), Option.getD_none]

/-! ### The digest (R90) -/

theorem digestOf_toNat (hacc : acc.Reduced) : (digestOf acc).toNat = acc.b * 2 ^ 32 + acc.a := by
  obtain ⟨ha, hb⟩ := hacc
  unfold Config.digestModulus at ha hb
  rw [digestOf, BitVec.toNat_ofNat, Nat.mod_eq_of_lt (by omega)]

theorem digestOf_upper (hacc : acc.Reduced) : (digestOf acc).extractLsb' 32 32 = BitVec.ofNat 32 acc.b := by
  obtain ⟨ha, _⟩ := id hacc
  unfold Config.digestModulus at ha
  refine BitVec.eq_of_toNat_eq ?_
  rw [BitVec.extractLsb'_toNat, digestOf_toNat hacc, BitVec.toNat_ofNat, Nat.shiftRight_eq_div_pow]
  omega

theorem digestOf_lower (hacc : acc.Reduced) : (digestOf acc).extractLsb' 0 32 = BitVec.ofNat 32 acc.a := by
  refine BitVec.eq_of_toNat_eq ?_
  rw [BitVec.extractLsb'_toNat, digestOf_toNat hacc, BitVec.toNat_ofNat, Nat.shiftRight_zero]
  omega

end

/-- Settles O47: `foldl_foldWord_eq` from the starting accumulators, the rules of a stream in parts, and the halves of `digestOf`. -/
theorem digestHasClosedFormAndResumes : Obligations.DigestHasClosedFormAndResumes := by
  refine ⟨fun words hwords => ⟨_, rfl, fun w hw => residue_eq_mod (hwords w hw), ?_⟩, fun acc xs ys h => foldBytes_append acc h ys,
    fun acc xs hacc h => foldBytes_padded hacc h, fun acc b0 b1 b2 b3 => ?_,
    fun acc data n hacc => by rw [foldStream_eq hacc, take_append_zeros_eq], fun acc hacc => ⟨digestOf_upper hacc, digestOf_lower hacc⟩⟩
  · rw [foldl_foldWord_eq (acc := ⟨1, 0⟩) start_reduced words hwords]
    refine ⟨rfl, ?_, ?_, ?_⟩
    · simp [weightedSum]
    · exact Nat.le_of_lt_succ (Nat.mod_lt _ (by decide))
    · exact Nat.le_of_lt_succ (Nat.mod_lt _ (by decide))
  · have hword : leNat [b0, b1, b2, b3] = b0.toNat + 256 * b1.toNat + 65536 * b2.toNat + 16777216 * b3.toNat := by
      simp only [leNat]
      ring
    rw [foldBytes, foldBytes, hword]

end Sys2Proof.Machine
end

section
/-! SUPPORT. The operations and the commands' parts that leave every clip record as it is: the line, the links, the slots, the jobs' records,
the card ports and the survey, the operation arbiter, the monitors and the Pace Timer. -/

namespace Sys2Proof.Machine

-- One theorem at a time: checking them all at once needs more threads than the sandbox gives.
set_option Elab.async false

open Sys2Proof

section
variable (s : State)

/-! ### Operations on records -/

@[simp] theorem modJob_clips (h : Nat) (f : Job → Job) : (modJob h f s).clips = s.clips := by
  obtain ⟨_, e⟩ := modJob_frame s h f
  rw [e]

@[simp] theorem modSlot_clips (n : Nat) (f : Slot → Slot) : (modSlot n f s).clips = s.clips := by
  obtain ⟨_, e⟩ := modSlot_frame s n f
  rw [e]

@[simp] theorem freeIfDone_clips (n : Nat) : (freeIfDone n s).clips = s.clips := by
  obtain ⟨_, _, e⟩ := freeIfDone_frame s n
  rw [e]

@[simp] theorem cardKick_clips (p : Port) : (cardKick p s).clips = s.clips := by
  obtain ⟨_, e⟩ := cardKick_frame s p
  rw [e]

@[simp] theorem clearCard_clips (p : Port) : (clearCard p s).clips = s.clips := rfl

@[simp] theorem abandonCard_clips (p : Port) : (abandonCard p s).clips = s.clips := by
  obtain ⟨_, e⟩ := abandonCard_frame s p
  rw [e]

@[simp] theorem bridgeSend_clips (d : Dest) (ask : Option BridgeAsk) (again : Bool) : (bridgeSend d ask again s).clips = s.clips := by
  obtain ⟨_, e⟩ := bridgeSend_frame s d ask again
  rw [e]

@[simp] theorem bridgeKick_clips (d : Dest) : (bridgeKick d s).clips = s.clips := by
  obtain ⟨_, e⟩ := bridgeKick_frame s d
  rw [e]

@[simp] theorem clearBridge_clips (d : Dest) : (clearBridge d s).clips = s.clips := rfl

@[simp] theorem leaveRecopyList_clips (c : Nat) : (leaveRecopyList c s).clips = s.clips := by
  obtain ⟨_, e⟩ := leaveRecopyList_frame s c
  rw [e]

@[simp] theorem tellCopy_clips (c : Nat) (news : CopyNews) (cause : Cause) : (tellCopy c news cause s).clips = s.clips := by
  obtain ⟨_, _, _, _, e⟩ := tellCopy_frame s c news cause
  rw [e]

@[simp] theorem tellAll_clips (ns : List Notice) : (tellAll ns s).clips = s.clips := by
  obtain ⟨_, _, _, _, e⟩ := tellAll_frame ns s
  rw [e]

theorem foldl_clips {α : Type} {g : State → α → State} (step : ∀ u a, (g u a).clips = u.clips) (l : List α) :
    (l.foldl g s).clips = s.clips := by
  induction l generalizing s with
  | nil => rfl
  | cons a l ih => rw [List.foldl_cons, ih, step]

@[simp] theorem dropHolds_clips (d : Dest) (soft hard : Bool) : (dropHolds d soft hard s).clips = s.clips := rfl

/-! ### The Verify Engines and the loss procedure (spec/07, R117 to R119) -/

@[simp] theorem withdraw_clips (e : EngineIx) : (withdraw e s).clips = s.clips := rfl

@[simp] theorem freeEngine_clips (e : EngineIx) : (freeEngine e s).clips = s.clips := rfl

@[simp] theorem askSegment_clips (e : EngineIx) : (askSegment e s).clips = s.clips := by
  unfold askSegment
  split
  · dsimp only
    split
    · rfl
    · split <;> rfl
  · rfl

@[simp] theorem foldSegment_clips (g : Segment) (count : Nat) (data : List Byte) : (foldSegment g count data s).clips = s.clips := by
  unfold foldSegment
  dsimp only
  split <;> rfl

@[simp] theorem dropFromSlots_clips (d : Dest) : (dropFromSlots d s).clips = s.clips := by
  unfold dropFromSlots
  rw [foldl_clips _ fun _ _ => freeIfDone_clips _ _]

@[simp] theorem abortSlots_clips (h : Nat) : (abortSlots h s).clips = s.clips := by
  unfold abortSlots
  rw [foldl_clips _ fun _ _ => freeIfDone_clips _ _]

@[simp] theorem dropTasks_clips (d : Dest) : (dropTasks d s).clips = s.clips := rfl

/-! ### Card ports and the survey (spec/02) -/

@[simp] theorem joinSurvey_clips (p : Port) : (joinSurvey p s).clips = s.clips := by rw [joinSurvey_eq]

@[simp] theorem leaveSurveyQueue_clips (p : Port) : (leaveSurveyQueue p s).clips = s.clips := rfl

theorem settled_clips (p : Port) : (settled p s).clips = s.clips := by
  unfold settled
  dsimp only
  split
  · split <;> simp
  · rfl

@[simp] theorem takeCard_clips (p : Port) (job : Option Nat) : (takeCard p job s).clips = s.clips := by
  obtain ⟨⟨_, _, _, _, _, _, e⟩, _⟩ := takeCard_spec p job s
  rw [e]

theorem holdError_clips (p : Port) : (holdError p s).clips = s.clips := by
  unfold holdError
  split
  · split <;> rfl
  · rfl

theorem blinkToggle_clips (p : Port) : (blinkToggle p s).clips = s.clips := by
  unfold blinkToggle
  split <;> rfl

theorem startSurvey_clips : (startSurvey s).clips = s.clips := by
  unfold startSurvey
  split
  · simp
  · rfl

@[simp] theorem failSurvey_clips (p : Port) (cause : SurveyCause) : (failSurvey p cause s).clips = s.clips := by simp [failSurvey]

theorem surveyIdentified_clips (answer : AdapterIdentity) : (surveyIdentified answer s).clips = s.clips := by
  unfold surveyIdentified
  split
  · split
    · dsimp only
      split
      · simp
      · split <;> simp
    · rfl
  · rfl

@[simp] theorem bindJob_clips (h : Nat) (p : Port) : (bindJob h p s).clips = s.clips := by simp [bindJob]

@[simp] theorem completeSurvey_clips (p : Port) (card : CardIdentity) : (completeSurvey p card s).clips = s.clips := by
  simp only [completeSurvey, refresh_clips]
  split
  · simp
  · split <;> simp

theorem surveyRead_clips (data : List Byte) : (surveyRead data s).clips = s.clips := by
  unfold surveyRead
  split
  · split
    · split <;> simp
    · rfl
  · rfl

theorem surveyError_clips (p : Port) : (surveyError p s).clips = s.clips := by
  unfold surveyError
  split
  · split <;> simp
  · rfl

@[simp] theorem unbindPort_clips (binding : Option Port) (st : PortState) : (unbindPort binding st s).clips = s.clips := by
  obtain ⟨_, e⟩ := unbindPort_frame binding st s
  rw [e]

/-! ### The destination ports (spec/06) -/

@[simp] theorem destState_clips (d : Dest) (st : DestState) (reason : DestReason) : (destState d st reason s).clips = s.clips := by
  simp [destState]

@[simp] theorem startIdentify_clips (d : Dest) (reason : DestReason) : (startIdentify d reason s).clips = s.clips := by simp [startIdentify]

theorem linkComesUp_clips (d : Dest) : (linkComesUp d s).clips = s.clips := by
  unfold linkComesUp
  split <;> simp

theorem identifyAnswered_clips (d : Dest) (answer : Option DestIdentity) : (identifyAnswered d answer s).clips = s.clips := by
  unfold identifyAnswered
  dsimp only
  split
  · split <;> simp
  · rfl

@[simp] theorem attach_clips (d : Dest) : (attach d s).clips = s.clips := by simp [attach]

theorem chooseOp_clips (d : Dest) : (chooseOp d s).clips = s.clips := by
  have hwrite (n : Nat) (rest : List Nat) : (startWrite d n rest s).clips = s.clips := by simp [startWrite]
  have hsegment (e : EngineIx) (rest : List EngineIx) : (startDestSegment d e rest s).clips = s.clips := by simp [startDestSegment]
  unfold chooseOp
  split
  · exact hwrite _ _
  · exact hsegment _ _
  · split
    · exact hsegment _ _
    · exact hwrite _ _
  · rfl

theorem decideOp_clips (d : Dest) : (decideOp d s).clips = s.clips := by
  unfold decideOp
  split
  · split
    · simp [startFlush]
    · exact chooseOp_clips s d
  · rfl

theorem endAbandonedBridge_clips (d : Dest) : (endAbandonedBridge d s).clips = s.clips := by
  unfold endAbandonedBridge
  split <;> simp

@[simp] theorem noteError_clips (d : Dest) (ask : BridgeAsk) (timedOut : Bool) : (noteError d ask timedOut s).clips = s.clips := rfl

@[simp] theorem resend_clips (d : Dest) (ask : BridgeAsk) : (resend d ask s).clips = s.clips := bridgeSend_clips _ _ _ _

theorem identifyTimedOut_clips (d : Dest) : (identifyTimedOut d s).clips = s.clips := by
  unfold identifyTimedOut
  split <;> simp

/-! ### The line, the monitors and the Pace Timer (spec/01, spec/09, spec/10) -/

@[simp] theorem discardFrame_clips (flags : LinkFlags) (cause : LinkCause) : (discardFrame flags cause s).clips = s.clips := by
  simp [discardFrame]

theorem takeField_clips (bytes : List Byte) : (takeField bytes s).clips = s.clips := by
  have hoffer (f : Frame) : (offerFrame f s).clips = s.clips := by
    unfold offerFrame
    split <;> simp
  unfold takeField
  dsimp only
  split
  · rfl
  · split
    · simp
    · split
      · rfl
      · split
        · exact hoffer _
        · simp

theorem receive_clips (bits : Byte) (parityBit stopBit : Bool) : (receive bits parityBit stopBit s).clips = s.clips := by
  unfold receive
  split
  · split <;> rfl
  · split
    · simp
    · split
      · simp
      · exact takeField_clips s _

theorem gapExpired_clips : (gapExpired s).clips = s.clips := by
  unfold gapExpired
  split <;> simp

theorem refuseUnknown_clips : (refuseUnknown s).clips = s.clips := by
  unfold refuseUnknown
  split
  · split
    · split <;> simp
    · rfl
  · rfl

theorem windowExpires_clips (before : DestSet) : (windowExpires before s).clips = s.clips := by
  have hoffer (u : State) : (offerReport u).clips = u.clips := by
    unfold offerReport
    dsimp only
    split <;> simp
  have hreporter (u : State) : (reporterExpires u).clips = u.clips := by
    unfold reporterExpires
    split
    · rfl
    · split
      · rw [hoffer]
      · rfl
  exact hreporter (monitorsExpire _ (nextWindow s))

/-! ### Segments at a card port (R84) -/

theorem arbitrate_clips (p : Port) (first : Bool) : (arbitrate p first s).clips = s.clips := by
  rcases arbitrate_cases s p first with he | ⟨e, rest, _, _, _, _, he⟩ <;> rw [he]
  simp [startSegment]

/-! ### Requests that leave every clip -/

theorem cardSurvey_clips (n : Nat) : (cardSurvey n s).2.clips = s.clips := by
  unfold cardSurvey
  split
  · rfl
  · split
    case h_6 | h_7 | h_8 => simp
    all_goals rfl

theorem destAttach_clips (n : Nat) : (destAttach n s).2.clips = s.clips := by
  unfold destAttach
  split
  · rfl
  · split <;> simp

theorem monitorSet_clips (a : MonitorSetFields) : (monitorSet a s).2.clips = s.clips := by
  unfold monitorSet
  split
  · rfl
  · split <;> rfl

theorem holdResume_clips (n : Nat) : (holdResume n s).2.clips = s.clips := by
  unfold holdResume
  split <;> rfl

theorem destQuery_clips (n : Nat) : (destQuery n s).2.clips = s.clips := by
  unfold destQuery
  split <;> rfl

theorem configSet_clips (pairs : List (Nat × Nat)) : (configSet pairs s).2.clips = s.clips := by
  unfold configSet
  split <;> rfl

theorem jobOpen_clips (a : JobOpenFields) : (jobOpen a s).2.clips = s.clips := by
  unfold jobOpen
  split
  · rfl
  · split
    · rfl
    · split
      · rfl
      · split
        · rfl
        · split
          · rfl
          · split
            · rfl
            · split
              · rfl
              · simp

end

end Sys2Proof.Machine
end

section
/-! SUPPORT. How a copy becomes VERIFIED (R94, R129, R130): a relation between a state and a later one in which only the copies that `ok`
names do, with a rule for every operation that touches a clip; and, command by command, that `ok` need only name the copies whose read-back
compares equal. -/

namespace Sys2Proof.Machine

-- One theorem at a time: checking them all at once needs more threads than the sandbox gives.
set_option Elab.async false

open Sys2Proof

/-! ### The relation -/

/-- A copy that is VERIFIED in `t` was so in `s`, or is one that `ok` names; and the clip table stays keyed. -/
structure Verifies (ok : Nat → Dest → Prop) (s t : State) : Prop where
  keyed : (s.clips.map Prod.fst).Pairwise (· < ·) → (t.clips.map Prod.fst).Pairwise (· < ·)
  copies : (s.clips.map Prod.fst).Pairwise (· < ·) → ∀ c d, copyIs t c d .verified = true → copyIs s c d .verified = true ∨ ok c d

/-- No copy of `k'` is VERIFIED that is not VERIFIED in `k`. -/
def Clip.VerifiesNone (k k' : Clip) : Prop := ∀ d, (k'.copy d).state = .verified → (k.copy d).state = .verified

theorem copyIs_iff {s : State} {c : Nat} {d : Dest} {st : CopyState} :
    copyIs s c d st = true ↔ ∃ k, s.clip c = some k ∧ (k.copy d).state = st := by
  cases hk : s.clip c <;> simp [copyIs, hk]

theorem verifiesNone_of_copies {k k' : Clip} (h : k'.copies = k.copies) : k.VerifiesNone k' := by
  intro d hd
  rwa [Clip.copy, h] at hd

theorem setCopy_verifiesNone {k : Clip} {d : Dest} {x : Copy} (hx : x.state = .verified → (k.copy d).state = .verified) :
    k.VerifiesNone (k.setCopy d x) := by
  intro e he
  by_cases hed : e = d
  · subst hed
    rw [setCopy_copy_self] at he
    exact hx he
  · rwa [setCopy_copy_of_ne _ hed] at he

section
variable {ok : Nat → Dest → Prop} {s t u : State}

theorem Verifies.refl (s : State) : Verifies ok s s := ⟨id, fun _ _ _ => .inl⟩

theorem Verifies.trans (h : Verifies ok s t) (i : Verifies ok t u) : Verifies ok s u :=
  ⟨i.keyed ∘ h.keyed, fun hs c d hu => (i.copies (h.keyed hs) c d hu).elim (h.copies hs c d) .inr⟩

/-- What leaves the clip table. -/
theorem Verifies.of_clips (h : Verifies ok s t) (he : u.clips = t.clips) : Verifies ok s u := by
  refine ⟨fun hs => he ▸ h.keyed hs, fun hs c d hd => h.copies hs c d ?_⟩
  rw [copyIs_iff] at hd ⊢
  rwa [State.clip, he] at hd

theorem Verifies.after_if {c : Prop} [Decidable c] (h : Verifies ok s t) (k : Verifies ok s u) : Verifies ok s (if c then t else u) := by
  split
  · exact h
  · exact k

theorem Verifies.after_foldl {α : Type} {g : State → α → State} (h : Verifies ok s t) (step : ∀ v a, Verifies ok s v → Verifies ok s (g v a))
    (l : List α) : Verifies ok s (l.foldl g t) := by
  induction l generalizing t with
  | nil => exact h
  | cons a l ih => exact ih (step t a h)

/-! ### Changes of the clip table -/

/-- A record stored over a live clip's whose new VERIFIED copies are ones that `ok` names. -/
theorem Verifies.after_setClip_ok (h : Verifies ok s t) {c : Nat} {k k' : Clip} (hk : t.clip c = some k)
    (hv : ∀ d, (k'.copy d).state = .verified → (k.copy d).state = .verified ∨ ok c d) : Verifies ok s (setClip t c k') := by
  refine h.trans ⟨fun ht => pairwise_store ht hk, fun _ i d hd => ?_⟩
  rw [copyIs_iff] at hd ⊢
  obtain ⟨x, hx, hverified⟩ := hd
  by_cases hi : i = c
  · subst hi
    obtain rfl := Option.some.inj ((setClip_clip_self _ _ _).symm.trans hx)
    exact (hv d hverified).imp (fun hd => ⟨k, hk, hd⟩) id
  · exact .inl ⟨x, (setClip_clip_of_ne _ hi _).symm.trans hx, hverified⟩

theorem Verifies.after_setClip (h : Verifies ok s t) {c : Nat} {k k' : Clip} (hk : t.clip c = some k) (hv : k.VerifiesNone k') :
    Verifies ok s (setClip t c k') :=
  h.after_setClip_ok hk fun d hd => .inl (hv d hd)

theorem Verifies.after_modClip (h : Verifies ok s t) {c : Nat} {f : Clip → Clip} (hf : ∀ k : Clip, k.VerifiesNone (f k)) :
    Verifies ok s (modClip c f t) := by
  unfold modClip
  split
  next k hk => exact h.after_setClip hk (hf k)
  · exact h

/-- A new record without a VERIFIED copy. -/
theorem Verifies.after_newClip (h : Verifies ok s t) {c : Nat} {k : Clip} (hfree : t.clip c = none)
    (hk : ∀ d, (k.copy d).state ≠ .verified) : Verifies ok s (setClip t c k) := by
  refine h.trans ⟨fun ht => pairwise_store_free ht hfree, fun _ i d hd => .inl ?_⟩
  rw [copyIs_iff] at hd ⊢
  obtain ⟨x, hx, hverified⟩ := hd
  by_cases hi : i = c
  · subst hi
    obtain rfl := Option.some.inj ((setClip_clip_self _ _ _).symm.trans hx)
    exact absurd hverified (hk d)
  · exact ⟨x, (setClip_clip_of_ne _ hi _).symm.trans hx, hverified⟩

/-- Some clip records are freed. -/
theorem Verifies.after_filterClips (h : Verifies ok s t) {keep : Nat × Clip → Bool} :
    Verifies ok s { t with clips := t.clips.filter keep } := by
  refine h.trans ⟨fun ht => ht.sublist (List.filter_sublist.map _), fun ht c d hd => .inl ?_⟩
  rw [copyIs_iff] at hd ⊢
  obtain ⟨k, hk, hverified⟩ := hd
  exact ⟨k, lookup_of_filter ht hk, hverified⟩

/-- Every clip record changes in place. -/
theorem Verifies.after_mapClips (h : Verifies ok s t) {f : Nat → Clip → Clip} (hf : ∀ c (k : Clip), k.VerifiesNone (f c k)) :
    Verifies ok s { t with clips := t.clips.map (fun e => (e.1, f e.1 e.2)) } := by
  have hkeys : (t.clips.map (fun e => (e.1, f e.1 e.2))).map Prod.fst = t.clips.map Prod.fst := by simp
  refine h.trans ⟨fun ht => by rwa [hkeys], fun _ c d hd => .inl ?_⟩
  rw [copyIs_iff] at hd ⊢
  obtain ⟨k', hk', hverified⟩ := hd
  obtain ⟨k, hk, rfl⟩ := Option.map_eq_some_iff.mp ((lookup_map f t.clips c).symm.trans hk')
  exact ⟨k, hk, hf c k d hverified⟩

/-- Clips that are freed, or whose source-verify state alone moves. -/
theorem Verifies.of_svMoved (h : Verifies ok s t) (hm : ClipsSvMoved t.clips u.clips) : Verifies ok s u := by
  refine h.trans ⟨fun ht => (hm ht).1, fun ht c d hd => .inl ?_⟩
  rw [copyIs_iff] at hd ⊢
  obtain ⟨k', hk', hverified⟩ := hd
  obtain ⟨k, hk, hmoved⟩ := (hm ht).2 c k' hk'
  exact ⟨k, hk, verifiesNone_of_copies hmoved.copies d hverified⟩

/-- No clip is left. -/
theorem Verifies.of_none (h : t.clips = []) : Verifies ok s t := by
  refine ⟨fun _ => by rw [h]; exact .nil, fun _ c d hd => ?_⟩
  obtain ⟨k, hk, _⟩ := copyIs_iff.mp hd
  rw [State.clip, h] at hk
  exact nomatch hk

/-! ### Operations on copies -/

theorem Verifies.after_setCopyState (h : Verifies ok s t) {c : Nat} {d : Dest} {st : CopyState} {cause : Cause} (hst : st ≠ .verified) :
    Verifies ok s (setCopyState c d st cause t) :=
  h.after_modClip fun _ => setCopy_verifiesNone fun hv => absurd hv hst

theorem Verifies.after_setSv (h : Verifies ok s t) {c : Nat} {sv : SvState} : Verifies ok s (setSv c sv t) :=
  h.after_modClip fun _ => verifiesNone_of_copies rfl

theorem Verifies.after_leaveRecopy (h : Verifies ok s t) {c : Nat} {d : Dest} : Verifies ok s (leaveRecopy c d t) := by
  unfold leaveRecopy
  split
  next k hk =>
    dsimp only
    split
    · have hset : Verifies ok s (setClip t c { k with
          recopySet := derase k.recopySet d, passMembers := derase k.passMembers d }) := h.after_setClip hk (verifiesNone_of_copies rfl)
      refine hset.of_clips ?_
      rw [leaveRecopyList_clips]
      split <;> rfl
    · exact h
  · exact h

theorem Verifies.after_failCopy (h : Verifies ok s t) {c : Nat} {d : Dest} {st : CopyState} {cause : Cause} (hst : st ≠ .verified) :
    Verifies ok s (failCopy c d st cause t) :=
  (h.after_setCopyState hst).after_leaveRecopy.of_clips (tellCopy_clips _ _ _ _)

/-! ### The end of an event -/

theorem Verifies.after_closeJobs (h : Verifies ok s t) {hs : List Nat} : Verifies ok s (closeJobs hs t) := h.of_svMoved (closeJobs_svMoved hs t)

theorem Verifies.after_closeSeen (h : Verifies ok s t) {hs : List Nat} : Verifies ok s (closeSeen hs t) := h.of_svMoved (closeSeen_svMoved hs t)

theorem Verifies.after_evalJob (h : Verifies ok s t) {i : Nat} : Verifies ok s (evalJob t i) := h.of_clips (evalJob_clips t i)

theorem Verifies.after_refresh (h : Verifies ok s t) : Verifies ok s (refresh t) := h.of_clips rfl

/-! ### The Verify Engines (spec/07) -/

theorem Verifies.after_giveUp (h : Verifies ok s t) {e : EngineIx} : Verifies ok s (giveUp e t) := by
  unfold giveUp
  split
  next v _ _ =>
    have hfree : Verifies ok s (freeEngine e (withdraw e t)) := h.of_clips rfl
    exact (hfree.after_setSv (c := v.clip) (sv := .queued)).of_clips rfl
  · exact h

theorem Verifies.after_svLetGo (h : Verifies ok s t) {v : Task} : Verifies ok s (svLetGo v t) := by
  unfold svLetGo
  split
  · exact h.after_modClip fun k => verifiesNone_of_copies (by split <;> rfl)
  · exact h

theorem Verifies.after_letGo (h : Verifies ok s t) {e : EngineIx} : Verifies ok s (letGo e t) := by
  unfold letGo
  split
  · have hfree : Verifies ok s (freeEngine e (withdraw e t)) := h.of_clips rfl
    exact hfree.after_svLetGo
  · exact h

theorem Verifies.after_settleTarget (h : Verifies ok s t) {v : Task} {st : CopyState} {sv : SvState} {cause : Cause} (hst : st ≠ .verified) :
    Verifies ok s (settleTarget v st sv cause t) := by
  unfold settleTarget
  split
  · rw [if_neg hst]
    exact h.after_failCopy hst
  · exact h.after_setSv.of_clips (tellCopy_clips _ _ _ _)

/-- A read-back that compares equal (R130): the task's copy becomes VERIFIED. -/
theorem Verifies.after_settleTarget_verified (h : Verifies ok s t) {v : Task} {sv : SvState} {cause : Cause}
    (hok : ∀ d, v.target = .dest d → ok v.clip d) : Verifies ok s (settleTarget v .verified sv cause t) := by
  unfold settleTarget
  split
  next d hd =>
    rw [if_pos rfl]
    refine Verifies.of_clips ?_ (tellCopy_clips _ _ _ _)
    unfold setCopyState modClip
    split
    next k hk =>
      refine h.after_setClip_ok hk fun e he => ?_
      by_cases hed : e = d
      · exact .inr (hed ▸ hok d hd)
      · rw [setCopy_copy_of_ne _ hed] at he
        exact .inl he
    · exact h
  · exact h.after_setSv.of_clips (tellCopy_clips _ _ _ _)

theorem Verifies.after_retryTarget (h : Verifies ok s t) {v : Task} : Verifies ok s (retryTarget v t) := by
  unfold retryTarget
  split
  · exact h.after_modClip fun _ => setCopy_verifiesNone nofun
  · exact h.after_setSv

/-- Only a comparison that finds the digest read back equal to the source digest verifies a copy (R129, R130). -/
theorem Verifies.after_compareTask (h : Verifies ok s t) {e : EngineIx} {v : Task} {i : Nat}
    (hok : ∀ d k acc, v.target = .dest d → t.clip v.clip = some k → (t.engine e).acc = some acc → digestOf acc = k.digest → ok v.clip d) :
    Verifies ok s (compareTask e v i t) := by
  have hfree : Verifies ok s (freeEngine e t) := h.of_clips rfl
  unfold compareTask
  extract_lets same s1 s2
  split
  next hsame =>
    refine (hfree.after_settleTarget_verified fun d hd => ?_).after_closeJobs
    obtain ⟨k, hk, hdigest⟩ := (Option.any_eq_true _ _).mp hsame
    obtain ⟨acc, hacc, hdigest⟩ := Option.map_eq_some_iff.mp (of_decide_eq_true hdigest)
    exact hok d k acc hd hk hacc hdigest
  · have hretry : Verifies ok s s2 := hfree.after_retryTarget
    have hqueue : Verifies ok s { s2 with verifyQueue := s2.verifyQueue ++ [{ v with retry := true }] } := hretry.of_clips rfl
    exact .after_if hqueue.after_closeJobs (hfree.after_settleTarget (by decide)).after_closeJobs

/-- A completed segment compares its task only if it is not an aborted job's. -/
theorem Verifies.after_segmentComplete (h : Verifies ok s t) {g : Segment}
    (hok : g.cancelled = false → ∀ v i d k acc, (t.engine g.engine).task = some (v, i) → v.target = .dest d → t.clip v.clip = some k →
      (t.engine g.engine).acc = some acc → digestOf acc = k.digest → ok v.clip d) : Verifies ok s (segmentComplete g t) := by
  unfold segmentComplete
  split
  next v i htask =>
    split
    · exact h.after_letGo.after_closeJobs
    next hlive =>
      have hset (x : Engine) : Verifies ok s (setEngine t g.engine x) := h.of_clips rfl
      refine .after_if h.after_giveUp.after_closeJobs (.after_if ((hset _).of_clips (askSegment_clips _ _)) ?_)
      refine (hset _).after_compareTask fun d k acc hd hk hacc => ?_
      rw [setEngine_engine_self] at hacc
      exact hok (Bool.not_eq_true _ ▸ hlive) v i d k acc htask hd hk hacc
  · exact h

theorem Verifies.after_segmentFailed (h : Verifies ok s t) {g : Segment} : Verifies ok s (segmentFailed g t) := by
  have hfree : Verifies ok s (freeEngine g.engine t) := h.of_clips rfl
  unfold segmentFailed
  split
  · exact .after_if h.after_letGo.after_closeJobs
      (.after_if h.after_giveUp.after_closeJobs (hfree.after_settleTarget (by decide)).after_closeJobs)
  · exact h

theorem Verifies.after_takeNext (h : Verifies ok s t) : Verifies ok s (takeNext t) := by
  have hstart (v : Task) (q : List Task) : Verifies ok s (startTarget v { t with verifyQueue := q }) := by
    have hqueue : Verifies ok s { t with verifyQueue := q } := h.of_clips rfl
    unfold startTarget
    split
    · exact hqueue.after_modClip fun _ => setCopy_verifiesNone nofun
    · exact hqueue.after_setSv
  unfold takeNext
  split
  · split
    next e v _ _ _ k _ =>
      have htake : (takeTask e v k.job t).clips = (startTarget v { t with verifyQueue := t.verifyQueue.erase v }).clips := by
        simp [takeTask]
      exact ((hstart v _).of_clips htake).after_closeJobs.after_refresh
    · exact h
  · exact h

/-! ### The loss procedure (R117 to R119) -/

/-- A lost copy does not become VERIFIED (R118). -/
theorem lossOf_ne_verified {st st' : CopyState} (h : lossOf st = some st') : st' ≠ .verified := by
  cases st <;> simp [lossOf] at h <;> subst h <;> decide

theorem Verifies.after_loseCopy (h : Verifies ok s t) {d : Dest} {lost : Option DestIdentity} {c : Nat} :
    Verifies ok s (loseCopy d lost t c) := by
  unfold loseCopy
  split
  · split
    · refine .after_if ?_ h
      split
      · exact h.after_failCopy (by decide)
      next hloss => exact (h.after_setCopyState (lossOf_ne_verified hloss)).of_clips (tellCopy_clips _ _ _ _)
      · exact h
    · exact h
  · exact h

theorem Verifies.after_loseDest (h : Verifies ok s t) {d : Dest} {st : DestState} {reason : DestReason} :
    Verifies ok s (loseDest d st reason t) := by
  unfold loseDest
  extract_lets lost x s1 s2 s3 s4 m s5
  have hdrop : Verifies ok s s2 := h.of_clips (by simp [s2, s1])
  have hlose : Verifies ok s s3 := hdrop.after_foldl (g := loseCopy d lost) (fun _ _ hu => hu.after_loseCopy) _
  have hrest : Verifies ok s s5 := hlose.of_clips (by simp [s5, s4])
  exact hrest.after_closeJobs.after_refresh

/-! ### Removal of a card (R20) -/

theorem Verifies.after_removeCard (h : Verifies ok s t) {p : Port} : Verifies ok s (removeCard p t) := by
  have habandon : Verifies ok s (abandonCard p t) := h.of_clips (abandonCard_clips t p)
  have hroll : Verifies ok s (rollBack p (abandonCard p t)) := by
    unfold rollBack
    split
    · have hslot (n : Nat) (x : Reader) : Verifies ok s (freeSlot n (setReader (abandonCard p t) p x)) := habandon.of_clips rfl
      exact .after_if ((hslot _ _).after_modClip fun _ => verifiesNone_of_copies rfl) (hslot _ _)
    · exact habandon
  have hengine {v : State} (hv : Verifies ok s v) (e : EngineIx) : Verifies ok s (removeEngine p v e) := by
    unfold removeEngine
    exact .after_if (.after_if hv.after_letGo hv.after_giveUp) hv
  have hended : Verifies ok s (workEnded p t) := by
    have hengines : Verifies ok s (removeEngines p (rollBack p (abandonCard p t))) := hengine (hengine hroll 1) 0
    rcases removeSegments_cases p (rollBack p (abandonCard p t)) with ⟨_, he⟩ | he <;> rw [workEnded, he]
    · exact hengines
    · exact hengines.of_clips (setReader_clips _ _ _)
  rw [removeCard_eq]
  exact (hended.of_clips (takeCard_clips _ _ _)).after_closeJobs.after_refresh

theorem Verifies.after_absenceExpired (h : Verifies ok s t) {p : Port} : Verifies ok s (absenceExpired p t) := by
  unfold absenceExpired
  refine .after_if ?_ h
  split
  · exact h
  · exact h.of_clips rfl
  · exact h.after_removeCard

theorem Verifies.after_endAbandoned (h : Verifies ok s t) {p : Port} : Verifies ok s (endAbandoned p t) := by
  unfold endAbandoned
  split
  · split
    · exact (h.of_clips (u := cardKick p (clearCard p t)) (by simp)).after_closeJobs.after_refresh
    · exact h
  · exact h

theorem Verifies.after_cardTimedOut (h : Verifies ok s t) {p : Port} : Verifies ok s (cardTimedOut p t) := by
  unfold cardTimedOut
  split
  · split
    · exact h.after_endAbandoned
    · exact h.of_clips (holdError_clips t p)
  · exact h

/-! ### Jobs (spec/03) -/

theorem Verifies.after_pauseEngine (h : Verifies ok s t) {i : Nat} {e : EngineIx} : Verifies ok s (pauseEngine i t e) := by
  unfold pauseEngine
  split
  · exact .after_if h.after_giveUp h
  · exact h

/-- An aborted clip's copies fail or stay (R44). -/
theorem aborted_verifiesNone (k : Clip) : k.VerifiesNone k.aborted := by
  intro d hd
  have hcopy : k.aborted.copy d = (k.copy d).aborted := by simp [Clip.copy, Clip.aborted]
  rw [hcopy, Copy.aborted] at hd
  split at hd
  case h_5 => exact hd
  all_goals exact nomatch hd

theorem Verifies.after_abortClips (h : Verifies ok s t) {i : Nat} : Verifies ok s (abortClips i t) := by
  rw [abortClips_eq]
  refine Verifies.after_mapClips h.after_filterClips (f := fun _ k => if k.job = i then k.aborted else k) fun _ k => ?_
  split
  · exact aborted_verifiesNone k
  · exact verifiesNone_of_copies rfl

theorem Verifies.after_abortDest (h : Verifies ok s t) {i : Nat} {d : Dest} : Verifies ok s (abortDest i t d) := by
  have hset (x : DestPort) : Verifies ok s (setDest t d x) := h.of_clips rfl
  unfold abortDest
  dsimp only
  split
  · exact .after_if (.after_if (hset _) ((hset _).of_clips (modSlot_clips _ _ _))) (hset _)
  · exact .after_if (.after_if (hset _) (hset _).after_letGo) (hset _)
  · exact hset _

theorem Verifies.after_abortReader (h : Verifies ok s t) {i : Nat} {p : Port} : Verifies ok s (abortReader i t p) := by
  unfold abortReader
  extract_lets _ s1
  have hchunk : Verifies ok s s1 := by
    unfold s1
    split
    · exact .after_if (.after_if (h.of_clips rfl) (h.of_clips rfl)) h
    · exact h
  clear_value s1
  have hset (x : Reader) : Verifies ok s (setReader s1 p x) := hchunk.of_clips rfl
  split
  · exact .after_if (.after_if (hset _) (hset _).after_letGo) hchunk
  · exact hchunk

theorem Verifies.after_abortJob (h : Verifies ok s t) {i : Nat} {j : Job} : Verifies ok s (abortJob i j t) := by
  unfold abortJob
  extract_lets s1 s2 s3 s4 s5
  have hport : Verifies ok s (unbindPort j.binding .identified s1) := h.of_clips (by simp [s1])
  have hclips : Verifies ok s s2 := hport.after_abortClips
  have hdests := hclips.after_foldl (g := abortDest i) (fun _ _ hu => hu.after_abortDest) allDests
  have hreaders : Verifies ok s s3 := hdests.after_foldl (g := abortReader i) (fun _ _ hu => hu.after_abortReader) allPorts
  clear_value s3
  have hqueue : Verifies ok s s4 := hreaders.of_clips rfl
  have hengines := hqueue.after_foldl (g := abortEngine i) (fun _ _ hu => .after_if hu.after_letGo hu) [0, 1]
  have hslots : Verifies ok s s5 := hengines.of_clips (abortSlots_clips _ _)
  exact hslots.after_closeSeen.after_refresh

end

end Sys2Proof.Machine
end

section
/-! SUPPORT. How a copy becomes VERIFIED, concluded: the destination ports, the chunk reads and the segments, the answers to the host's
requests, and, command by command, `exec` itself (R94, R129, R130). -/

namespace Sys2Proof.Machine

-- One theorem at a time: checking them all at once needs more threads than the sandbox gives.
set_option Elab.async false

open Sys2Proof

section
variable {ok : Nat → Dest → Prop} {s t u : State}

/-! ### The destination ports (spec/06) -/

theorem Verifies.after_linkGoesDown (h : Verifies ok s t) {d : Dest} : Verifies ok s (linkGoesDown d t) := by
  have hset (x : DestPort) : Verifies ok s (setDest t d x) := h.of_clips rfl
  unfold linkGoesDown
  exact .after_if (.after_if ((hset _).after_loseDest.of_clips (setDest_clips _ _ _)) (h.of_clips (by simp))) h

theorem Verifies.after_countChunk (h : Verifies ok s t) {c : Nat} {d : Dest} : Verifies ok s (countChunk c d t) := by
  unfold countChunk
  split
  next k hk =>
    have hsame (x : Copy) (hx : x.state = (k.copy d).state) : Verifies ok s (setClip t c (k.setCopy d x)) :=
      h.after_setClip hk (setCopy_verifiesNone fun hv => hx ▸ hv)
    have hwritten (x : Copy) (hx : x.state = .written) : Verifies ok s (setClip t c (k.setCopy d x)) :=
      h.after_setClip hk (setCopy_verifiesNone fun hv => by rw [hx] at hv; exact nomatch hv)
    refine .after_if (.after_if (hsame _ rfl) (.after_if (Verifies.after_failCopy ?_ (by decide)) ((hwritten _ rfl).of_clips rfl))) h
    exact hsame _ rfl
  · exact h

theorem Verifies.after_finishWrite (h : Verifies ok s t) {d : Dest} {n : Nat} : Verifies ok s (finishWrite d n t) := by
  unfold finishWrite
  extract_lets x s1 s2 s3
  have hset : Verifies ok s s1 := h.of_clips (setDest_clips _ _ _)
  have hcount : Verifies ok s s2 := hset.after_foldl (g := fun t c => countChunk c d t) (fun _ _ hu => hu.after_countChunk) _
  have hslot : Verifies ok s s3 := hcount.of_clips (by simp [s3])
  exact hslot.after_closeSeen.after_refresh

theorem Verifies.after_endAbortedWrite (h : Verifies ok s t) {d : Dest} {n : Nat} : Verifies ok s (endAbortedWrite d n t) := by
  unfold endAbortedWrite
  extract_lets x s1 s2
  have hslot : Verifies ok s s2 := h.of_clips (by simp [s2, s1])
  exact hslot.after_closeSeen.after_refresh

theorem Verifies.after_writeAnswered (h : Verifies ok s t) {d : Dest} : Verifies ok s (writeAnswered d t) := by
  have hset (x : DestPort) : Verifies ok s (setDest t d x) := h.of_clips rfl
  unfold writeAnswered
  split
  · exact .after_if (hset _).after_endAbortedWrite (.after_if ((hset _).of_clips (bridgeKick_clips _ _)) (hset _).after_finishWrite)
  · exact h

theorem Verifies.after_failPort (h : Verifies ok s t) {d : Dest} {reason : DestReason} : Verifies ok s (failPort d reason t) := by
  have hset : Verifies ok s (setDest t d { t.dest d with op := none }) := h.of_clips rfl
  exact hset.after_loseDest

theorem Verifies.after_failWrite (h : Verifies ok s t) {d : Dest} {n : Nat} : Verifies ok s (failWrite d n t) := by
  have hfail := h.after_foldl (g := fun t c => if copyIs t c d .pending then failCopy c d .failed .writeError t else t)
    (fun _ _ hu => .after_if (hu.after_failCopy (by decide)) hu) ((t.slot n).map Slot.clip).toList
  exact hfail.after_failPort.of_clips (tellAll_clips _ _)

theorem Verifies.after_writeError (h : Verifies ok s t) {d : Dest} {timedOut : Bool} : Verifies ok s (writeError d timedOut t) := by
  have hnote (ask : BridgeAsk) : Verifies ok s (noteError d ask timedOut t) := h.of_clips rfl
  unfold writeError
  split
  · exact .after_if (hnote _).after_endAbortedWrite (.after_if (hnote _).after_failWrite ((hnote _).of_clips (resend_clips _ _ _)))
  · exact h

theorem Verifies.after_flushCopy (h : Verifies ok s t) {d : Dest} {c : Nat} : Verifies ok s (flushCopy d t c) := by
  have hflushed : Verifies ok s (modClip c (fun k => k.setCopy d { k.copy d with state := .flushed }) t) :=
    h.after_modClip fun _ => setCopy_verifiesNone nofun
  unfold flushCopy
  exact .after_if (hflushed.of_clips rfl) h

theorem Verifies.after_flushAnswered (h : Verifies ok s t) {d : Dest} : Verifies ok s (flushAnswered d t) := by
  have hset (x : DestPort) : Verifies ok s (setDest t d x) := h.of_clips rfl
  unfold flushAnswered
  split
  · exact ((hset _).after_foldl (g := flushCopy d) (fun _ _ hu => hu.after_flushCopy) _).after_closeJobs.after_refresh
  · exact h

theorem Verifies.after_flushError (h : Verifies ok s t) {d : Dest} {timedOut : Bool} : Verifies ok s (flushError d timedOut t) := by
  have hnote (ask : BridgeAsk) : Verifies ok s (noteError d ask timedOut t) := h.of_clips rfl
  unfold flushError
  split
  · exact .after_if (hnote _).after_failPort ((hnote _).of_clips (resend_clips _ _ _))
  · exact h

theorem Verifies.after_readError (h : Verifies ok s t) {d : Dest} {timedOut : Bool} : Verifies ok s (readError d timedOut t) := by
  have hnote (ask : BridgeAsk) : Verifies ok s (noteError d ask timedOut t) := h.of_clips rfl
  have hend (g : Segment) (ask : BridgeAsk) : Verifies ok s (endDestSegment d g false (noteError d ask timedOut t)) := by
    have hset (x : DestPort) : Verifies ok s (setDest (noteError d ask timedOut t) d x) := (hnote ask).of_clips rfl
    exact (hset _).after_segmentFailed.after_refresh
  unfold readError
  split
  · exact .after_if (hend _ _) ((hnote _).of_clips (resend_clips _ _ _))
  · exact h

theorem Verifies.after_bridgeTimedOut (h : Verifies ok s t) {d : Dest} : Verifies ok s (bridgeTimedOut d t) := by
  unfold bridgeTimedOut
  split
  · refine .after_if (h.of_clips (endAbandonedBridge_clips t d)) ?_
    split
    · exact h.of_clips (identifyTimedOut_clips t d)
    · exact h.after_writeError
    · exact h.after_flushError
    · exact h.after_readError
  · exact h

/-! ### The slot allocator and chunk reads (spec/04) -/

theorem granted_copies (k : Clip) (again : Bool) : (k.granted again).copies = k.copies := by
  unfold Clip.granted
  split <;> rfl

theorem Verifies.after_grant (h : Verifies ok s t) : Verifies ok s (grant t) := by
  have hstart {n : Nat} {p : Port} {i : Nat} {j : Job} {nc : NextChunk} {k : Clip} {free : List Nat} (hk : t.clip nc.clip = some k) :
      Verifies ok s (startChunk n p i j nc k { t with freeSlots := free }) := by
    have hclip : Verifies ok s (setClip t nc.clip (k.granted nc.recopy)) := h.after_setClip hk (verifiesNone_of_copies (granted_copies k _))
    exact hclip.of_clips (by simp [startChunk, setClip])
  unfold grant
  split
  · split
    · split
      · split
        · split
          next hk => exact hstart hk
          · exact h
        · exact h
      · exact h
    · exact h
  · exact h

theorem Verifies.after_endCancelled (h : Verifies ok s t) {p : Port} {c : ChunkRead} : Verifies ok s (endCancelled p c t) := by
  have hkick : Verifies ok s (cardKick p (dropChunk p c t)) := h.of_clips (by rw [cardKick_clips]; rfl)
  exact hkick.after_closeJobs.after_refresh

/-- A pass that finds the card changed marks its copies and moves none (R83). -/
theorem passEnded_verifiesNone (k : Clip) (acc : Acc) : k.VerifiesNone (k.passEnded acc) := by
  have hmark (x : Copy) : x.markChanged.state = x.state := by
    unfold Copy.markChanged
    split <;> rfl
  intro d hd
  by_cases heq : digestOf acc = k.digest
  · have hcopies : (k.passEnded acc).copies = k.copies := if_pos heq
    exact verifiesNone_of_copies hcopies d hd
  · have hcopy : (k.passEnded acc).copy d = if dmem k.passMembers d then (k.copy d).markChanged else k.copy d := by
      simp [Clip.passEnded, Clip.copy, heq]
    rw [hcopy] at hd
    split at hd
    · rwa [hmark] at hd
    · exact hd

theorem Verifies.after_advance (h : Verifies ok s t) {c : ChunkRead} : Verifies ok s (advance c t) := by
  unfold advance
  split
  next k hk =>
    refine .after_if (.after_if ((h.after_setClip hk ?_).of_clips (leaveRecopyList_clips _ _))
      (h.after_setClip hk (verifiesNone_of_copies rfl))) (h.after_setClip hk (verifiesNone_of_copies ?_))
    · exact passEnded_verifiesNone { k with nextBlock := c.first + c.count, acc := c.acc } c.acc
    · unfold Clip.readOn
      split <;> rfl
  · exact h

theorem Verifies.after_stage (h : Verifies ok s t) {p : Port} {c : ChunkRead} : Verifies ok s (stage p c t) := by
  unfold stage
  split
  · extract_lets set x s1 s2 s3
    have hset : Verifies ok s s1 := h.of_clips rfl
    have hlost : Verifies ok s s2 := hset.after_foldl (g := fun t d => failCopy c.clip d .failed .destLost t)
      (fun _ _ hu => hu.after_failCopy (by decide)) _
    have hplaced : Verifies ok s (placeSlot c.slot set s2) := by
      obtain ⟨_, _, _, e⟩ := placeSlot_frame c.slot set s2
      exact hlost.of_clips (by rw [e])
    exact (Verifies.after_if (hlost.of_clips (freeSlot_clips _ _)) hplaced.after_advance).after_closeSeen.after_refresh
  · exact h

theorem Verifies.after_chunkAnswered (h : Verifies ok s t) {p : Port} {data : List Byte} {waitMs : Nat} :
    Verifies ok s (chunkAnswered p data waitMs t) := by
  unfold chunkAnswered
  split
  next count _ _ c _ _ =>
    extract_lets s1 x s2
    have hread : Verifies ok s s2 := h.of_clips rfl
    refine .after_if hread.after_endCancelled ?_
    unfold chunkProgress
    extract_lets acc s3 c1
    have hmem : Verifies ok s s3 := hread.of_clips rfl
    exact .after_if (hmem.of_clips (cardKick_clips _ _)) hmem.after_stage
  · exact h

theorem Verifies.after_failPending (h : Verifies ok s t) {c : Nat} {set : DestSet} : Verifies ok s (failPending c set t) :=
  h.after_foldl (g := fun t d => if copyIs t c d .pending then failCopy c d .failed .readError t else t)
    (fun _ _ hu => .after_if (hu.after_failCopy (by decide)) hu) _

theorem Verifies.after_failChunk (h : Verifies ok s t) {p : Port} {c : ChunkRead} : Verifies ok s (failChunk p c t) := by
  unfold failChunk
  extract_lets s1 set s2
  have htell : Verifies ok s s1 := by
    obtain ⟨_, _, _, _, e⟩ := tellReadError_frame (s := dropChunk p c t) (c := c)
    exact h.of_clips (by simp only [s1, e]; rfl)
  have hmod (v : State) (hv : Verifies ok s v) (f : Clip → Clip) (hf : ∀ k, (f k).copies = k.copies) : Verifies ok s (modClip c.clip f v) :=
    hv.after_modClip fun k => verifiesNone_of_copies (hf k)
  have hfail : Verifies ok s s2 := by
    refine .after_if (Verifies.of_clips ?_ (leaveRecopyList_clips _ _)) (Verifies.after_failPending ?_)
    · exact hmod _ htell.after_failPending _ fun _ => rfl
    · exact hmod _ htell _ fun _ => rfl
  exact (hfail.of_clips (cardKick_clips _ _)).after_closeJobs.after_refresh

/-! ### Confirmed ERRORs (R17, R73, R85) -/

theorem Verifies.after_chunkError (h : Verifies ok s t) {p : Port} {c : ChunkRead} : Verifies ok s (chunkError p c t) := by
  unfold chunkError
  exact .after_if h.after_endCancelled (.after_if (h.of_clips (by rw [cardKick_clips, setReader_clips])) h.after_failChunk)

theorem Verifies.after_segmentError (h : Verifies ok s t) {p : Port} {g : Segment} : Verifies ok s (segmentError p g t) := by
  have hkick (x : Reader) : Verifies ok s (cardKick p (setReader t p x)) := h.of_clips (by rw [cardKick_clips, setReader_clips])
  have hend : Verifies ok s (endSegment p g false t) := (hkick _).after_segmentFailed.after_refresh
  unfold segmentError
  exact .after_if hend (.after_if (hkick _) hend)

theorem Verifies.after_confirmError (h : Verifies ok s t) {p : Port} : Verifies ok s (confirmError p t) := by
  have hport (x : CardPort) : Verifies ok s (setPort t p x) := h.of_clips rfl
  unfold confirmError
  split
  · refine .after_if ?_ h
    unfold deliverError
    split
    · exact (hport _).of_clips (surveyError_clips _ _)
    · split
      · exact (hport _).after_chunkError
      · exact hport _
    · split
      · exact (hport _).after_segmentError
      · exact hport _
    · exact hport _
  · exact h

/-! ### An answered READ of a verify segment (R85, R91, R114) -/

/-- What lets the copy of clip `c` on `d` become VERIFIED (R129, R130): an engine's task for it, whose segment `g` is complete with a READ
of `count` blocks that are `data`, and whose accumulators with that READ folded in give the source digest. -/
structure ReadBackEqual (s : State) (g : Segment) (count : Nat) (data : List Byte) (c : Nat) (d : Dest) : Prop where
  live : g.cancelled = false
  last : g.count ≤ g.done + count
  equal : ∃ v i k acc, (s.engine g.engine).task = some (v, i) ∧ v.clip = c ∧ v.target = .dest d ∧ s.clip c = some k ∧
    (s.engine g.engine).acc = some acc ∧ digestOf (foldStream acc data (streamBytes k.length (g.first + g.done) count)) = k.digest

theorem foldSegment_task (g : Segment) (count : Nat) (data : List Byte) (s : State) :
    ((foldSegment g count data s).engine g.engine).task = (s.engine g.engine).task := by
  unfold foldSegment
  dsimp only
  split
  · rw [setEngine_engine_self]
  · rfl

/-- An answered READ of a segment changes the accumulators of its engine alone (R91). -/
theorem foldSegment_eq {g : Segment} {v : Task} {i : Nat} {k : Clip} {acc : Acc} (htask : (s.engine g.engine).task = some (v, i))
    (hk : s.clip v.clip = some k) (hacc : (s.engine g.engine).acc = some acc) (count : Nat) (data : List Byte) :
    foldSegment g count data s = setEngine s g.engine
      { s.engine g.engine with acc := some (foldStream acc data (streamBytes k.length (g.first + g.done) count)) } := by
  have hclip : engineClip s g.engine = some k := (engineClip_of_task htask).trans hk
  simp only [foldSegment, hclip, hacc]

/-- The accumulators after a READ of a segment, in an engine whose task's clip is `k`. -/
theorem foldSegment_acc {g : Segment} {count : Nat} {data : List Byte} {v : Task} {i : Nat} {k : Clip} {acc : Acc}
    (htask : (s.engine g.engine).task = some (v, i)) (hk : s.clip v.clip = some k)
    (hacc : ((foldSegment g count data s).engine g.engine).acc = some acc) :
    ∃ acc0, (s.engine g.engine).acc = some acc0 ∧ foldStream acc0 data (streamBytes k.length (g.first + g.done) count) = acc := by
  cases hold : (s.engine g.engine).acc with
  | none => simp [foldSegment, hold] at hacc
  | some acc0 =>
    rw [foldSegment_eq htask hk hold, setEngine_engine_self] at hacc
    exact ⟨acc0, rfl, Option.some.inj hacc⟩

/-- The READ that completes a segment: in `t` its request is over, in `u` its data are folded and the segment has left its port. -/
theorem Verifies.after_lastRead {g : Segment} {count : Nat} {data : List Byte} (h : Verifies ok s u)
    (htengines : t.engines = s.engines) (htclips : t.clips = s.clips) (huengines : u.engines = (foldSegment g count data t).engines)
    (huclips : u.clips = (foldSegment g count data t).clips) (hlast : ¬ g.done + count < g.count)
    (hok : ∀ c d, ReadBackEqual s g count data c d → ok c d) :
    Verifies ok s (segmentComplete { g with done := g.done + count } u) := by
  have hengine (e : EngineIx) : u.engine e = (foldSegment g count data t).engine e := by rw [State.engine, huengines]; rfl
  have hbefore (e : EngineIx) : t.engine e = s.engine e := by rw [State.engine, htengines]; rfl
  refine h.after_segmentComplete fun hlive v i d k acc htask hd hk hacc hdigest => hok v.clip d ?_
  rw [hengine] at htask hacc
  rw [foldSegment_task] at htask
  have hkt : t.clip v.clip = some k := by rwa [State.clip, huclips, foldSegment_clips] at hk
  obtain ⟨acc0, hold, hfold⟩ := foldSegment_acc htask hkt hacc
  rw [hbefore] at htask hold
  rw [State.clip, htclips] at hkt
  exact ⟨hlive, Nat.not_lt.mp hlast, v, i, k, acc0, htask, rfl, hd, hkt, hold, hfold ▸ hdigest⟩

theorem readAnswered_verifies {d : Dest} {data : List Byte}
    (hok : ∀ g start count ms again c e, (s.dest d).op = some (.segment g) → (s.dest d).request = some ⟨.read start count, false, ms, again⟩ →
      ReadBackEqual s g count data c e → ok c e) : Verifies ok s (readAnswered d data s) := by
  have hclear : Verifies ok s (clearBridge d s) := (Verifies.refl s).of_clips (clearBridge_clips s d)
  have hset {v : State} (hv : Verifies ok s v) (x : DestPort) : Verifies ok s (setDest v d x) := hv.of_clips (setDest_clips _ _ _)
  unfold readAnswered
  split
  next g start count ms again hop hrequest =>
    have hfold : Verifies ok s (foldSegment g count data (clearBridge d s)) := hclear.of_clips (foldSegment_clips _ _ _ _)
    have hend := (hset hfold { (foldSegment g count data (clearBridge d s)).dest d with op := none })
    dsimp only
    split
    next hcancelled =>
      have hend : Verifies ok s (segmentComplete g (setDest (clearBridge d s) d { (clearBridge d s).dest d with op := none })) :=
        (hset hclear _).after_segmentComplete fun hlive => absurd hcancelled (by simp [hlive])
      exact hend.after_refresh
    · split
      · exact (hset hfold _).of_clips (bridgeKick_clips _ _)
      next hlast =>
        exact (hend.after_lastRead (setDest_engines _ _ _) (clearBridge_clips s d) (setDest_engines _ _ _) (setDest_clips _ _ _) hlast
          fun c e => hok g start count ms again c e hop hrequest).after_refresh
  · exact .refl s

theorem cardKick_engines (s : State) (p : Port) : (cardKick p s).engines = s.engines := by
  obtain ⟨_, e⟩ := cardKick_frame (s := s) p
  rw [e]

theorem segmentAnswered_verifies {p : Port} {data : List Byte}
    (hok : ∀ g start count ms c e, (s.reader p).segment = some g → (s.port p).request = some ⟨.read start count, .segment, ms, false⟩ →
      ReadBackEqual s g count data c e → ok c e) : Verifies ok s (segmentAnswered p data s) := by
  have hclear : Verifies ok s (clearCard p s) := (Verifies.refl s).of_clips (clearCard_clips s p)
  have hkick {v : State} (hv : Verifies ok s v) (x : Reader) : Verifies ok s (cardKick p (setReader v p x)) :=
    hv.of_clips ((cardKick_clips _ _).trans (setReader_clips _ _ _))
  unfold segmentAnswered
  split
  next start count ms g hrequest hg =>
    have hfold : Verifies ok s (foldSegment g count data (clearCard p s)) := hclear.of_clips (foldSegment_clips _ _ _ _)
    dsimp only
    split
    next hcancelled =>
      have hend : Verifies ok s (segmentComplete g (cardKick p (setReader (clearCard p s) p
          { (clearCard p s).reader p with segment := none, retries := 0 }))) :=
        (hkick hclear _).after_segmentComplete fun hlive => absurd hcancelled (by simp [hlive])
      exact hend.after_refresh
    · split
      · exact hkick hfold _
      next hlast =>
        exact ((hkick hfold _).after_lastRead (setPort_engines _ _ _) (clearCard_clips s p) ((cardKick_engines _ _).trans (setReader_engines _ _ _))
          ((cardKick_clips _ _).trans (setReader_clips _ _ _)) hlast fun c e => hok g start count ms c e hg hrequest).after_refresh
  · exact .refl s

/-! ### The answers to the host's requests -/

/-- A request's owner verifies nothing. -/
def VerifyingOwner {α : Type} (ok : Nat → Dest → Prop) (owner : α → State → Reply × State) : Prop := ∀ a s, Verifies ok s (owner a s).2

theorem Verifies.of_serve {α : Type} {kind : Byte} {fields : List Byte → Option α} {owner : α → State → Reply × State}
    (h : VerifyingOwner ok owner) : Verifies ok s (serve kind fields owner s) := by
  refine serve_induction (.refl s) fun f rest r u _ hu => Verifies.of_clips ?_ (sendFrame_clips _ _)
  have htaken : Verifies ok s (s.taken f rest) := (Verifies.refl s).of_clips rfl
  rcases hu with rfl | ⟨a, rfl⟩
  · exact htaken
  · exact htaken.trans (h a _)

theorem VerifyingOwner.of_clips {α : Type} {owner : α → State → Reply × State} (h : ∀ a s, (owner a s).2.clips = s.clips) :
    VerifyingOwner ok owner := fun a s => (Verifies.refl s).of_clips (h a s)

theorem Verifies.of_withJob {i : Nat} {owner : Job → Reply × State} (hown : ∀ j, Verifies ok s (owner j).2) :
    Verifies ok s (withJob i s owner).2 := by
  unfold withJob
  split
  · exact hown _
  · exact .refl s

theorem Verifies.of_withClip {c : Nat} {owner : Clip → Job → Reply × State} (hown : ∀ k j, s.clip c = some k → Verifies ok s (owner k j).2) :
    Verifies ok s (withClip c s owner).2 := by
  unfold withClip
  split
  next k hk =>
    split
    · exact hown k _ hk
    · exact .refl s
  · exact .refl s

theorem Verifies.of_check {c : Prop} [Decidable c] {x : Reply} {y : Reply × State} (h : Verifies ok s y.2) :
    Verifies ok s (if c then (x, s) else y).2 := by
  split
  · exact .refl s
  · exact h

theorem jobFinal_verifies : VerifyingOwner ok jobFinal := fun i s =>
  .of_withJob fun j => .of_check <| .of_check <| .of_check <| by
    have hset : Verifies ok s (setJob s i { j with intakeFinal := true }) := (Verifies.refl s).of_clips rfl
    exact hset.after_closeJobs.after_refresh

theorem jobPause_verifies : VerifyingOwner ok jobPause := fun i s =>
  .of_withJob fun j => .of_check <| .of_check <| by
    have hset : Verifies ok s (setJob s i { j with paused := true }) := (Verifies.refl s).of_clips rfl
    exact (hset.after_foldl (g := pauseEngine i) (fun _ _ hu => hu.after_pauseEngine) _).after_closeJobs.after_refresh

theorem jobResume_verifies : VerifyingOwner ok jobResume := fun _ s =>
  .of_withJob fun _ => .of_check ((Verifies.refl s).of_clips rfl)

theorem jobAbort_verifies : VerifyingOwner ok jobAbort := fun _ s =>
  .of_withJob fun _ => .of_check (Verifies.refl s).after_abortJob

theorem cardRelease_verifies : VerifyingOwner ok cardRelease := fun i s =>
  .of_withJob fun j => .of_check <| .of_check <| by
    have hport : Verifies ok s (unbindPort j.binding .released { s with known := addKnown s.known j.identity.fingerprint }) :=
      (Verifies.refl s).of_clips (unbindPort_clips _ _ _)
    have hset (x : Job) : Verifies ok s
        (setJob (unbindPort j.binding .released { s with known := addKnown s.known j.identity.fingerprint }) i x) := hport.of_clips rfl
    exact (hset _).after_closeJobs.after_refresh

theorem clipBegin_verifies : VerifyingOwner ok clipBegin := fun a s =>
  .of_withJob fun _ => .of_check <| .of_check <| by
    split
    · exact .refl s
    next c hfirst =>
      have hfresh (d : Dest) : ((beginClip a).copy d).state ≠ .verified := by simp [beginClip, Clip.copy, Copy.fresh]
      exact (Verifies.refl s).after_newClip (firstFree_spec _ _ _ _ hfirst).1 hfresh

theorem addExtents_copies (k : Clip) (v : Target) (es : List Extent) : (k.addExtents v es).copies = k.copies := by cases v <;> rfl

theorem extentsAdd_verifies : VerifyingOwner ok extentsAdd := fun _ s =>
  .of_withClip fun _ _ hk => .of_check <| by
    split
    · exact .refl s
    · exact .of_check <| .of_check <| .of_check <| .of_check <|
        (Verifies.refl s).after_setClip hk (verifiesNone_of_copies (addExtents_copies _ _ _))

/-- A committed clip's copies are PENDING, or as they were (R54). -/
theorem committed_verifiesNone (k : Clip) (j : Job) : k.VerifiesNone (k.committed j) := by
  intro d hd
  have hcopy : (k.committed j).copy d = if dmem j.destSet d then ⟨.pending, 0, false, .none⟩ else k.copy d := by
    simp [Clip.committed, Clip.copy]
  rw [hcopy] at hd
  split at hd
  · exact nomatch hd
  · exact hd

theorem clipCommit_verifies : VerifyingOwner ok clipCommit := fun c s =>
  .of_withClip fun k j hk => .of_check <| .of_check <| by
    have hclip : Verifies ok s (setClip s c (k.committed j)) := (Verifies.refl s).after_setClip hk (committed_verifiesNone k j)
    have hset (x : Job) : Verifies ok s (setJob (setClip s c (k.committed j)) k.job x) := hclip.of_clips rfl
    exact (hset _).after_evalJob.after_refresh

theorem clipCancel_verifies : VerifyingOwner ok clipCancel := fun _ s =>
  .of_withClip fun _ _ _ => .of_check (Verifies.refl s).after_filterClips

theorem clipQuery_verifies : VerifyingOwner ok clipQuery := fun _ s => .of_withClip fun _ _ _ => .refl s

theorem clipRecopy_verifies : VerifyingOwner ok clipRecopy := fun a s =>
  .of_withClip fun k j hk => by
    split
    · exact .refl s
    · refine .of_check <| .of_check <| .of_check <| .of_check <| .of_check <| .of_check <| .of_check ?_
      unfold recopy
      extract_lets k0 k1 j1
      have hclip : Verifies ok s (setClip s a.1 k1) := (Verifies.refl s).after_setClip hk (setCopy_verifiesNone (k := k) nofun)
      have hset : Verifies ok s (setJob (setClip s a.1 k1) k.job j1) := hclip.of_clips rfl
      exact hset.after_evalJob.after_refresh

theorem reverified_verifiesNone (k : Clip) (v : Target) : k.VerifiesNone (k.reverified v) := by
  cases v with
  | dest d => exact setCopy_verifiesNone nofun
  | source => exact verifiesNone_of_copies rfl

theorem clipReverify_verifies : VerifyingOwner ok clipReverify := fun a s =>
  .of_withClip fun k _ hk => by
    have htaken (v : Target) : Verifies ok s (reverify a.1 k v s) := by
      have hclip : Verifies ok s (setClip s a.1 (k.reverified v)) := (Verifies.refl s).after_setClip hk (reverified_verifiesNone k v)
      have hqueue (q : List Task) : Verifies ok s { setClip s a.1 (k.reverified v) with verifyQueue := q } := hclip.of_clips rfl
      exact (hqueue _).after_evalJob.after_refresh
    split
    · exact .refl s
    · refine .of_check ?_
      split
      · exact .of_check <| .of_check <| .of_check <| htaken _
      · exact .of_check <| .of_check <| htaken _

theorem destDetach_verifies : VerifyingOwner ok destDetach := by
  intro a s
  unfold destDetach
  split
  · exact .refl s
  · refine .of_check <| .of_check ?_
    split
    · exact (Verifies.refl s).after_loseDest
    · exact .of_check ((Verifies.refl s).of_clips (by simp))

/-! ### Command by command -/

theorem awake_verifies {f : State → State} (h : Verifies ok s (f s)) : Verifies ok s (awake f s) := .after_if (.refl s) h

theorem awake_of_clips {f : State → State} (h : (f s).clips = s.clips) : Verifies ok s (awake f s) :=
  awake_verifies ((Verifies.refl s).of_clips h)

/-- A soft reset frees every clip (R13, R60). -/
theorem softReset_verifies : Verifies ok s (softResetState s) := by
  refine .of_none ?_
  rw [softResetState_eq, refresh_clips, foldl_clips _ fun _ _ => bridgeKick_clips _ _]
  rfl

/-- The read-back that command `i` completes: an OK answer to the READ in flight of a verify segment, at a destination or at a card port. -/
def ReadsBack (i : Instr) (s : State) (c : Nat) (d : Dest) : Prop :=
  ∃ g data start count ms, ReadBackEqual s g count data c d ∧
    ((∃ d' again, i = .destReadOk d' data ∧ (s.dest d').op = some (.segment g) ∧
        (s.dest d').request = some ⟨.read start count, false, ms, again⟩) ∨
      ∃ p, i = .sourceSegmentRequestDone p data ∧ (s.reader p).segment = some g ∧
        (s.port p).request = some ⟨.read start count, .segment, ms, false⟩)

/-- A command verifies no copy but one whose read-back it completes. -/
theorem exec_verifies (i : Instr) (s : State) : Completes (Verifies (ReadsBack i s)) i s := by
  have v (ok : Nat → Dest → Prop) : Verifies ok s s := .refl s
  cases i with
  | hardReset r => exact ⟨_, rfl, .of_none rfl⟩
  | softReset => exact ⟨_, rfl, .after_if softReset_verifies (v _)⟩
  | frameSendEnd =>
    refine ⟨_, rfl, awake_verifies ?_⟩
    unfold frameEnds
    split
    · exact .after_if softReset_verifies ((v _).of_clips (by simp))
    · exact v _
  | resetHeldLow => exact ⟨_, rfl, (v _).of_clips rfl⟩
  | rxByte => exact ⟨_, rfl, awake_of_clips (receive_clips s _ _ _)⟩
  | interbyteGapTimeout => exact ⟨_, rfl, awake_of_clips (gapExpired_clips s)⟩
  | unknownRequest => exact ⟨_, rfl, (v _).of_clips (refuseUnknown_clips s)⟩
  | identify => exact ⟨_, rfl, .of_serve (.of_clips fun _ _ => rfl)⟩
  | statusGet => exact ⟨_, rfl, .of_serve (.of_clips fun _ _ => rfl)⟩
  | configSet => exact ⟨_, rfl, .of_serve (.of_clips fun a t => configSet_clips t a)⟩
  | flagsClear => exact ⟨_, rfl, .of_serve (.of_clips fun _ _ => rfl)⟩
  | deviceReset => exact ⟨_, rfl, .of_serve (.of_clips fun _ _ => rfl)⟩
  | cardSurvey => exact ⟨_, rfl, .of_serve (.of_clips fun a t => cardSurvey_clips t a)⟩
  | jobOpen => exact ⟨_, rfl, .of_serve (.of_clips fun a t => jobOpen_clips t a)⟩
  | jobFinal => exact ⟨_, rfl, .of_serve jobFinal_verifies⟩
  | jobPause => exact ⟨_, rfl, .of_serve jobPause_verifies⟩
  | jobResume => exact ⟨_, rfl, .of_serve jobResume_verifies⟩
  | jobAbort => exact ⟨_, rfl, .of_serve jobAbort_verifies⟩
  | jobQuery => exact ⟨_, rfl, .of_serve fun _ t => .of_withJob fun _ => .refl t⟩
  | cardRelease => exact ⟨_, rfl, .of_serve cardRelease_verifies⟩
  | clipBegin => exact ⟨_, rfl, .of_serve clipBegin_verifies⟩
  | extentsAdd => exact ⟨_, rfl, .of_serve extentsAdd_verifies⟩
  | clipCommit => exact ⟨_, rfl, .of_serve clipCommit_verifies⟩
  | clipCancel => exact ⟨_, rfl, .of_serve clipCancel_verifies⟩
  | clipQuery => exact ⟨_, rfl, .of_serve clipQuery_verifies⟩
  | clipRecopy => exact ⟨_, rfl, .of_serve clipRecopy_verifies⟩
  | clipReverify => exact ⟨_, rfl, .of_serve clipReverify_verifies⟩
  | destAttach => exact ⟨_, rfl, .of_serve (.of_clips fun a t => destAttach_clips t a)⟩
  | destDetach => exact ⟨_, rfl, .of_serve destDetach_verifies⟩
  | destQuery => exact ⟨_, rfl, .of_serve (.of_clips fun a t => destQuery_clips t a)⟩
  | monitorSet => exact ⟨_, rfl, .of_serve (.of_clips fun a t => monitorSet_clips t a)⟩
  | holdResume => exact ⟨_, rfl, .of_serve (.of_clips fun a t => holdResume_clips t a)⟩
  | knownListQuery => exact ⟨_, rfl, .of_serve (.of_clips fun _ _ => rfl)⟩
  | knownListClear => exact ⟨_, rfl, .of_serve (.of_clips fun _ _ => rfl)⟩
  | presenceAppear p => exact ⟨_, rfl, .after_if ((v _).of_clips rfl) (.after_if (v _) ((v _).of_clips rfl))⟩
  | presenceDrop p => exact ⟨_, rfl, .after_if ((v _).of_clips rfl) (.after_if ((v _).of_clips rfl) (v _))⟩
  | settleTimerExpiry p => exact ⟨_, rfl, awake_of_clips (settled_clips s p)⟩
  | cardRemoval p => exact ⟨_, rfl, awake_verifies (v _).after_absenceExpired⟩
  | adapterErrorAnswer p => exact ⟨_, rfl, awake_of_clips (holdError_clips s p)⟩
  | cardRequestTimeout p => exact ⟨_, rfl, awake_verifies (v _).after_cardTimedOut⟩
  | errorConfirm p => exact ⟨_, rfl, awake_verifies (v _).after_confirmError⟩
  | cardAbandonedAnswer p => exact ⟨_, rfl, awake_verifies (v _).after_endAbandoned⟩
  | lampBlinkToggle p => exact ⟨_, rfl, awake_of_clips (blinkToggle_clips s p)⟩
  | surveyStart => exact ⟨_, rfl, awake_of_clips (startSurvey_clips s)⟩
  | surveyIdentifyAnswer => exact ⟨_, rfl, awake_of_clips (surveyIdentified_clips s _)⟩
  | surveyReadDone => exact ⟨_, rfl, awake_of_clips (surveyRead_clips s _)⟩
  | slotGrant => exact ⟨_, rfl, awake_verifies (v _).after_grant⟩
  | chunkRequestDone => exact ⟨_, rfl, awake_verifies (v _).after_chunkAnswered⟩
  | sourceSegmentStart => exact ⟨_, rfl, awake_of_clips (arbitrate_clips s _ _)⟩
  | sourceSegmentRequestDone p data =>
    exact ⟨_, rfl, awake_verifies (segmentAnswered_verifies fun g start count ms c d hg hrequest hequal =>
      ⟨g, data, start, count, ms, hequal, .inr ⟨p, rfl, hg, hrequest⟩⟩)⟩
  | destLinkUp d => exact ⟨_, rfl, .after_if ((v _).of_clips rfl) ((v _).of_clips (linkComesUp_clips s d))⟩
  | destLinkDown d => exact ⟨_, rfl, .after_if ((v _).of_clips rfl) (v _).after_linkGoesDown⟩
  | destIdentifyAnswer => exact ⟨_, rfl, awake_of_clips (identifyAnswered_clips s _ _)⟩
  | destRequestTimeout => exact ⟨_, rfl, awake_verifies (v _).after_bridgeTimedOut⟩
  | bridgeAbandonedAnswer => exact ⟨_, rfl, awake_of_clips (endAbandonedBridge_clips s _)⟩
  | destArbiterDecide => exact ⟨_, rfl, awake_of_clips (decideOp_clips s _)⟩
  | destWriteOk => exact ⟨_, rfl, awake_verifies (v _).after_writeAnswered⟩
  | destWriteError => exact ⟨_, rfl, awake_verifies (v _).after_writeError⟩
  | destFlushOk => exact ⟨_, rfl, awake_verifies (v _).after_flushAnswered⟩
  | destFlushError => exact ⟨_, rfl, awake_verifies (v _).after_flushError⟩
  | destReadOk d data =>
    exact ⟨_, rfl, awake_verifies (readAnswered_verifies fun g start count ms again c e hop hrequest hequal =>
      ⟨g, data, start, count, ms, hequal, .inl ⟨d, again, rfl, hop, hrequest⟩⟩)⟩
  | destReadError => exact ⟨_, rfl, awake_verifies (v _).after_readError⟩
  | engineTakeTask => exact ⟨_, rfl, awake_verifies (v _).after_takeNext⟩
  | paceTimerExpiry => exact ⟨_, rfl, awake_of_clips (windowExpires_clips s _)⟩

end

/-- Settles O60: `exec_verifies`, and what `ReadBackEqual` says of the engine and its accumulators. -/
theorem verifiedOnlyByEqualReadBack : Obligations.VerifiedOnlyByEqualReadBack := by
  intro i s t c k k' d he hkeyed hk hk' hverified hbefore
  have hread : ReadsBack i s c d := by
    rcases ((exec_verifies i s).of_next he).copies hkeyed.2.1 c d (copyIs_iff.mpr ⟨k', hk', hverified⟩) with hold | hnew
    · obtain ⟨x, hx, hv⟩ := copyIs_iff.mp hold
      obtain rfl := Option.some.inj (hk.symm.trans hx)
      exact absurd hv hbefore
    · exact hnew
  obtain ⟨g, data, start, count, ms, ⟨hlive, hlast, v, h, x, acc, htask, hclip, htarget, hx, hacc, hequal⟩, hanswer⟩ := hread
  obtain rfl := Option.some.inj (hk.symm.trans hx)
  exact ⟨g, v, h, acc, data, start, count, ms, htask, hclip, htarget, hacc, hlive, hlast, hequal, hanswer⟩

end Sys2Proof.Machine
end

section
/-! SUPPORT. Verify segments (R91, R114, R126 to R131): the requests of a segment at a destination's port, what the completion of a segment
leads to, and the outcome of a comparison with the tests that follow it. -/

namespace Sys2Proof.Machine

-- One theorem at a time: checking them all at once needs more threads than the sandbox gives.
set_option Elab.async false

open Sys2Proof

section
variable {s : State} {d : Dest} {p : Port} {data : List Byte} {start count ms : Nat} {again : Bool} {g : Segment} {u : Task} {h : Nat}
  {k : Clip} {j : Job} {acc : Acc}

/-! ### The READs of a segment (R91, R114) -/

/-- The engine of segment `g` with the data of a READ of `count` blocks folded in (R91). -/
def foldedEngine (s : State) (g : Segment) (k : Clip) (acc : Acc) (count : Nat) (data : List Byte) : Engine :=
  { s.engine g.engine with acc := some (foldStream acc data (streamBytes k.length (g.first + g.done) count)) }

/-- The operation of an online port is a verify segment: its next READ is sent. -/
theorem bridgeKick_segment (honline : (s.dest d).state = .online) (htask : (s.engine g.engine).task = some (u, h))
    (hk : s.clip u.clip = some k) :
    bridgeKick d (setDest s d { s.dest d with op := some (.segment g), request := none }) =
      setDest s d { s.dest d with
        op := some (.segment g)
        request := some ⟨.read (requestRun (k.target d) (g.first + g.done) (g.count - g.done)).1
          (requestRun (k.target d) (g.first + g.done) (g.count - g.done)).2, false, s.cfg.destTimeoutMs, false⟩ } := by
  have hclip (x : DestPort) : engineClip (setDest s d x) g.engine = some k := (engineClip_of_task htask).trans hk
  simp [bridgeKick, honline, bridgeAsk, hclip, bridgeSend, setDest_setDest]

theorem setDest_setEngine_clearBridge (e : EngineIx) (x : Engine) (y : DestPort) :
    setDest (setEngine (clearBridge d s) e x) d y = setDest (setEngine s e x) d y :=
  setDest_setDest (setEngine s e x) d _ y

theorem foldSegment_clearBridge (htask : (s.engine g.engine).task = some (u, h)) (hk : s.clip u.clip = some k)
    (hacc : (s.engine g.engine).acc = some acc) :
    foldSegment g count data (clearBridge d s) = setEngine (clearBridge d s) g.engine (foldedEngine s g k acc count data) :=
  foldSegment_eq (s := clearBridge d s) htask hk hacc count data

theorem clearBridge_dest : (clearBridge d s).dest d = { s.dest d with request := none } := setDest_dest_self _ _ _

/-- A READ of a verify segment that leaves blocks to be read is folded, and the next READ is sent. -/
theorem readAnswered_more (hop : (s.dest d).op = some (.segment g)) (hrequest : (s.dest d).request = some ⟨.read start count, false, ms, again⟩)
    (hlive : g.cancelled = false) (hmore : g.done + count < g.count) (honline : (s.dest d).state = .online)
    (htask : (s.engine g.engine).task = some (u, h)) (hk : s.clip u.clip = some k) (hacc : (s.engine g.engine).acc = some acc) :
    readAnswered d data s =
      setDest (setEngine s g.engine (foldedEngine s g k acc count data)) d
        { s.dest d with
          op := some (.segment { g with done := g.done + count })
          request := some
            ⟨.read (requestRun (k.target d) (g.first + (g.done + count)) (g.count - (g.done + count))).1
              (requestRun (k.target d) (g.first + (g.done + count)) (g.count - (g.done + count))).2, false, s.cfg.destTimeoutMs, false⟩ } := by
  have hcancelled : ¬ g.cancelled = true := by simp [hlive]
  have hfolded : ((setEngine s g.engine (foldedEngine s g k acc count data)).engine g.engine).task = some (u, h) := by
    rw [setEngine_engine_self]
    exact htask
  simp only [readAnswered, hop, hrequest, if_neg hcancelled, if_pos hmore, foldSegment_clearBridge htask hk hacc, setEngine_dest,
    clearBridge_dest, setDest_setEngine_clearBridge]
  exact bridgeKick_segment (s := setEngine s g.engine (foldedEngine s g k acc count data)) (g := { g with done := g.done + count }) honline hfolded hk

/-- The port `d` at the end of a verify segment: the operation is over, and with it the request (R114). -/
def DestPort.segmentOver (x : DestPort) : DestPort := { x with op := none, request := none }

/-- The last READ of a verify segment is folded, the segment leaves its port, and the engine is told. -/
theorem readAnswered_last (hop : (s.dest d).op = some (.segment g)) (hrequest : (s.dest d).request = some ⟨.read start count, false, ms, again⟩)
    (hlive : g.cancelled = false) (hlast : g.count ≤ g.done + count) (htask : (s.engine g.engine).task = some (u, h))
    (hk : s.clip u.clip = some k) (hacc : (s.engine g.engine).acc = some acc) :
    readAnswered d data s = refresh (segmentComplete { g with done := g.done + count }
      (setDest (setEngine s g.engine (foldedEngine s g k acc count data)) d (s.dest d).segmentOver)) := by
  have hcancelled : ¬ g.cancelled = true := by simp [hlive]
  simp only [readAnswered, hop, hrequest, if_neg hcancelled, if_neg (Nat.not_lt.mpr hlast), foldSegment_clearBridge htask hk hacc,
    endDestSegment, if_true, setEngine_dest, clearBridge_dest, setDest_setEngine_clearBridge]
  rfl

/-- The last READ of a source-verify segment is folded, the segment leaves its port, and the engine is told (R85). -/
theorem segmentAnswered_last (hg : (s.reader p).segment = some g) (hrequest : (s.port p).request = some ⟨.read start count, .segment, ms, false⟩)
    (hlive : g.cancelled = false) (hlast : g.count ≤ g.done + count) (htask : (s.engine g.engine).task = some (u, h))
    (hk : s.clip u.clip = some k) (hacc : (s.engine g.engine).acc = some acc) :
    ∃ ports, segmentAnswered p data s = refresh (segmentComplete { g with done := g.done + count }
      { setReader (setEngine s g.engine (foldedEngine s g k acc count data)) p { s.reader p with segment := none, retries := 0 } with
        ports := ports }) := by
  have hcancelled : ¬ g.cancelled = true := by simp [hlive]
  have hfold : foldSegment g count data (clearCard p s) = setEngine (clearCard p s) g.engine (foldedEngine s g k acc count data) :=
    foldSegment_eq (s := clearCard p s) htask hk hacc count data
  obtain ⟨ports, hkick⟩ := cardKick_frame
    (setReader (setEngine (clearCard p s) g.engine (foldedEngine s g k acc count data)) p { s.reader p with segment := none, retries := 0 }) p
  refine ⟨ports, ?_⟩
  simp only [segmentAnswered, hrequest, hg, if_neg hcancelled, if_neg (Nat.not_lt.mpr hlast), hfold, endSegment, if_true]
  exact congrArg (fun v => refresh (segmentComplete { g with done := g.done + count } v)) hkick

/-! ### The end of a segment (R126 to R129) -/

/-- The engine whose segment of `n` blocks is over: its next block has advanced (R126). -/
def Engine.advanced (x : Engine) (n : Nat) : Engine := { x with next := x.next + n, seg := .none }

theorem segmentComplete_live (hlive : g.cancelled = false) (htask : (s.engine g.engine).task = some (u, h)) (hk : s.clip u.clip = some k)
    (hrunning : u.target = .source → jobPaused s h = false) :
    segmentComplete g s =
      if (s.engine g.engine).next + g.count < k.blocks then askSegment g.engine (setEngine s g.engine ((s.engine g.engine).advanced g.count))
      else compareTask g.engine u h (setEngine s g.engine ((s.engine g.engine).advanced g.count)) := by
  have hpaused : ¬ (u.target = .source ∧ jobPaused s h = true) := fun ⟨hsource, hp⟩ => by simp [hrunning hsource] at hp
  simp only [segmentComplete, htask, hlive, Bool.false_eq_true, if_false, if_neg hpaused, setEngine_engine_self, hk, Option.map_some,
    Option.getD_some, Engine.advanced]

/-- The engine asks for its next segment at the port of the destination of its task (R127). -/
theorem askSegment_dest {e : EngineIx} {x : Engine} (htask : x.task = some (u, h)) (hd : u.target = .dest d) :
    askSegment e (setEngine s e x) =
      setDest (setEngine s e { x with seg := .waiting }) d { s.dest d with segWaiting := (s.dest d).segWaiting ++ [e] } := by
  simp only [askSegment, setEngine_engine_self, htask, hd]
  simp [setEngine, setDest, State.dest]

/-- A segment that is not the last of its DEST task is complete: the engine's next block has advanced, and its next segment waits. -/
theorem segmentComplete_next (hlive : g.cancelled = false) (htask : (s.engine g.engine).task = some (u, h)) (hd : u.target = .dest d)
    (hk : s.clip u.clip = some k) (hnext : (s.engine g.engine).next + g.count < k.blocks) :
    segmentComplete { g with done := g.done + count } (setDest (setEngine s g.engine (foldedEngine s g k acc count data)) d (s.dest d).segmentOver) =
      setDest
        (setEngine s g.engine ⟨some (u, h), (s.engine g.engine).next + g.count,
          some (foldStream acc data (streamBytes k.length (g.first + g.done) count)), .waiting⟩)
        d { (s.dest d).segmentOver with segWaiting := (s.dest d).segWaiting ++ [g.engine] } := by
  have hengine : (setDest (setEngine s g.engine (foldedEngine s g k acc count data)) d (s.dest d).segmentOver).engine g.engine =
      foldedEngine s g k acc count data := setEngine_engine_self _ _ _
  have hdest : (setDest (setEngine s g.engine (foldedEngine s g k acc count data)) d (s.dest d).segmentOver).dest d = (s.dest d).segmentOver :=
    setDest_dest_self _ _ _
  have htask' : (foldedEngine s g k acc count data).task = some (u, h) := htask
  have hlive' := segmentComplete_live (s := setDest (setEngine s g.engine (foldedEngine s g k acc count data)) d (s.dest d).segmentOver)
    (g := { g with done := g.done + count }) hlive (by rw [hengine]; exact htask') hk (fun hsource => nomatch hd.symm.trans hsource)
  rw [hlive', if_pos (by rw [hengine]; exact hnext), hengine,
    askSegment_dest (x := (foldedEngine s g k acc count data).advanced g.count) htask' hd, hdest]
  simp [setEngine, setDest, Engine.advanced, foldedEngine, htask, DestPort.segmentOver]

/-! ### What an outcome leaves -/

/-- What the outcome of a comparison leaves as it is: the engines, the Verify Queue, and the record of job `h`, but for its recopy list. -/
structure Leaves (h : Nat) (j : Job) (s t : State) : Prop where
  engines : t.engines = s.engines
  queue : t.verifyQueue = s.verifyQueue
  job : ∃ recopy, t.job h = some { j with recopy := recopy }

variable {t : State} {c : Nat}

theorem Leaves.refl (hj : s.job h = some j) : Leaves h j s s := ⟨rfl, rfl, j.recopy, hj⟩

theorem Leaves.after_modClip (l : Leaves h j s t) (f : Clip → Clip) : Leaves h j s (modClip c f t) := by
  obtain ⟨_, hmod⟩ := modClip_frame t c f
  rw [hmod]
  exact ⟨l.engines, l.queue, l.job⟩

theorem Leaves.after_tellCopy (l : Leaves h j s t) (news : CopyNews) (cause : Cause) : Leaves h j s (tellCopy c news cause t) := by
  obtain ⟨_, _, _, _, htell⟩ := tellCopy_frame (s := t) c news cause
  rw [htell]
  exact ⟨l.engines, l.queue, l.job⟩

theorem Leaves.after_leaveRecopy (l : Leaves h j s t) : Leaves h j s (leaveRecopy c d t) := by
  obtain ⟨_, hj⟩ := l.job
  obtain ⟨j', hj', hmoved, _⟩ := leaveRecopy_job c d hj
  obtain ⟨_, _, _, hleave⟩ := leaveRecopy_frame (s := t) c d
  refine ⟨?_, ?_, j'.recopy, hj'.trans (congrArg some hmoved)⟩
  · rw [hleave]
    exact l.engines
  · rw [hleave]
    exact l.queue

/-! ### The outcome of a comparison (R130, R131) -/

/-- Clip `c` has a record that differs from `k` in the copy on `d`, now `x`, and in its recopy sets alone. -/
def CopyBecomes (c : Nat) (d : Dest) (x : Copy) (k : Clip) (t : State) : Prop :=
  ∃ k', t.clip c = some k' ∧ k'.digest = k.digest ∧ k'.copy d = x ∧ ∀ e, e ≠ d → k'.copy e = k.copy e

/-- A new state of a copy that stays in the recopy set, with its notice (R130). -/
theorem tellCopy_setCopyState (hk : s.clip c = some k) (hj : s.job h = some j) (st : CopyState) (cause : Cause) :
    Leaves h j s (tellCopy c (.copy d st) cause (setCopyState c d st cause s)) ∧
      CopyBecomes c d { k.copy d with state := st, cause := cause } k (tellCopy c (.copy d st) cause (setCopyState c d st cause s)) ∧
      (tellCopy c (.copy d st) cause (setCopyState c d st cause s)).Told (.copyState k.job c (.copy d st) cause) := by
  have hset : (setCopyState c d st cause s).clip c = some (k.setCopy d { k.copy d with state := st, cause := cause }) := by
    rw [setCopyState, modClip_clip, if_pos rfl, hk, Option.map_some]
  exact ⟨((Leaves.refl hj).after_modClip _).after_tellCopy _ _,
    ⟨_, (tellCopy_clip _ _ _ _ _).trans hset, rfl, setCopy_copy_self _ _ _, fun e he => setCopy_copy_of_ne _ he _⟩,
    tellCopy_told (k := k.setCopy d _) hset⟩

/-- A new state of a copy that leaves the recopy set, with its notice (R82, R131). -/
theorem failCopy_becomes (hk : s.clip c = some k) (hj : s.job h = some j) (st : CopyState) (cause : Cause) :
    Leaves h j s (failCopy c d st cause s) ∧
      CopyBecomes c d { k.copy d with state := st, cause := cause } k (failCopy c d st cause s) ∧
      (failCopy c d st cause s).Told (.copyState k.job c (.copy d st) cause) := by
  have hclip : (failCopy c d st cause s).clip c = some (k.failed d st cause) := by
    rw [failCopy_clip, if_pos rfl, hk, Option.map_some]
  have htell : (leaveRecopy c d (setCopyState c d st cause s)).clip c = some (k.failed d st cause) :=
    (tellCopy_clip _ _ _ _ _).symm.trans hclip
  have hrest := failed_rest d st cause k
  refine ⟨((Leaves.refl hj).after_modClip _).after_leaveRecopy.after_tellCopy _ _,
    ⟨_, hclip, by rw [hrest], (failed_copy d st cause k d).trans (if_pos rfl), fun e he => (failed_copy d st cause k e).trans (if_neg he)⟩, ?_⟩
  have htold := tellCopy_told (news := .copy d st) (cause := cause) htell
  rw [hrest] at htold
  exact htold

/-- What the decision of a DEST task makes of its copy: state and cause, and the notice (R130, R131). -/
theorem settleTarget_dest (hd : u.target = .dest d) (hk : s.clip u.clip = some k) (hj : s.job h = some j) (st : CopyState) (sv : SvState)
    (cause : Cause) :
    Leaves h j s (settleTarget u st sv cause s) ∧
      CopyBecomes u.clip d { k.copy d with state := st, cause := cause } k (settleTarget u st sv cause s) ∧
      (settleTarget u st sv cause s).Told (.copyState k.job u.clip (.copy d st) cause) := by
  simp only [settleTarget, hd]
  split
  · exact tellCopy_setCopyState hk hj st cause
  · exact failCopy_becomes hk hj st cause

theorem setSv_clip (hk : s.clip c = some k) (sv : SvState) : (setSv c sv s).clip c = some { k with sv := sv } := by
  rw [setSv, modClip_clip, if_pos rfl, hk, Option.map_some]

/-- What the decision of a SOURCE task makes of its clip: the source-verify state, and the notice (R130, R131). -/
theorem settleTarget_source (hsource : u.target = .source) (hk : s.clip u.clip = some k) (hj : s.job h = some j) (st : CopyState) (sv : SvState)
    (cause : Cause) :
    Leaves h j s (settleTarget u st sv cause s) ∧ (settleTarget u st sv cause s).clip u.clip = some { k with sv := sv } ∧
      (settleTarget u st sv cause s).Told (.copyState k.job u.clip (.source sv) cause) := by
  simp only [settleTarget, hsource]
  exact ⟨((Leaves.refl hj).after_modClip _).after_tellCopy _ _, (tellCopy_clip _ _ _ _ _).trans (setSv_clip hk sv),
    tellCopy_told (k := { k with sv := sv }) (setSv_clip hk sv)⟩

/-! ### The tests that follow (R38, R47, R145) -/

/-- The tests of job `h` keep clip `c`, but that its source verify may be QUEUED if the job's SOURCE tasks were not issued before; they put SOURCE
tasks alone at the tail of the Verify Queue, keep the engines, and lose no notice. -/
structure Judges (h c : Nat) (j : Job) (k : Clip) (s t : State) : Prop where
  engine : ∀ e, t.engine e = s.engine e
  queue : ∃ more, t.verifyQueue = s.verifyQueue ++ more ∧ ∀ x ∈ more, x.target = .source
  told : ∀ n, s.Told n → t.Told n
  clip : ∃ sv, (sv = k.sv ∨ sv = .queued) ∧ t.clip c = some { k with sv := sv }
  issued : j.tasksIssued = true → t.clip c = some k

theorem closeJobs_judges (hj : s.job h = some j) (hst : j.state ≠ .closing) (hk : s.clip c = some k) :
    Judges h c j k s (refresh (closeJobs [h] s)) := by
  obtain ⟨⟨⟨_, _, _, _, _, _, _, hrest⟩, _, _, hclip⟩, _⟩ := closeJobs_closes hj hst
  have htested := closeJobs_tested [h] s
  refine ⟨fun e => ?_, htested.queue, fun n hn => refresh_keeps_told (htested.told n hn), ?_, fun hissued => ?_⟩
  · rw [refresh_engine, hrest]
    rfl
  · rw [refresh_clip]
    rcases hclip c with hsame | ⟨k', hk', _, hqueued⟩
    · exact ⟨k.sv, .inl rfl, hsame.trans hk⟩
    · obtain rfl := Option.some.inj (hk.symm.trans hk')
      exact ⟨.queued, .inr rfl, hqueued⟩
  · obtain ⟨_, _, _, _, _, _, hclosed, _⟩ := closeJobs_issued hj hst hissued
    rw [refresh_clip, hclosed]
    exact hk

/-! ### The comparison (R129 to R131) -/

/-- The comparison itself: whether the accumulators' digest is the clip's source digest. -/
theorem digestsEqual_iff {e : EngineIx} (hk : s.clip u.clip = some k) (hacc : (s.engine e).acc = some acc) :
    (s.clip u.clip).any (fun k => decide ((s.engine e).acc.map digestOf = some k.digest)) = true ↔ digestOf acc = k.digest := by
  rw [hk, hacc, Option.any_some, Option.map_some, decide_eq_true_iff, Option.some.injEq]

theorem compareTask_equal {e : EngineIx} (hk : s.clip u.clip = some k) (hacc : (s.engine e).acc = some acc) (hequal : digestOf acc = k.digest) :
    compareTask e u h s = closeJobs [h] (settleTarget u .verified .matched .none (freeEngine e s)) :=
  if_pos ((digestsEqual_iff hk hacc).mpr hequal)

theorem compareTask_retry {e : EngineIx} (hk : s.clip u.clip = some k) (hacc : (s.engine e).acc = some acc) (hequal : digestOf acc ≠ k.digest)
    (hretry : u.retry = false) (hcfg : s.cfg.verifyRetry = 1) :
    compareTask e u h s = closeJobs [h]
      { retryTarget u (freeEngine e s) with
        verifyQueue := (retryTarget u (freeEngine e s)).verifyQueue ++ [{ u with retry := true }] } :=
  (if_neg (mt (digestsEqual_iff hk hacc).mp hequal)).trans (if_pos ⟨hretry, hcfg⟩)

theorem compareTask_mismatch {e : EngineIx} (hk : s.clip u.clip = some k) (hacc : (s.engine e).acc = some acc)
    (hequal : digestOf acc ≠ k.digest) (hretry : u.retry = true ∨ s.cfg.verifyRetry ≠ 1) :
    compareTask e u h s = closeJobs [h] (settleTarget u .mismatch .mismatch .digest (freeEngine e s)) := by
  have hnone : ¬ (u.retry = false ∧ s.cfg.verifyRetry = 1) := fun ⟨hfirst, hcfg⟩ =>
    hretry.elim (fun h => by simp [hfirst] at h) (fun h => h hcfg)
  exact (if_neg (mt (digestsEqual_iff hk hacc).mp hequal)).trans (if_neg hnone)

/-- What a comparison has led to: the engine is free, the clip keeps its source digest, and the Verify Queue has `added` and then SOURCE
tasks at its tail. -/
structure Compared (e : EngineIx) (u : Task) (k : Clip) (added : List Task) (s t : State) (k' : Clip) (more : List Task) : Prop where
  free : t.engine e = ⟨none, 0, none, .none⟩
  clip : t.clip u.clip = some k'
  digest : k'.digest = k.digest
  queue : t.verifyQueue = s.verifyQueue ++ added ++ more
  more : ∀ x ∈ more, x.target = .source

/-- The decision of a task (R130, R131), with the tests that follow. -/
theorem settled_compared {e : EngineIx} (hk : s.clip u.clip = some k) (hj : s.job h = some j) (hjob : k.job = h) (hst : j.state ≠ .closing)
    (hissued : u.target = .source → j.tasksIssued = true) (st : CopyState) (sv : SvState) (cause : Cause) :
    ∃ k' more, Compared e u k [] s (refresh (closeJobs [h] (settleTarget u st sv cause (freeEngine e s)))) k' more ∧
      (∀ d, u.target = .dest d → k'.copy d = { k.copy d with state := st, cause := cause } ∧ (∀ i, i ≠ d → k'.copy i = k.copy i) ∧
        (refresh (closeJobs [h] (settleTarget u st sv cause (freeEngine e s)))).Told (.copyState h u.clip (.copy d st) cause)) ∧
      (u.target = .source → k'.sv = sv ∧ k'.copies = k.copies ∧
        (refresh (closeJobs [h] (settleTarget u st sv cause (freeEngine e s)))).Told (.copyState h u.clip (.source sv) cause)) := by
  have hfree {x : State} (l : Leaves h j (freeEngine e s) x) : x.engine e = Engine.idle := by
    rw [State.engine, l.engines]
    exact setEngine_engine_self _ _ _
  cases htarget : u.target with
  | dest d =>
    obtain ⟨hleaves, ⟨k1, hk1, hdigest, hself, hothers⟩, htold⟩ := settleTarget_dest (s := freeEngine e s) htarget hk hj st sv cause
    generalize settleTarget u st sv cause (freeEngine e s) = x at *
    obtain ⟨_, hjx⟩ := hleaves.job
    obtain ⟨hengine, ⟨more, hqueue, hmore⟩, hkeeps, ⟨sv', _, hclip⟩, _⟩ := closeJobs_judges hjx hst hk1
    refine ⟨_, more, ⟨(hengine e).trans (hfree hleaves), hclip, hdigest, ?_, hmore⟩, fun i hi => ?_, nofun⟩
    · rw [hqueue, hleaves.queue, List.append_nil]
      rfl
    · obtain rfl := Target.dest.inj hi
      exact ⟨hself, hothers, hkeeps _ (hjob ▸ htold)⟩
  | source =>
    obtain ⟨hleaves, hk1, htold⟩ := settleTarget_source (s := freeEngine e s) htarget hk hj st sv cause
    generalize settleTarget u st sv cause (freeEngine e s) = x at *
    obtain ⟨_, hjx⟩ := hleaves.job
    obtain ⟨hengine, ⟨more, hqueue, hmore⟩, hkeeps, _, hclip⟩ := closeJobs_judges hjx hst hk1
    refine ⟨_, more, ⟨(hengine e).trans (hfree hleaves), hclip (hissued htarget), rfl, ?_, hmore⟩, nofun,
      fun _ => ⟨rfl, rfl, hkeeps _ (hjob ▸ htold)⟩⟩
    rw [hqueue, hleaves.queue, List.append_nil]
    rfl

/-- The clip whose target `v` goes back for the automatic retry (R131). -/
def Clip.retried (v : Target) (k : Clip) : Clip :=
  match v with
  | .dest d => k.setCopy d { k.copy d with state := .flushed, retryUsed := true }
  | .source => { k with sv := .queued }

theorem retryTarget_eq (u : Task) (s : State) : retryTarget u s = modClip u.clip (Clip.retried u.target) s := by
  unfold retryTarget
  split
  next hd =>
    rw [hd]
    rfl
  next hsource =>
    rw [hsource]
    rfl

theorem retried_digest (v : Target) (k : Clip) : (k.retried v).digest = k.digest := by cases v <;> rfl

/-- The state at the automatic retry (R131): the target has gone back, and the marked task is at the tail of the queue. -/
def retried (e : EngineIx) (u : Task) (s : State) : State :=
  { retryTarget u (freeEngine e s) with verifyQueue := (retryTarget u (freeEngine e s)).verifyQueue ++ [{ u with retry := true }] }

theorem retried_eq (e : EngineIx) (u : Task) (s : State) :
    ∃ clips, retried e u s = { setEngine s e Engine.idle with clips := clips, verifyQueue := s.verifyQueue ++ [{ u with retry := true }] } := by
  obtain ⟨clips, hmod⟩ := modClip_frame (freeEngine e s) u.clip (Clip.retried u.target)
  refine ⟨clips, ?_⟩
  rw [retried, retryTarget_eq, hmod]
  rfl

theorem retried_clip {e : EngineIx} (hk : s.clip u.clip = some k) : (retried e u s).clip u.clip = some (k.retried u.target) := by
  have hback : (retryTarget u (freeEngine e s)).clip u.clip = some (k.retried u.target) := by
    rw [retryTarget_eq, modClip_clip, if_pos rfl]
    exact congrArg (Option.map (Clip.retried u.target)) hk
  exact hback

/-- The automatic retry (R131), with the tests that follow. -/
theorem retried_compared {e : EngineIx} (hk : s.clip u.clip = some k) (hj : s.job h = some j) (hst : j.state ≠ .closing) :
    ∃ k' more, Compared e u k [{ u with retry := true }] s (refresh (closeJobs [h] (retried e u s))) k' more ∧
      (∀ d, u.target = .dest d → k'.copy d = { k.copy d with state := .flushed, retryUsed := true }) ∧
      (u.target = .source → k'.sv = .queued ∧ k'.copies = k.copies) := by
  have hk1 := retried_clip (e := e) hk
  obtain ⟨_, hframe⟩ := retried_eq e u s
  have hfree : (retried e u s).engine e = Engine.idle := by
    rw [hframe]
    exact setEngine_engine_self _ _ _
  have hqueue1 : (retried e u s).verifyQueue = s.verifyQueue ++ [{ u with retry := true }] := by rw [hframe]
  have hj1 : (retried e u s).job h = some j := by
    rw [hframe]
    exact hj
  obtain ⟨hengine, ⟨more, hqueue, hmore⟩, _, ⟨sv, hsv, hclip⟩, _⟩ := closeJobs_judges hj1 hst hk1
  rw [hqueue1] at hqueue
  refine ⟨_, more, ⟨(hengine e).trans hfree, hclip, retried_digest _ _, hqueue, hmore⟩, fun d hd => ?_, fun hsource => ?_⟩
  · change (k.retried u.target).copy d = _
    rw [hd]
    exact setCopy_copy_self _ _ _
  · rw [hsource] at hsv
    exact ⟨hsv.elim id id, congrArg (fun v => (k.retried v).copies) hsource⟩

/-! ### The last segment of a task (R129) -/

/-- The state in which the last segment of engine `e`'s task is over and `acc` are its accumulators, so that the task is compared. -/
structure LastSegmentOver (e : EngineIx) (acc : Acc) (s w : State) : Prop where
  acc : (w.engine e).acc = some acc
  clips : w.clips = s.clips
  jobs : w.jobs = s.jobs
  queue : w.verifyQueue = s.verifyQueue
  cfg : w.cfg = s.cfg

/-- The last segment of a task is complete in `v`, the last READ being folded: the task is compared. -/
theorem segmentComplete_compares {v : State} (hengine : v.engine g.engine = foldedEngine s g k acc count data) (hclips : v.clips = s.clips)
    (hjobs : v.jobs = s.jobs) (hqueue : v.verifyQueue = s.verifyQueue) (hcfg : v.cfg = s.cfg) (hlive : g.cancelled = false)
    (htask : (s.engine g.engine).task = some (u, h)) (hk : s.clip u.clip = some k) (hrunning : u.target = .source → jobPaused s h = false)
    (hend : k.blocks ≤ (s.engine g.engine).next + g.count) :
    ∃ w, segmentComplete { g with done := g.done + count } v = compareTask g.engine u h w ∧
      LastSegmentOver g.engine (foldStream acc data (streamBytes k.length (g.first + g.done) count)) s w := by
  have htask' : (v.engine g.engine).task = some (u, h) := by
    rw [hengine]
    exact htask
  have hk' : v.clip u.clip = some k := by rwa [State.clip, hclips]
  have hrunning' : u.target = .source → jobPaused v h = false := by rwa [jobPaused, State.job, hjobs]
  have hend' : ¬ (v.engine g.engine).next + g.count < k.blocks := by
    rw [hengine]
    exact Nat.not_lt.mpr hend
  refine ⟨_, (segmentComplete_live (g := { g with done := g.done + count }) hlive htask' hk' hrunning').trans (if_neg hend'), ?_, hclips, hjobs,
    hqueue, hcfg⟩
  rw [setEngine_engine_self, hengine]
  rfl

/-- The answer to the last READ of a DEST task (R114, R129). -/
theorem destReadOk_compares (hlow : s.resetLow = false) (hop : (s.dest d).op = some (.segment g))
    (hrequest : (s.dest d).request = some ⟨.read start count, false, ms, again⟩) (hlive : g.cancelled = false)
    (hlast : g.count ≤ g.done + count) (htask : (s.engine g.engine).task = some (u, h)) (hd : u.target = .dest d)
    (hk : s.clip u.clip = some k) (hacc : (s.engine g.engine).acc = some acc) (hend : k.blocks ≤ (s.engine g.engine).next + g.count) :
    ∃ w, exec (.destReadOk d data) s = .next (refresh (compareTask g.engine u h w)) ∧
      LastSegmentOver g.engine (foldStream acc data (streamBytes k.length (g.first + g.done) count)) s w := by
  obtain ⟨w, hcompares, hover⟩ := segmentComplete_compares (s := s) (data := data) (count := count) (acc := acc)
    (v := setDest (setEngine s g.engine (foldedEngine s g k acc count data)) d (s.dest d).segmentOver)
    (setEngine_engine_self _ _ _) rfl rfl rfl rfl hlive htask hk (fun hsource => nomatch hd.symm.trans hsource) hend
  refine ⟨w, ?_, hover⟩
  rw [exec, execDestReadOk, awake_of_high hlow, readAnswered_last hop hrequest hlive hlast htask hk hacc, hcompares]

/-- The answer to the last READ of a SOURCE task whose job runs (R85, R129). -/
theorem sourceSegmentRequestDone_compares (hlow : s.resetLow = false) (hg : (s.reader p).segment = some g)
    (hrequest : (s.port p).request = some ⟨.read start count, .segment, ms, false⟩) (hlive : g.cancelled = false)
    (hlast : g.count ≤ g.done + count) (htask : (s.engine g.engine).task = some (u, h)) (hk : s.clip u.clip = some k)
    (hj : s.job h = some j) (hpaused : j.paused = false) (hacc : (s.engine g.engine).acc = some acc)
    (hend : k.blocks ≤ (s.engine g.engine).next + g.count) :
    ∃ w, exec (.sourceSegmentRequestDone p data) s = .next (refresh (compareTask g.engine u h w)) ∧
      LastSegmentOver g.engine (foldStream acc data (streamBytes k.length (g.first + g.done) count)) s w := by
  have hrunning : jobPaused s h = false := by rw [jobPaused, hj, Option.any_some, hpaused]
  obtain ⟨ports, hanswered⟩ := segmentAnswered_last (data := data) hg hrequest hlive hlast htask hk hacc
  obtain ⟨w, hcompares, hover⟩ := segmentComplete_compares (s := s) (data := data) (count := count) (acc := acc)
    (v := { setReader (setEngine s g.engine (foldedEngine s g k acc count data)) p { s.reader p with segment := none, retries := 0 } with
      ports := ports })
    (setEngine_engine_self _ _ _) rfl rfl rfl rfl hlive htask hk (fun _ => hrunning) hend
  refine ⟨w, ?_, hover⟩
  rw [exec, execSourceSegmentRequestDone, awake_of_high hlow, hanswered, hcompares]

end

/-- Settles O49: a segment's READs by `readAnswered_more` and `readAnswered_last`; the last segment by the comparison it leads to
(`destReadOk_compares`, `sourceSegmentRequestDone_compares`) and that comparison's three outcomes. -/
theorem verifySegmentsFoldAndCompare : Obligations.VerifySegmentsFoldAndCompare := by
  refine ⟨?_, ?_⟩
  · intro d data s start count ms again g u h k acc acc' hlow hop hlive hrequest htask hd hk hacc hfold
    subst hfold
    rw [exec, execDestReadOk, awake_of_high hlow]
    refine ⟨fun hmore honline => ?_, fun hlast hnext => ?_⟩
    · rw [readAnswered_more hop hrequest hlive hmore honline htask hk hacc]
      rfl
    · rw [readAnswered_last hop hrequest hlive hlast htask hk hacc, segmentComplete_next hlive htask hd hk hnext]
      rfl
  · intro i data s start count ms g u h k j acc same hlow hlive htask hk hj hjob hst hacc hlast hend hanswer hsame
    obtain ⟨w, hexec, hover⟩ : ∃ w, exec i s = .next (refresh (compareTask g.engine u h w)) ∧
        LastSegmentOver g.engine (foldStream acc data (streamBytes k.length (g.first + g.done) count)) s w := by
      rcases hanswer with ⟨d, again, rfl, hd, hop, hrequest⟩ | ⟨p, rfl, _, hg, hrequest, hpaused, _⟩
      · exact destReadOk_compares hlow hop hrequest hlive hlast htask hd hk hacc hend
      · exact sourceSegmentRequestDone_compares hlow hg hrequest hlive hlast htask hk hj hpaused hacc hend
    have hissued : u.target = .source → j.tasksIssued = true := by
      rcases hanswer with ⟨d, _, _, hd, _⟩ | ⟨_, _, _, _, _, _, hissued⟩
      · exact fun hsource => nomatch hd.symm.trans hsource
      · exact fun _ => hissued
    have hkw : w.clip u.clip = some k := by rwa [State.clip, hover.clips]
    have hjw : w.job h = some j := by rwa [State.job, hover.jobs]
    have hqueue := hover.queue
    have hcfg := hover.cfg
    cases same with
    | true =>
      rw [compareTask_equal hkw hover.acc (hsame.mp rfl)] at hexec
      obtain ⟨k', more, ⟨hfree, hclip, hdigest, hq, hmore⟩, hdest, hsource⟩ :=
        settled_compared (e := g.engine) hkw hjw hjob hst hissued .verified .matched .none
      rw [hqueue, List.append_nil] at hq
      exact ⟨_, k', more, hexec, hfree, hclip, hdigest, hmore, fun _ => ⟨hq, hdest, hsource⟩, nofun, nofun⟩
    | false =>
      have hunequal : digestOf (foldStream acc data (streamBytes k.length (g.first + g.done) count)) ≠ k.digest :=
        fun hequal => nomatch hsame.mpr hequal
      by_cases hretry : u.retry = false ∧ s.cfg.verifyRetry = 1
      · obtain ⟨hfirst, hset⟩ := hretry
        rw [compareTask_retry hkw hover.acc hunequal hfirst (hcfg ▸ hset)] at hexec
        obtain ⟨k', more, ⟨hfree, hclip, hdigest, hq, hmore⟩, hdest, hsource⟩ := retried_compared (e := g.engine) (u := u) hkw hjw hst
        rw [hqueue] at hq
        refine ⟨_, k', more, hexec, hfree, hclip, hdigest, hmore, nofun, fun _ _ _ => ⟨hq, hdest, hsource⟩, fun _ hnone => ?_⟩
        exact hnone.elim (fun hu => nomatch hfirst.symm.trans hu) (absurd hset)
      · have hnone : u.retry = true ∨ w.cfg.verifyRetry ≠ 1 := by
          rw [hcfg]
          cases hu : u.retry with
          | true => exact .inl rfl
          | false => exact .inr fun hset => hretry ⟨hu, hset⟩
        rw [compareTask_mismatch hkw hover.acc hunequal hnone] at hexec
        obtain ⟨k', more, ⟨hfree, hclip, hdigest, hq, hmore⟩, hdest, hsource⟩ :=
          settled_compared (e := g.engine) hkw hjw hjob hst hissued .mismatch .mismatch .digest
        rw [hqueue, List.append_nil] at hq
        exact ⟨_, k', more, hexec, hfree, hclip, hdigest, hmore, nofun, fun _ hu hc => absurd ⟨hu, hc⟩ hretry,
          fun _ _ => ⟨hq, hdest, hsource⟩⟩

end Sys2Proof.Machine
end

section
/-! SUPPORT. The bridge links (R96, R97), the link and the identification of a drive (R98, R99, R103), DEST_ATTACH and DEST_DETACH (R100 to R102), and
the operation arbiter (R106, R111, R116). -/

namespace Sys2Proof.Machine

-- One theorem at a time: checking them all at once needs more threads than the sandbox gives.
set_option Elab.async false

open Sys2Proof

section
variable {s : State} {d : Dest} {x : DestPort}

/-! ### Changes of a destination port -/

/-- The outbound arbiter does not look at the destination ports. -/
theorem pump_setDest (s : State) (d : Dest) (x : DestPort) : pump (setDest s d x) = setDest (pump s) d x := by
  cases hsending : s.sending with
  | some r => rw [pump_busy s (by simp [hsending]), pump_busy _ (by simp [hsending])]
  | none =>
    cases hreply : s.waitingReply with
    | some r =>
      rw [pump_reply s hsending hreply, pump_reply _ (by simpa using hsending) (by simpa using hreply)]
      rfl
    | none =>
      cases hnotices : s.notices with
      | nil => rw [pump_idle s hreply hnotices, pump_idle _ (by simpa using hreply) (by simpa using hnotices)]
      | cons n rest =>
        rw [pump_notice s hsending hreply hnotices,
          pump_notice _ (by simpa using hsending) (by simpa using hreply) (by simpa using hnotices)]
        rfl

/-- Telling a notice does not look at the destination ports. -/
theorem notify_setDest (n : Notice) (s : State) (d : Dest) (x : DestPort) : notify n (setDest s d x) = setDest (notify n s) d x := by
  have henqueue : enqueue n (setDest s d x) = setDest (enqueue n s) d x := by
    by_cases hroom : s.notices.length < Config.noticeEntries <;> simp [enqueue, hroom] <;> rfl
  rw [notify, henqueue, pump_setDest, notify]

/-! ### What takes a free bridge link (R96) -/

/-- A free bridge link takes the request; a link that is occupied keeps the request it has (R96). -/
def DestPort.asks (x : DestPort) (ask : BridgeAsk) (timeoutMs : Nat) : DestPort :=
  { x with request := x.request.or (some ⟨ask, false, timeoutMs, false⟩) }

theorem asks_free (hfree : x.request = none) (ask : BridgeAsk) (timeoutMs : Nat) :
    x.asks ask timeoutMs = { x with request := some ⟨ask, false, timeoutMs, false⟩ } := by
  rw [DestPort.asks, hfree, Option.none_or]

theorem asks_occupied {r : BridgeRequest} (hbusy : x.request = some r) (ask : BridgeAsk) (timeoutMs : Nat) : x.asks ask timeoutMs = x := by
  rw [DestPort.asks, hbusy, Option.some_or, ← hbusy]

/-- A port that is IDENTIFYING sends IDENTIFY (R99). -/
theorem bridgeKick_identify (hstate : x.state = .identifying) :
    bridgeKick d (setDest s d x) = setDest s d (x.asks .identify s.cfg.destTimeoutMs) := by
  cases hrequest : x.request with
  | some r => simp [bridgeKick, hrequest, asks_occupied hrequest]
  | none => simp [bridgeKick, hrequest, hstate, bridgeSend, asks_free hrequest, setDest_setDest]

/-- An ONLINE port sends its operation's next request (R106, R111, R114). -/
theorem bridgeKick_operation {op : DestOp} {ask : BridgeAsk} (hstate : x.state = .online) (hop : x.op = some op)
    (hask : bridgeAsk s d op = some ask) : bridgeKick d (setDest s d x) = setDest s d (x.asks ask s.cfg.destTimeoutMs) := by
  have hask' : bridgeAsk (setDest s d x) d op = some ask := by
    rw [← hask]
    cases op <;> rfl
  cases hrequest : x.request with
  | some r => simp [bridgeKick, hrequest, asks_occupied hrequest]
  | none => simp [bridgeKick, hrequest, hstate, hop, hask', bridgeSend, asks_free hrequest, setDest_setDest]

/-- Nothing waits for the link at a port that is neither IDENTIFYING nor ONLINE with an operation. -/
theorem bridgeKick_idle (hstate : (s.dest d).state ≠ .identifying) (hop : (s.dest d).state = .online → (s.dest d).op = none) :
    bridgeKick d s = s := by
  cases hrequest : (s.dest d).request with
  | some r => simp [bridgeKick, hrequest]
  | none => cases hs : (s.dest d).state <;> simp_all [bridgeKick]

/-! ### The link and the identification (R98, R99, R103) -/

theorem startIdentify_eq (reason : DestReason) : startIdentify d reason s =
    notify (.destState d .identifying reason)
      (setDest s d ({ s.dest d with state := .identifying, identity := none }.asks .identify s.cfg.destTimeoutMs)) := by
  rw [startIdentify, destState, setDest_dest_self, setDest_setDest, notify_setDest, bridgeKick_identify rfl, notify_setDest, notify_cfg]

theorem identifyInFlight_of {ms : Nat} {again : Bool} (hstate : x.state = .identifying)
    (hrequest : x.request = some ⟨.identify, false, ms, again⟩) : identifyInFlight x = true := by
  simp [identifyInFlight, hstate, hrequest]

theorem holdable_iff (id : DestIdentity) :
    DestIdentity.holdable id = true ↔ 1 ≤ id.capacity ∧ id.capacity ≤ 2 ^ 40 ∧ id.serial.length ≤ 20 := by
  simp [DestIdentity.holdable, and_assoc]

/-- An identity that can be held makes the port IDENTIFIED (R99). -/
theorem identifyAnswered_held (hflight : identifyInFlight (s.dest d) = true) {id : DestIdentity} (hheld : DestIdentity.holdable id = true) :
    identifyAnswered d (some id) s = notify (.destState d .identified .identifyOk) (setDest s d
      { s.dest d with request := none, identity := some id, state := .identified }) := by
  have hsome : (some id).filter DestIdentity.holdable = some id := by rw [Option.filter_some, if_pos hheld]
  simp [identifyAnswered, hflight, hsome, clearBridge, destState, setDest_setDest]

/-- An ERROR, or an identity that cannot be held, makes the port FAILED (R99). -/
theorem identifyAnswered_refused (hflight : identifyInFlight (s.dest d) = true) {answer : Option DestIdentity}
    (hrefused : ∀ id ∈ answer, DestIdentity.holdable id = false) :
    identifyAnswered d answer s =
      notify (.destState d .failed .identifyFailed) (setDest s d { s.dest d with request := none, state := .failed }) := by
  have hnone : answer.filter DestIdentity.holdable = none := Option.filter_eq_none_iff.mpr fun id hid => by simp [hrefused id hid]
  simp [identifyAnswered, hflight, hnone, clearBridge, destState, setDest_setDest]

theorem identifyTimedOut_eq (hflight : identifyInFlight (s.dest d) = true) :
    identifyTimedOut d s = notify (.destState d .failed .identifyFailed) (setDest s d
      { s.dest d with request := none, state := .failed, timeout := true }) := by
  simp [identifyTimedOut, hflight, noteError, DestPort.markError, destState, setDest_setDest]

end

/-- Settles O41: `startIdentify_eq` for a link that comes up, `linkGoesDown` away from ONLINE, and the three ends of an IDENTIFY in flight. -/
theorem destinationLinkAndIdentity : Obligations.DestinationLinkAndIdentity := by
  intro d s hlow
  have hup : exec (.destLinkUp d) s = .next (linkComesUp d s) := by rw [exec, execDestLinkUp, hlow]; rfl
  have hdown : exec (.destLinkDown d) s = .next (linkGoesDown d s) := by rw [exec, execDestLinkDown, hlow]; rfl
  rw [hup, hdown]
  refine ⟨fun hlink => ⟨?_, ?_⟩, fun hlink => ⟨?_, fun hstate => ?_⟩, fun ms again hstate _ hrequest => ?_⟩
  · rw [linkGoesDown, if_neg (by simp [hlink])]
  · rw [linkComesUp, if_neg (by simp [hlink]), startIdentify_eq, setDest_dest_self, setDest_setDest, DestPort.asks]
    cases (s.dest d).request <;> rfl
  · rw [linkComesUp, if_pos hlink]
  · rw [linkGoesDown, if_pos hlink]
    simp [hstate, destState, setDest_setDest]
  · have hflight := identifyInFlight_of hstate hrequest
    have hanswer (answer : Option DestIdentity) : exec (.destIdentifyAnswer d answer) s = .next (identifyAnswered d answer s) := by
      rw [exec, execDestIdentifyAnswer, awake_of_high hlow]
    refine ⟨fun id hlowest hhighest hserial => ?_, fun answer hrefused => ?_, ?_⟩
    · rw [hanswer, identifyAnswered_held hflight ((holdable_iff id).mpr ⟨hlowest, hhighest, hserial⟩)]
    · rw [hanswer, identifyAnswered_refused hflight fun id hid => ?_]
      refine Bool.eq_false_iff.mpr fun hheld => ?_
      obtain ⟨_, _, _⟩ := (holdable_iff id).mp hheld
      rcases hrefused id hid with h | h | h <;> omega
    · rw [exec, execDestRequestTimeout, awake_of_high hlow, bridgeTimedOut, hrequest]
      exact congrArg Host.Outcome.next (identifyTimedOut_eq hflight)

/-! ### DEST_ATTACH and DEST_DETACH (R100 to R102) -/

section
variable {s : State} {d : Dest} {f : Frame} {rest : List Frame} {b force : Byte}

theorem destOf_eq_none {n : Nat} (h : 4 ≤ n) : destOf n = none := by simp [destOf]; omega

/-- DEST_ATTACH is answered as its owner says. -/
theorem exec_destAttach {r : Reply} {u : State} (ho : s.Offers f rest) (hk : f.kind = 0x20) (hp : f.payload = [b])
    (hown : destAttach b.toNat (s.taken f rest) = (r, u)) :
    exec .destAttach s = .next (sendFrame ⟨0xA0, f.tag, BitVec.ofNat 8 r.status.code :: r.fields⟩ u) :=
  congrArg Host.Outcome.next (serve_answer ho hk (by rw [hp]; rfl) hown)

/-- DEST_DETACH is answered as its owner says. -/
theorem exec_destDetach {r : Reply} {u : State} (ho : s.Offers f rest) (hk : f.kind = 0x21) (hp : f.payload = [b, force])
    (hown : destDetach (b.toNat, force.toNat) (s.taken f rest) = (r, u)) :
    exec .destDetach s = .next (sendFrame ⟨0xA1, f.tag, BitVec.ofNat 8 r.status.code :: r.fields⟩ u) :=
  congrArg Host.Outcome.next (serve_answer ho hk (by rw [hp]; rfl) hown)

/-- DEST_ATTACH attaches an IDENTIFIED port (R100). -/
theorem destAttach_identified (hstate : (s.dest d).state = .identified) : destAttach d.val s = (statusOnly .ok, attach d s) := by
  simp only [destAttach, destOf_val, hstate]

/-- DEST_ATTACH has the drive of a FAILED port identified again (R100). -/
theorem destAttach_failed (hstate : (s.dest d).state = .failed) : destAttach d.val s = (statusOnly .ok, startIdentify d .reidentify s) := by
  simp only [destAttach, destOf_val, hstate]

/-- DEST_ATTACH is refused in every other state (R100). -/
theorem destAttach_refused (hstate : (s.dest d).state = .absent ∨ (s.dest d).state = .identifying ∨ (s.dest d).state = .online) :
    destAttach d.val s = (statusOnly .badState, s) := by
  rcases hstate with hstate | hstate | hstate <;> simp only [destAttach, destOf_val, hstate]

/-- DEST_DETACH's checks in order (R102). -/
theorem destDetach_dest (d : Dest) (n : Nat) (s : State) : destDetach (d.val, n) s =
    if 1 < n then (statusOnly .outOfRange, s)
    else if (s.dest d).state ≠ .online then (statusOnly .badState, s)
    else if n = 1 then (statusOnly .ok, loseDest d .identified .forcedDetach s)
    else if destInUse s d then (statusOnly .busy, s)
    else (statusOnly .ok, refresh (destState d .identified .detached s)) := by
  rw [destDetach, destOf_val]

theorem backlog_idle {x : DestPort} (hqueue : x.writeQueue = []) (hop : x.op = none) : backlog x = 0 := by simp [backlog, hqueue, hop]

/-- An attached port's backlog is 0, which no threshold lies below (R101, R154). -/
theorem attach_eq (hop : (s.dest d).op = none) : attach d s =
    refresh (notify (.destState d .online .attached)
      (setMonitor
        (setDest s d
          { s.dest d with state := .online, blocksWritten := 0, writeCount := 0, writeQueue := [], awaiting := [], segWaiting := [] })
        d { s.monitor d with above := false })) := by
  have hcommute (t : State) (x : DestPort) (m : Monitor) : setDest (setMonitor t d m) d x = setMonitor (setDest t d x) d m := rfl
  simp [attach, backlog_idle, hop, destState, hcommute, setDest_setDest]

theorem destInUse_iff (d : Dest) : destInUse s d = true ↔ ∃ e ∈ s.jobs, e.2.destSet.getLsbD d.val = true := by
  simp [destInUse, dmem]

end

/-- Settles O42: DEST_ATTACH by the port's state, DEST_DETACH check by check (`destDetach_dest`). -/
theorem attachAndDetach : Obligations.AttachAndDetach := by
  intro s f rest b ho
  refine ⟨fun hk hp hb => ?_, fun force hk hp hb => ?_, fun d hd => ⟨fun hk hp => ?_, fun force hk hp => ?_⟩⟩
  · exact exec_destAttach (r := statusOnly .badHandle) ho hk hp (by rw [destAttach, destOf_eq_none hb])
  · exact exec_destDetach (r := statusOnly .badHandle) ho hk hp (by rw [destDetach, destOf_eq_none hb])
  · have hdest : (s.taken f rest).dest d = s.dest d := rfl
    refine ⟨fun hstate => ?_, fun hstate => ?_, fun hstate hop => ?_⟩
    · exact exec_destAttach ho hk hp (hd ▸ destAttach_refused (s := s.taken f rest) hstate)
    · rw [exec_destAttach ho hk hp (hd ▸ destAttach_failed (s := s.taken f rest) hstate), startIdentify_eq, DestPort.asks, hdest]
      cases (s.dest d).request <;> rfl
    · rw [exec_destAttach ho hk hp (hd ▸ destAttach_identified (s := s.taken f rest) hstate), attach_eq (s := s.taken f rest) hop]
      rfl
  · have hown := destDetach_dest d force.toNat (s.taken f rest)
    have hdest : (s.taken f rest).dest d = s.dest d := rfl
    have hused : destInUse (s.taken f rest) d = true ↔ ∃ e ∈ s.jobs, e.2.destSet.getLsbD d.val = true := destInUse_iff d
    rw [hd, hdest] at hown
    refine ⟨fun hforce => ?_, fun hforce hstate => ?_, fun hstate => ⟨fun hforce huse => ?_, fun hforce hnone => ?_, fun hforce => ?_⟩⟩
    · rw [if_pos hforce] at hown
      exact exec_destDetach ho hk hp hown
    · rw [if_neg (by omega), if_pos hstate] at hown
      exact exec_destDetach ho hk hp hown
    · rw [if_neg (by omega), if_neg (not_not_intro hstate), if_neg (by omega), if_pos (hused.mpr huse)] at hown
      exact exec_destDetach ho hk hp hown
    · have hfree : ¬ destInUse (s.taken f rest) d = true := fun huse => by
        obtain ⟨e, he, hmem⟩ := hused.mp huse
        exact nomatch (hnone e he).symm.trans hmem
      rw [if_neg (by omega), if_neg (not_not_intro hstate), if_neg (by omega), if_neg hfree] at hown
      exact exec_destDetach ho hk hp hown
    · rw [if_neg (by omega), if_neg (not_not_intro hstate), if_pos hforce] at hown
      exact exec_destDetach ho hk hp hown

/-! ### The operation arbiter (R106, R111, R116) -/

section
variable {s : State} {d : Dest}

theorem exec_destArbiterDecide (hlow : s.resetLow = false) : exec (.destArbiterDecide d) s = .next (decideOp d s) := by
  rw [exec, execDestArbiterDecide, awake_of_high hlow]

/-- A flush is due when copies wait for it and no write does, or flush_batch of them wait (R111). -/
theorem flushDue_iff (s : State) (x : DestPort) :
    flushDue s x = true ↔ x.awaiting ≠ [] ∧ (x.writeQueue = [] ∨ s.cfg.flushBatch ≤ x.awaiting.length) := by
  simp [flushDue]

theorem decideOp_flush (hstate : (s.dest d).state = .online) (hop : (s.dest d).op = none) (hdue : flushDue s (s.dest d) = true) :
    decideOp d s = setDest s d
      ({ s.dest d with op := some (.flush (s.dest d).awaiting), awaiting := [] }.asks .flush s.cfg.destTimeoutMs) := by
  rw [decideOp, if_pos ⟨hstate, hop⟩, if_pos hdue, startFlush]
  exact bridgeKick_operation hstate rfl rfl

theorem decideOp_choose (hstate : (s.dest d).state = .online) (hop : (s.dest d).op = none) (hdue : flushDue s (s.dest d) = false) :
    decideOp d s = chooseOp d s := by
  rw [decideOp, if_pos ⟨hstate, hop⟩, if_neg (by simp [hdue])]

/-- A port that is not ONLINE or not idle, or has nothing waiting, starts nothing. -/
theorem decideOp_nothing (h : (s.dest d).state ≠ .online ∨ (s.dest d).op ≠ none ∨
    ((s.dest d).writeQueue = [] ∧ (s.dest d).awaiting = [] ∧ (s.dest d).segWaiting = [])) : decideOp d s = s := by
  rcases h with hstate | hop | ⟨hwrites, hawaiting, hsegments⟩
  · exact if_neg fun h => hstate h.1
  · exact if_neg fun h => hop h.2
  · have hdue : flushDue s (s.dest d) = false := by simp [flushDue, hawaiting]
    have hchoose : chooseOp d s = s := by rw [chooseOp, hwrites, hsegments]
    rw [decideOp, hdue, if_neg Bool.false_ne_true, hchoose, ite_self]

/-- A write goes first while no segment waits or fewer than verify_share writes in a row have started (R116). -/
theorem chooseOp_write {n : Nat} {rest : List Nat} (hqueue : (s.dest d).writeQueue = n :: rest)
    (hturn : (s.dest d).segWaiting = [] ∨ (s.dest d).writeCount < s.cfg.verifyShare) : chooseOp d s = startWrite d n rest s := by
  rw [chooseOp, hqueue]
  cases hwaiting : (s.dest d).segWaiting with
  | nil => rfl
  | cons e es => exact if_neg (by simpa [hwaiting] using hturn)

/-- A segment goes first where no write waits or verify_share writes in a row have started (R116). -/
theorem chooseOp_segment {e : EngineIx} {rest : List EngineIx} (hwaiting : (s.dest d).segWaiting = e :: rest)
    (hturn : (s.dest d).writeQueue = [] ∨ s.cfg.verifyShare ≤ (s.dest d).writeCount) : chooseOp d s = startDestSegment d e rest s := by
  rw [chooseOp, hwaiting]
  cases hqueue : (s.dest d).writeQueue with
  | nil => rfl
  | cons n ns => exact if_pos (by simpa [hqueue] using hturn)

/-- The write of a slot starts with the WRITE of its first blocks (R106). -/
theorem startWrite_eq {n : Nat} {rest : List Nat} {x : Slot} {k : Clip} (hstate : (s.dest d).state = .online) (hfree : (s.dest d).request = none)
    (hx : s.slot n = some x) (hk : s.clip x.clip = some k) :
    startWrite d n rest s = setDest (setSlot s n { x with writing := dinsert x.writing d }) d
      { s.dest d with
        op := some (.write n 0 false), writeQueue := rest, writeCount := min 16 ((s.dest d).writeCount + 1)
        request := some
          ⟨.write (requestRun (k.target d) x.first x.count).1 (requestRun (k.target d) x.first x.count).2, false, s.cfg.destTimeoutMs,
            false⟩ } := by
  have hslot (y : DestPort) : modSlot n (fun x => { x with writing := dinsert x.writing d }) (setDest s d y) =
      setDest (setSlot s n { x with writing := dinsert x.writing d }) d y := by
    have hx' : (setDest s d y).slot n = some x := hx
    rw [modSlot, hx']
    rfl
  have hask : bridgeAsk (setSlot s n { x with writing := dinsert x.writing d }) d (.write n 0 false) =
      some (.write (requestRun (k.target d) x.first x.count).1 (requestRun (k.target d) x.first x.count).2) := by
    have hk' : (setSlot s n { x with writing := dinsert x.writing d }).clip x.clip = some k := hk
    simp [bridgeAsk, writeRun, hk']
  rw [startWrite, hslot]
  exact (bridgeKick_operation (by exact hstate) rfl hask).trans (congrArg (setDest _ d) (asks_free (by exact hfree) _ _))

/-- A verify segment starts with the READ of its first blocks (R114, R126). -/
theorem startDestSegment_eq {e : EngineIx} {rest : List EngineIx} {u : Task} {h : Nat} {k : Clip} (hstate : (s.dest d).state = .online)
    (hfree : (s.dest d).request = none) (htask : (s.engine e).task = some (u, h)) (hk : s.clip u.clip = some k) :
    startDestSegment d e rest s = setDest (setEngine s e { s.engine e with seg := .inFlight }) d
      { s.dest d with
        op := some (.segment ⟨e, (s.engine e).next, chunkLength k.blocks (s.engine e).next, 0, false⟩), segWaiting := rest, writeCount := 0
        request := some
          ⟨.read (requestRun (k.target d) (s.engine e).next (chunkLength k.blocks (s.engine e).next)).1
            (requestRun (k.target d) (s.engine e).next (chunkLength k.blocks (s.engine e).next)).2, false, s.cfg.destTimeoutMs, false⟩ } := by
  have hclip : engineClip s e = some k := (engineClip_of_task htask).trans hk
  have hask : bridgeAsk (setEngine s e { s.engine e with seg := .inFlight }) d
      (.segment ⟨e, (s.engine e).next, chunkLength k.blocks (s.engine e).next, 0, false⟩) =
        some (.read (requestRun (k.target d) (s.engine e).next (chunkLength k.blocks (s.engine e).next)).1
          (requestRun (k.target d) (s.engine e).next (chunkLength k.blocks (s.engine e).next)).2) := by
    have hclip' : engineClip (setEngine s e { s.engine e with seg := .inFlight }) e = some k :=
      (engineClip_of_task (by rw [setEngine_engine_self]; exact htask)).trans hk
    simp [bridgeAsk, hclip']
  rw [startDestSegment, hclip]
  exact (bridgeKick_operation (by exact hstate) rfl hask).trans (congrArg (setDest _ d) (asks_free (by exact hfree) _ _))

end

/-- Settles O45: nothing starts by `decideOp_nothing`, a flush by `decideOp_flush`, and else what `chooseOp` chooses. -/
theorem arbiterDecidesByItsTable : Obligations.ArbiterDecidesByItsTable := by
  intro d s hlow
  rw [exec_destArbiterDecide hlow]
  refine ⟨fun hnothing => ?_, fun hstate hop hawaiting hturn => ?_, fun hstate hop hfree hnotdue => ?_⟩
  · rw [decideOp_nothing hnothing]
  · rw [decideOp_flush hstate hop ((flushDue_iff s _).mpr ⟨hawaiting, hturn⟩), DestPort.asks]
    cases (s.dest d).request <;> rfl
  · have hdue : flushDue s (s.dest d) = false := by
      refine Bool.eq_false_iff.mpr fun hdue => ?_
      obtain ⟨hawaiting, hturn⟩ := (flushDue_iff s _).mp hdue
      rcases hnotdue with hnone | ⟨hqueue, hfew⟩
      · exact hawaiting hnone
      · exact hturn.elim hqueue (Nat.not_le.mpr hfew)
    rw [decideOp_choose hstate hop hdue]
    refine ⟨fun n rest x k hqueue hx hk hturn => ?_, fun e rest task h k hwaiting htask hk hturn => ⟨_, rfl, ?_⟩⟩
    · rw [chooseOp_write hqueue hturn, startWrite_eq hstate hfree hx hk]
      rfl
    · rw [chooseOp_segment hwaiting hturn, startDestSegment_eq hstate hfree htask hk]
      rfl

end Sys2Proof.Machine
end

section
/-! SUPPORT. The loss procedure (R117, R118, R119): the slots, the copies and the tasks that it takes a drive from, and what the tests at its end
leave. -/

namespace Sys2Proof.Machine

-- One theorem at a time: checking them all at once needs more threads than the sandbox gives.
set_option Elab.async false

open Sys2Proof

section
variable {s t u : State} {d : Dest}

/-! ### What the tests at an event's end spare (R38, R46, R145) -/

/-- The tests leave the monitors and every job's holds; an open job stays open and keeps its clips, of which only source-verify states move. -/
structure Spares (s t : State) : Prop where
  monitors : t.monitors = s.monitors
  clips : ClipsSvMoved s.clips t.clips
  holds : ∀ h j', t.job h = some j' → ∃ j, s.job h = some j ∧ j'.softHold = j.softHold ∧ j'.hardHold = j.hardHold
  opened : ∀ h j, s.job h = some j → j.state ≠ .closing → ∃ j', t.job h = some j' ∧ j'.state ≠ .closing
  survives : (s.clips.map Prod.fst).Pairwise (· < ·) → ∀ c k j, s.clip c = some k → s.job k.job = some j → j.state ≠ .closing →
    ∃ k', t.clip c = some k'

theorem Spares.refl (s : State) : Spares s s :=
  ⟨rfl, .refl _, fun _ j hj => ⟨j, hj, rfl, rfl⟩, fun _ j hj hst => ⟨j, hj, hst⟩, fun _ _ k _ hk _ _ => ⟨k, hk⟩⟩

theorem Spares.trans (h : Spares s t) (i : Spares t u) : Spares s u := by
  refine ⟨i.monitors.trans h.monitors, h.clips.trans i.clips, fun n j'' hj'' => ?_, fun n j hj hst => ?_, fun hkeys c k j hk hj hst => ?_⟩
  · obtain ⟨j', hj', hsoft', hhard'⟩ := i.holds n j'' hj''
    obtain ⟨j, hj, hsoft, hhard⟩ := h.holds n j' hj'
    exact ⟨j, hj, hsoft'.trans hsoft, hhard'.trans hhard⟩
  · obtain ⟨j', hj', hst'⟩ := h.opened n j hj hst
    exact i.opened n j' hj' hst'
  · obtain ⟨k', hk'⟩ := h.survives hkeys c k j hk hj hst
    obtain ⟨hkeys', hread⟩ := h.clips hkeys
    obtain ⟨k0, hk0, hmoved⟩ := hread c k' hk'
    obtain rfl := Option.some.inj (hk.symm.trans hk0)
    obtain ⟨j', hj', hst'⟩ := h.opened k.job j hj hst
    have howner : k'.job = k.job := by rw [hmoved]
    exact i.survives hkeys' c k' j' hk' (howner ▸ hj') hst'

theorem Spares.foldl {α : Type} {g : State → α → State} (step : ∀ s a, Spares s (g s a)) (l : List α) (s : State) :
    Spares s (l.foldl g s) := by
  induction l generalizing s with
  | nil => exact .refl s
  | cons a l ih => exact (step s a).trans (ih _)

/-- Where the job and clip records and the monitors stand, everything is spared. -/
theorem Spares.of_same (hjobs : t.jobs = s.jobs) (hclips : t.clips = s.clips) (hmonitors : t.monitors = s.monitors) : Spares s t := by
  have hjob (h : Nat) : t.job h = s.job h := congrArg (lookup · h) hjobs
  have hclip (c : Nat) : t.clip c = s.clip c := congrArg (lookup · c) hclips
  refine ⟨hmonitors, hclips ▸ .refl _, fun h j hj => ⟨j, (hjob h).symm.trans hj, rfl, rfl⟩, fun h j hj hst => ⟨j, (hjob h).trans hj, hst⟩,
    fun _ c k _ hk _ _ => ⟨k, (hclip c).trans hk⟩⟩

theorem Spares.notify (n : Notice) (s : State) : Spares s (notify n s) :=
  .of_same (notify_jobs s n) (notify_clips s n) (notify_monitors s n)

theorem Spares.setJob {h : Nat} {j j' : Job} (hj : s.job h = some j) (hsoft : j'.softHold = j.softHold) (hhard : j'.hardHold = j.hardHold)
    (hst : j.state ≠ .closing → j'.state ≠ .closing) : Spares s (setJob s h j') := by
  refine ⟨rfl, .refl _, fun i x hx => ?_, fun i x hx hopen => ?_, fun _ c k _ hk _ _ => ⟨k, hk⟩⟩
  · by_cases hi : i = h
    · subst hi
      obtain rfl := Option.some.inj ((setJob_job_self s i j').symm.trans hx)
      exact ⟨j, hj, hsoft, hhard⟩
    · exact ⟨x, (setJob_job_of_ne s hi j').symm.trans hx, rfl, rfl⟩
  · by_cases hi : i = h
    · subst hi
      obtain rfl := Option.some.inj (hj.symm.trans hx)
      exact ⟨j', setJob_job_self s i j', hst hopen⟩
    · exact ⟨x, (setJob_job_of_ne s hi j').trans hx, hopen⟩

theorem issueTask_spares (s : State) (c : Nat) : Spares s (issueTask s c) := by
  refine ⟨?_, issueTask_svMoved s c, fun h j hj => ⟨j, (issueTask_job s c h).symm.trans hj, rfl, rfl⟩,
    fun h j hj hst => ⟨j, (issueTask_job s c h).trans hj, hst⟩, fun _ i k j hk hj hst => ?_⟩
  · unfold issueTask
    split
    · split <;> rfl
    · rfl
  · rcases (issueTask_closes k.job s c).clip i with hsame | ⟨k', _, _, hqueued⟩
    · exact ⟨k, hsame.trans hk⟩
    · exact ⟨_, hqueued⟩

theorem drainJob_spares (s : State) (h : Nat) : Spares s (drainJob s h) := by
  unfold drainJob
  split
  next j hj =>
    split
    · have hdrained : Spares s (Machine.notify (.jobDrained h) (Machine.setJob s h { j with state := .drained, tasksIssued := true })) :=
        .trans (.setJob (j' := { j with state := .drained, tasksIssued := true }) hj rfl rfl fun _ => by simp) (.notify _ _)
      dsimp only
      split
      · exact hdrained.trans (.foldl issueTask_spares _ _)
      · exact hdrained
    · exact .refl s
  · exact .refl s

theorem evalJob_spares (s : State) (h : Nat) : Spares s (evalJob s h) := by
  unfold evalJob
  split
  next j hj =>
    split
    · exact .refl s
    · have hset : Spares s (Machine.setJob s h { j with attention := attentionMet s j, clearable := clearableMet s j }) :=
        .setJob hj rfl rfl id
      dsimp only
      split
      · exact hset
      · split <;> exact hset.trans (.notify _ _)
  · exact .refl s

theorem freeJob_spares (s : State) (h : Nat) : Spares s (freeJob s h) := by
  unfold freeJob
  split
  next j hj =>
    split
    next hfree =>
      obtain ⟨hclosing, _⟩ := hfree
      have hother {i : Nat} {x : Job} (hx : s.job i = some x) (hst : x.state ≠ .closing) : i ≠ h := fun hi => by
        subst hi
        obtain rfl := Option.some.inj (hj.symm.trans hx)
        exact hst hclosing
      refine Spares.trans ?_ (.notify _ _)
      refine ⟨rfl, fun hkeys => ⟨hkeys.sublist (List.filter_sublist.map _), fun _ k hk => ⟨k, lookup_of_filter hkeys hk, rfl⟩⟩,
        fun i x hx => ?_, fun i x hx hst => ?_, fun hkeys c k x hk hx hst => ?_⟩
      · by_cases hi : i = h
        · subst hi
          exact nomatch (lookup_erase_self s.jobs i).symm.trans hx
        · exact ⟨x, (lookup_erase_of_ne s.jobs hi).symm.trans hx, rfl, rfl⟩
      · exact ⟨x, (lookup_erase_of_ne s.jobs (hother hx hst)).trans hx, hst⟩
      · exact ⟨k, lookup_filter_of_keep hkeys hk (decide_eq_true (hother hx hst))⟩
    · exact .refl s
  · exact .refl s

/-- The tests at an event's end. -/
theorem closeJobs_spares (hs : List Nat) (s : State) : Spares s (closeJobs hs s) :=
  ((Spares.foldl drainJob_spares hs s).trans (.foldl evalJob_spares hs _)).trans (.foldl freeJob_spares hs _)

/-! ### The slots that wait for a destination (R63, R117) -/

/-- A slot that is FILLING, or that some destination has still to write. -/
def Slot.wanted (x : Slot) : Bool := !decide (x.staged = true ∧ x.pending = 0 ∧ x.writing = 0)

theorem freeIfDones_slot (l : List Nat) (s : State) (i : Nat) :
    (l.foldl (fun t n => freeIfDone n t) s).slot i = if i ∈ l then (s.slot i).filter Slot.wanted else s.slot i := by
  induction l generalizing s with
  | nil => rfl
  | cons n l ih =>
    have hfirst : (freeIfDone n s).slot i = if i = n then (s.slot n).filter Slot.wanted else s.slot i := freeIfDone_slot n i
    rw [List.foldl_cons, ih, hfirst]
    by_cases hi : i = n
    · subst hi
      simp [Option.filter_filter]
    · simp [hi]

/-- What the loss of a destination leaves of a slot (R117). -/
theorem dropFromSlots_slot (d : Dest) (s : State) (n : Nat) :
    (dropFromSlots d s).slot n = ((s.slot n).map (fun x => x.without d)).filter Slot.wanted := by
  have hmap : ({ s with slots := s.slots.map (fun e => (e.1, e.2.without d)) } : State).slot n = (s.slot n).map (fun x => x.without d) :=
    lookup_map (fun _ (x : Slot) => x.without d) s.slots n
  rw [dropFromSlots, freeIfDones_slot, hmap]
  split
  · rfl
  next hfree =>
    have hnone : s.slot n = none := lookup_eq_none hfree
    rw [hnone]
    rfl

theorem dropFromSlots_frame (d : Dest) (s : State) : ∃ slots free, dropFromSlots d s = { s with slots := slots, freeSlots := free } := by
  have hfold (l : List Nat) (u : State) : ∃ slots free, l.foldl (fun t n => freeIfDone n t) u = { u with slots := slots, freeSlots := free } := by
    induction l generalizing u with
    | nil => exact ⟨u.slots, u.freeSlots, rfl⟩
    | cons n l ih =>
      obtain ⟨_, _, hfirst⟩ := freeIfDone_frame u n
      obtain ⟨slots, free, hrest⟩ := ih (freeIfDone n u)
      exact ⟨slots, free, by rw [List.foldl_cons, hrest, hfirst]⟩
  obtain ⟨slots, free, h⟩ := hfold (s.slots.map Prod.fst) { s with slots := s.slots.map (fun e => (e.1, e.2.without d)) }
  exact ⟨slots, free, h⟩

/-! ### The copies on a lost drive (R118) -/

/-- The drives that a job recorded: its destinations and their identities (R41). -/
def Job.drives (j : Job) : DestSet × Vector (Option DestIdentity) 4 := (j.destSet, j.destIds)

/-- The job of clip `k` recorded the lost drive for destination `d`. -/
def recordedLost (d : Dest) (lost : Option DestIdentity) (s : State) (k : Clip) : Bool :=
  ((s.job k.job).map Job.drives).any (fun x => decide (dmem x.1 d = true ∧ x.2[d.val] = lost ∧ lost ≠ none))

/-- A clip whose copy on `d` was on a drive that is lost (R118). -/
def Clip.lost (d : Dest) (k : Clip) : Clip :=
  match lossOf (k.copy d).state with
  | some .failed => k.failed d .failed .destLost
  | some st => k.setCopy d { k.copy d with state := st }
  | none => k

/-- A clip after the loss of a drive of destination `d`. -/
def Clip.afterLoss (d : Dest) (lost : Option DestIdentity) (s : State) (k : Clip) : Clip := if recordedLost d lost s k then k.lost d else k

theorem modJob_drives {f : Job → Job} (hf : ∀ j, (f j).drives = j.drives) (h i : Nat) (s : State) :
    ((modJob h f s).job i).map Job.drives = (s.job i).map Job.drives := by
  rw [modJob_job]
  split
  next hi =>
    subst hi
    rw [Option.map_map]
    exact congrArg (Option.map · _) (funext hf)
  · rfl

theorem leaveRecopyList_drives (c i : Nat) (s : State) : ((leaveRecopyList c s).job i).map Job.drives = (s.job i).map Job.drives := by
  unfold leaveRecopyList
  split
  · split
    · exact modJob_drives (f := fun j => { j with recopy := j.recopy.filter (fun x => decide (x ≠ c)) }) (fun _ => rfl) _ _ _
    · rfl
  · rfl

theorem leaveRecopy_drives (c : Nat) (d : Dest) (i : Nat) (s : State) :
    ((leaveRecopy c d s).job i).map Job.drives = (s.job i).map Job.drives := by
  unfold leaveRecopy
  split
  · split
    · dsimp only
      split <;> exact leaveRecopyList_drives _ _ _
    · rfl
  · rfl

/-- The copies of the listed clips on the lost drive of `d` have been withdrawn; jobs keep the drives they recorded, and no notice is lost. -/
structure Loses (d : Dest) (lost : Option DestIdentity) (l : List Nat) (s t : State) : Prop where
  rest : ∃ clips readers jobs sending waiting notices missed, t = { s with
    clips := clips, readers := readers, jobs := jobs, sending := sending, waitingReply := waiting, notices := notices, missed := missed }
  drives : ∀ h, (t.job h).map Job.drives = (s.job h).map Job.drives
  clip : ∀ i, t.clip i = if i ∈ l then (s.clip i).map (Clip.afterLoss d lost s) else s.clip i
  told : ∀ n, s.Told n → t.Told n

variable {lost : Option DestIdentity} {l : List Nat}

theorem Loses.afterLoss (h : Loses d lost l s t) (k : Clip) : k.afterLoss d lost t = k.afterLoss d lost s := by
  rw [Clip.afterLoss, recordedLost, h.drives]
  rfl

/-- A clip that the loss leaves as it is. -/
theorem Loses.of_same {c : Nat} (hsame : ∀ k ∈ s.clip c, k.afterLoss d lost s = k) : Loses d lost [c] s s := by
  refine ⟨⟨s.clips, s.readers, s.jobs, s.sending, s.waitingReply, s.notices, s.missed, rfl⟩, fun _ => rfl, fun i => ?_, fun _ => id⟩
  split
  next hi =>
    obtain rfl := List.mem_singleton.mp hi
    cases hk : s.clip i with
    | none => rfl
    | some k => rw [Option.map_some, hsame k hk]
  · rfl

/-- An unproven copy on the lost drive fails (R118, R82). -/
theorem failCopy_loses {c : Nat} (hlost : ∀ k ∈ s.clip c, k.afterLoss d lost s = k.failed d .failed .destLost) :
    Loses d lost [c] s (failCopy c d .failed .destLost s) := by
  obtain ⟨hrest, hclip, _, _, htold, _⟩ := failCopy_fails c d .destLost s
  obtain ⟨_, hset⟩ := modClip_frame s c (fun k => k.setCopy d { k.copy d with state := .failed, cause := .destLost })
  obtain ⟨_, _, _, _, htell⟩ := tellCopy_frame (s := leaveRecopy c d (setCopyState c d .failed .destLost s)) c (.copy d .failed) .destLost
  refine ⟨hrest, fun i => ?_, fun i => ?_, htold⟩
  · rw [failCopy, htell]
    refine (leaveRecopy_drives c d i _).trans ?_
    rw [setCopyState, hset]
    rfl
  · rw [hclip i]
    by_cases hi : i = c
    · subst hi
      rw [if_pos rfl, if_pos (List.mem_singleton_self _)]
      cases hk : s.clip i with
      | none => rfl
      | some k => rw [Option.map_some, Option.map_some, hlost k hk]; rfl
    · rw [if_neg hi, if_neg (mt List.mem_singleton.mp hi)]

/-- A verified copy on the lost drive becomes SUSPECT (R118). -/
theorem suspectCopy_loses {c : Nat} {k : Clip} {st : CopyState} (hk : s.clip c = some k)
    (hlost : k.afterLoss d lost s = k.setCopy d { k.copy d with state := st }) :
    Loses d lost [c] s (tellCopy c (.copy d st) (k.copy d).cause (setCopyState c d st (k.copy d).cause s)) := by
  obtain ⟨clips, hset⟩ := modClip_frame s c (fun x => x.setCopy d { x.copy d with state := st, cause := (k.copy d).cause })
  obtain ⟨sending, waiting, notices, missed, htell⟩ :=
    tellCopy_frame (s := setCopyState c d st (k.copy d).cause s) c (.copy d st) (k.copy d).cause
  refine ⟨⟨clips, s.readers, s.jobs, sending, waiting, notices, missed, ?_⟩, fun i => ?_, fun i => ?_, fun n hn => ?_⟩
  · rw [htell, setCopyState, hset]
  · rw [htell, setCopyState, hset]
    rfl
  · rw [tellCopy_clip, setCopyState, modClip_clip]
    by_cases hi : i = c
    · subst hi
      rw [if_pos rfl, if_pos (List.mem_singleton_self _), hk, Option.map_some, Option.map_some, hlost]
    · rw [if_neg hi, if_neg (mt List.mem_singleton.mp hi)]
  · refine tellCopy_keeps_told c _ _ ?_
    rw [setCopyState, hset]
    exact hn

theorem loseCopy_loses (c : Nat) (s : State) : Loses d lost [c] s (loseCopy d lost s c) := by
  unfold loseCopy
  cases hk : s.clip c with
  | none => exact .of_same (by simp [hk])
  | some k =>
    have hmem {x : Clip} (hx : x ∈ s.clip c) : x = k := Option.some.inj (hx.symm.trans hk)
    dsimp only
    cases hj : s.job k.job with
    | none =>
      refine .of_same fun x hx => ?_
      rw [hmem hx, Clip.afterLoss, recordedLost, hj]
      rfl
    | some j =>
      have hrecorded : recordedLost d lost s k = decide (dmem j.destSet d = true ∧ j.destId d = lost ∧ lost ≠ none) := by
        rw [recordedLost, hj]
        rfl
      dsimp only
      split
      next hdrive =>
        have hafter : k.afterLoss d lost s = k.lost d := if_pos (hrecorded.trans (decide_eq_true hdrive))
        split
        next hloss => exact failCopy_loses fun x hx => by rw [hmem hx, hafter, Clip.lost, hloss]
        next st hst hloss =>
          refine suspectCopy_loses hk (hafter.trans ?_)
          rw [Clip.lost, hloss]
          cases st with
          | failed => exact absurd rfl hst
          | _ => rfl
        next hloss => exact .of_same fun x hx => by rw [hmem hx, hafter, Clip.lost, hloss]
      next hdrive =>
        exact .of_same fun x hx => by rw [hmem hx, Clip.afterLoss, hrecorded, decide_eq_false hdrive]; rfl

/-- The copies of clips that the list names once each. -/
theorem loseCopies_loses (hl : l.Nodup) (s : State) : Loses d lost l s (l.foldl (loseCopy d lost) s) := by
  induction l generalizing s with
  | nil => exact ⟨⟨s.clips, s.readers, s.jobs, s.sending, s.waitingReply, s.notices, s.missed, rfl⟩, fun _ => rfl, fun _ => rfl, fun _ => id⟩
  | cons c l ih =>
    obtain ⟨hc, hl⟩ := List.nodup_cons.mp hl
    have hfirst := loseCopy_loses (d := d) (lost := lost) c s
    have hlater := ih hl (loseCopy d lost s c)
    obtain ⟨_, _, _, _, _, _, _, hframe⟩ := hfirst.rest
    obtain ⟨clips, readers, jobs, sending, waiting, notices, missed, hframe'⟩ := hlater.rest
    rw [List.foldl_cons]
    refine ⟨⟨clips, readers, jobs, sending, waiting, notices, missed, by rw [hframe', hframe]⟩,
      fun h => (hlater.drives h).trans (hfirst.drives h),
      fun i => ?_, fun n => hlater.told n ∘ hfirst.told n⟩
    rw [hlater.clip, hfirst.clip]
    by_cases hi : i = c
    · subst hi
      rw [if_neg hc, if_pos (List.mem_singleton_self _), if_pos List.mem_cons_self]
    · rw [if_neg (mt List.mem_singleton.mp hi)]
      simp only [List.mem_cons, hi, false_or]
      exact congrArg (fun f => if i ∈ l then (s.clip i).map f else s.clip i) (funext hfirst.afterLoss)

end

end Sys2Proof.Machine
end

section
/-! SUPPORT. The loss procedure as a whole (R117, R118, R119): the state before the tests at its end, and the state after them. -/

namespace Sys2Proof.Machine

-- One theorem at a time: checking them all at once needs more threads than the sandbox gives.
set_option Elab.async false

open Sys2Proof

section
variable {s t : State} {d : Dest} {st : DestState} {reason : DestReason}

/-! ### Tasks and holds (R119) -/

theorem dropTasks_engine (d : Dest) (s : State) (e : EngineIx) :
    (dropTasks d s).engine e = if (s.engine e).isFor d then Engine.idle else s.engine e :=
  Vector.getElem_map _ _

theorem isFor_iff (x : Engine) (d : Dest) : x.isFor d = true ↔ ∃ u h, x.task = some (u, h) ∧ u.target = .dest d := by
  simp [Engine.isFor, Option.any_eq_true]

/-- No job is held by a destination whose holds are dropped. -/
theorem dropHolds_free {h : Nat} {j : Job} (hj : (dropHolds d true true s).job h = some j) :
    dmem j.softHold d = false ∧ dmem j.hardHold d = false := by
  have hmap : (dropHolds d true true s).job h = (s.job h).map (fun x => x.withHolds (derase x.softHold d) (derase x.hardHold d)) :=
    lookup_map (fun _ (x : Job) => x.withHolds (derase x.softHold d) (derase x.hardHold d)) s.jobs h
  obtain ⟨x, -, rfl⟩ := Option.map_eq_some_iff.mp (hmap.symm.trans hj)
  simp [dmem_derase]

/-! ### The state before the tests -/

/-- The state in which the port's own work is over, its slots and copies are withdrawn, and the loss has been told (R117, R118, R98). -/
def copiesLost (d : Dest) (st : DestState) (reason : DestReason) (s : State) : State :=
  let s1 := notify (.destState d st reason) (dropFromSlots d (setDest s d { (s.dest d).dropWork with state := st }))
  (s1.clips.map Prod.fst).foldl (loseCopy d (s.dest d).identity) s1

/-- The state in which the tasks, the holds and the above state of the lost drive are gone, too (R119). -/
def driveLost (d : Dest) (st : DestState) (reason : DestReason) (s : State) : State :=
  let s1 := dropHolds d true true (dropTasks d (copiesLost d st reason s))
  setMonitor s1 d { s1.monitor d with above := false }

theorem driveLost_eq (d : Dest) (st : DestState) (reason : DestReason) (s : State) :
    driveLost d st reason s = setMonitor (dropHolds d true true (dropTasks d (copiesLost d st reason s))) d
      { (copiesLost d st reason s).monitor d with above := false } := by
  unfold driveLost
  generalize copiesLost d st reason s = t
  rfl

theorem loseDest_eq (d : Dest) (st : DestState) (reason : DestReason) (s : State) :
    loseDest d st reason s = refresh (closeJobs (liveJobs (driveLost d st reason s)) (driveLost d st reason s)) := rfl

/-- The loss of a drive up to its tasks, holds and above state. -/
structure CopiesLost (d : Dest) (st : DestState) (reason : DestReason) (s t : State) : Prop where
  rest : ∃ slots free clips readers jobs sending waiting notices missed,
    t = { setDest s d { (s.dest d).dropWork with state := st } with
      slots := slots, freeSlots := free, clips := clips, readers := readers, jobs := jobs, sending := sending, waitingReply := waiting
      notices := notices, missed := missed }
  slot : ∀ n, t.slot n = ((s.slot n).map (fun x => x.without d)).filter Slot.wanted
  clip : ∀ c, t.clip c = (s.clip c).map (Clip.afterLoss d (s.dest d).identity s)
  told : ∀ n, s.Told n → t.Told n
  tells : t.Told (.destState d st reason)

theorem copiesLost_spec (hkeys : (s.clips.map Prod.fst).Pairwise (· < ·)) : CopiesLost d st reason s (copiesLost d st reason s) := by
  have hdropped := dropFromSlots_slot d (setDest s d { (s.dest d).dropWork with state := st })
  obtain ⟨slots, free, hdrop⟩ := dropFromSlots_frame d (setDest s d { (s.dest d).dropWork with state := st })
  have hnotify := notify_frame (dropFromSlots d (setDest s d { (s.dest d).dropWork with state := st })) (.destState d st reason)
  have htells := notify_told (dropFromSlots d (setDest s d { (s.dest d).dropWork with state := st })) (.destState d st reason)
  have hkeeps (n : Notice) (hn : s.Told n) :
      (notify (.destState d st reason) (dropFromSlots d (setDest s d { (s.dest d).dropWork with state := st }))).Told n := by
    refine notify_keeps_told ?_ _
    rw [hdrop]
    exact hn
  unfold copiesLost
  generalize dropFromSlots d (setDest s d { (s.dest d).dropWork with state := st }) = v at *
  generalize notify (.destState d st reason) v = w at *
  have hclips : w.clips = s.clips := by
    rw [hnotify, hdrop]
    rfl
  have hloses := loseCopies_loses (d := d) (lost := (s.dest d).identity) (l := s.clips.map Prod.fst) (hkeys.imp fun h => Nat.ne_of_lt h) w
  obtain ⟨clips, readers, jobs, sending, waiting, notices, missed, hframe⟩ := hloses.rest
  dsimp only
  rw [hclips]
  refine ⟨⟨slots, free, clips, readers, jobs, sending, waiting, notices, missed, ?_⟩, fun n => ?_, fun c => ?_,
    fun n hn => hloses.told n (hkeeps n hn), hloses.told _ htells⟩
  · rw [hframe, hnotify, hdrop]
  · rw [hframe]
    refine Eq.trans ?_ (hdropped n)
    rw [hnotify]
    rfl
  · have hclip : w.clip c = s.clip c := congrArg (lookup · c) hclips
    have hafter : Clip.afterLoss d (s.dest d).identity w = Clip.afterLoss d (s.dest d).identity s := by
      funext k
      have hjob : w.job k.job = s.job k.job := by
        rw [hnotify, hdrop]
        rfl
      rw [Clip.afterLoss, recordedLost, hjob]
      rfl
    rw [hloses.clip, hclip, hafter]
    split
    · rfl
    next hfree =>
      have hnone : s.clip c = none := lookup_eq_none hfree
      rw [hnone]
      rfl

/-! ### The state after the tests -/

theorem driveLost_works (d : Dest) (st : DestState) (reason : DestReason) (s : State) : Works s (driveLost d st reason s) :=
  (Works.after_foldl (g := loseCopy d (s.dest d).identity) (Works.refl s).after_setDest.after_dropFromSlots.after_notify
    (fun _ _ hu => hu.after_loseCopy) _).after_dropTasks.after_dropHolds.after_setMonitor

theorem refresh_portStates (s : State) : (refresh s).ports.map CardPort.state = s.ports.map CardPort.state := by
  ext i hi
  simp [refresh, State.port, CardPort.withLamp]

/-- What the loss procedure leaves (R117, R118, R119). -/
structure DriveLost (d : Dest) (st : DestState) (reason : DestReason) (s t : State) : Prop where
  dest : t.dest d = { (s.dest d).dropWork with state := st }
  dests : ∀ e, e ≠ d → t.dest e = s.dest e
  slot : ∀ n, t.slot n = ((s.slot n).map (fun x => x.without d)).filter Slot.wanted
  clip : ∀ c k', t.clip c = some k' → ∃ k, s.clip c = some k ∧ (k.afterLoss d (s.dest d).identity s).SvMoved k'
  survives : ∀ c k j, s.clip c = some k → s.job k.job = some j → j.state ≠ .closing → ∃ k', t.clip c = some k'
  told : ∀ n, s.Told n → t.Told n
  tells : t.Told (.destState d st reason)
  queue : ∃ more, t.verifyQueue = s.verifyQueue.filter (fun u => decide (u.target ≠ .dest d)) ++ more ∧ ∀ u ∈ more, u.target = .source
  engine : ∀ e, t.engine e = if (s.engine e).isFor d then Engine.idle else s.engine e
  holds : ∀ h j, t.job h = some j → dmem j.softHold d = false ∧ dmem j.hardHold d = false
  monitor : t.monitor d = { s.monitor d with above := false }
  monitors : ∀ e, e ≠ d → t.monitor e = s.monitor e
  mem : t.mem = s.mem
  known : t.known = s.known
  cfg : t.cfg = s.cfg
  ports : t.ports.map CardPort.state = s.ports.map CardPort.state

theorem afterLoss_job (lost : Option DestIdentity) (k : Clip) : (k.afterLoss d lost s).job = k.job := by
  unfold Clip.afterLoss Clip.lost
  split
  · split
    · rw [failed_rest]
    · rfl
    · rfl
  · rfl

theorem loseDest_spec (hkeyed : s.TablesKeyed) : DriveLost d st reason s (loseDest d st reason s) := by
  have ⟨_, hkeys, _⟩ := hkeyed
  have hworks := driveLost_works d st reason s
  obtain ⟨_, hkeys', _⟩ := hworks.forms.keyed hkeyed
  obtain ⟨⟨slots, free, clips, readers, jobs, sending, waiting, notices, missed, hrest⟩, hslot, hclip, htold, htells⟩ :=
    copiesLost_spec (d := d) (st := st) (reason := reason) hkeys
  have hlost := driveLost_eq d st reason s
  rw [loseDest_eq]
  generalize liveJobs (driveLost d st reason s) = hs
  have htested := closeJobs_tested hs (driveLost d st reason s)
  have hspares := closeJobs_spares hs (driveLost d st reason s)
  obtain ⟨_, _, _, _, _, _, _, _, hsettles⟩ := closeJobs_settles (driveLost d st reason s) hs
  generalize closeJobs hs (driveLost d st reason s) = w at *
  generalize driveLost d st reason s = v at *
  generalize copiesLost d st reason s = x at *
  have hmonitor (e : Dest) : (refresh w).monitor e = v.monitor e := congrArg (·[e.val]) hspares.monitors
  obtain ⟨more, hqueue, hmore⟩ := htested.queue
  refine ⟨?_, fun e he => ?_, fun n => ?_, fun c k' hk' => ?_, fun c k j hk hj hopen => ?_, fun n hn => ?_, ?_, ⟨more, ?_, hmore⟩, fun e => ?_,
    fun h j hj => ?_, ?_, fun e he => ?_, ?_, ?_, ?_, ?_⟩
  · rw [refresh_dest, hsettles, hlost, hrest]
    exact setDest_dest_self _ _ _
  · rw [refresh_dest, hsettles, hlost, hrest]
    exact setDest_dest_of_ne _ he _
  · rw [refresh_slot, hsettles, hlost]
    exact hslot n
  · obtain ⟨k1, hk1, hmoved⟩ := (hspares.clips hkeys').2 c k' hk'
    have hx : x.clip c = some k1 := by
      rw [hlost] at hk1
      exact hk1
    obtain ⟨k, hk, rfl⟩ := Option.map_eq_some_iff.mp ((hclip c).symm.trans hx)
    exact ⟨k, hk, hmoved⟩
  · have hk1 : v.clip c = some (k.afterLoss d (s.dest d).identity s) := by
      rw [hlost]
      exact (hclip c).trans (by rw [hk]; rfl)
    obtain ⟨j1, hj1, hkept⟩ := hworks.jobs k.job j hj
    exact hspares.survives hkeys' c _ j1 hk1 (by rwa [afterLoss_job]) (hkept.state ▸ hopen)
  · refine refresh_keeps_told (htested.told n ?_)
    rw [hlost]
    exact htold n hn
  · refine refresh_keeps_told (htested.told _ ?_)
    rw [hlost]
    exact htells
  · rw [refresh_verifyQueue, hqueue, hlost, hrest]
    rfl
  · rw [refresh_engine, hsettles, hlost]
    refine (dropTasks_engine d x e).trans ?_
    rw [hrest]
    rfl
  · obtain ⟨j1, hj1, hsoft, hhard⟩ := hspares.holds h j hj
    rw [hlost] at hj1
    rw [hsoft, hhard]
    exact dropHolds_free (s := dropTasks d x) hj1
  · rw [hmonitor, hlost, setMonitor_monitor_self, hrest]
    rfl
  · rw [hmonitor, hlost, setMonitor_monitor_of_ne _ he, hrest]
    rfl
  · rw [refresh_mem, hsettles, hlost, hrest]
    rfl
  · rw [refresh_known, hsettles, hlost, hrest]
    rfl
  · rw [refresh_cfg, hsettles, hlost, hrest]
    rfl
  · rw [refresh_portStates, hsettles, hlost, hrest]
    rfl

/-! ### What the loss makes of a slot and of a copy -/

theorem wanted_of_filling {x : Slot} (hfilling : x.staged = false) : (x.without d).wanted = true ∧ x.without d = x := by
  have hsame : x.without d = x := if_neg (by simp [hfilling])
  rw [hsame]
  exact ⟨by simp [Slot.wanted, hfilling], rfl⟩

/-- A STAGED slot that the lost destination leaves. -/
theorem without_of_staged {x : Slot} (hstaged : x.staged = true) :
    x.without d = { x with pending := derase x.pending d, writing := derase x.writing d } := if_pos hstaged

theorem wanted_of_staged {x : Slot} (hstaged : x.staged = true) :
    (some x).filter Slot.wanted = if x.pending = 0 ∧ x.writing = 0 then none else some x := by
  have hwanted : x.wanted = !decide (x.pending = 0 ∧ x.writing = 0) := by simp only [Slot.wanted, hstaged, true_and]
  rw [Option.filter_some, hwanted]
  by_cases hdone : x.pending = 0 ∧ x.writing = 0
  · rw [decide_eq_true hdone, if_pos hdone]
    rfl
  · rw [decide_eq_false hdone, if_neg hdone]
    rfl

theorem lost_copy_of_ne {e : Dest} (he : e ≠ d) (k : Clip) : (k.lost d).copy e = k.copy e := by
  unfold Clip.lost
  split
  · rw [failed_copy, if_neg he]
  · exact setCopy_copy_of_ne _ he _
  · rfl

/-- The copy on the lost drive (R118). -/
theorem lost_copy_self (k : Clip) : (k.lost d).copy d =
    match (k.copy d).state with
    | .pending | .written | .flushed | .verifying => { k.copy d with state := .failed, cause := .destLost }
    | .verified => { k.copy d with state := .suspect }
    | _ => k.copy d := by
  cases hstate : (k.copy d).state <;> simp [Clip.lost, hstate, lossOf, failed_copy]

theorem lost_sourceState (k : Clip) : (k.lost d).sourceState = k.sourceState := by
  unfold Clip.lost
  split
  · rw [failed_rest]
  · rfl
  · rfl

theorem recordedLost_iff {lost : Option DestIdentity} {k : Clip} : recordedLost d lost s k = true ↔
    ∃ j id, s.job k.job = some j ∧ dmem j.destSet d = true ∧ lost = some id ∧ j.destId d = some id := by
  rw [recordedLost]
  cases hj : s.job k.job with
  | none => simp
  | some j =>
    simp only [Option.map_some, Option.any_some, decide_eq_true_eq]
    refine ⟨fun ⟨hmem, hdrive, hknown⟩ => ?_, fun ⟨j', id, hj', hmem, hlost, hdrive⟩ => ?_⟩
    · obtain ⟨id, hid⟩ := Option.ne_none_iff_exists'.mp hknown
      exact ⟨j, id, rfl, hmem, hid, hdrive.trans hid⟩
    · obtain rfl := Option.some.inj hj'
      exact ⟨hmem, hdrive.trans hlost.symm, by simp [hlost]⟩

end

/-- Settles O43: the link of an ONLINE port by `linkGoesDown`; the loss itself by `loseDest_spec`. -/
theorem lossWithdrawsTheDrive : Obligations.LossWithdrawsTheDrive := by
  refine ⟨fun d s hlow hlink hstate => ⟨_, rfl, ?_⟩, fun d st reason s t hkeyed ht => ?_⟩
  · have hdown : exec (.destLinkDown d) s = .next (linkGoesDown d s) := by rw [exec, execDestLinkDown, hlow]; rfl
    rw [hdown, linkGoesDown, if_pos hlink, if_pos hstate]
  · subst ht
    have hlost := loseDest_spec (d := d) (st := st) (reason := reason) hkeyed
    refine ⟨hlost.dest, hlost.dests, fun n x hx hfilling => ?_, fun n x hx hstaged => ?_, fun c k k' hk hk' => ?_, hlost.tells, hlost.queue,
      fun e => ⟨fun hfor => ?_, fun hother => ?_⟩, hlost.holds, hlost.monitor, hlost.monitors, hlost.mem, hlost.known, hlost.cfg, hlost.ports⟩
    · obtain ⟨hwanted, hsame⟩ := wanted_of_filling (d := d) hfilling
      rw [hlost.slot, hx, Option.map_some, Option.filter_some, if_pos hwanted, hsame]
    · rw [hlost.slot, hx, Option.map_some, without_of_staged hstaged]
      exact wanted_of_staged hstaged
    · obtain ⟨k0, hk0, hmoved⟩ := hlost.clip c k' hk'
      obtain rfl := Option.some.inj (hk.symm.trans hk0)
      refine ⟨fun e he => ?_, ?_, fun hrecorded => ?_, fun hnot => ?_⟩
      · rw [hmoved.copy, Clip.afterLoss]
        split
        · exact lost_copy_of_ne he k
        · rfl
      · rw [hmoved, Clip.afterLoss]
        split
        · exact lost_sourceState k
        · rfl
      · have hafter : k.afterLoss d (s.dest d).identity s = k.lost d := if_pos (recordedLost_iff.mpr hrecorded)
        exact (hmoved.copy d).trans ((congrArg (Clip.copy · d) hafter).trans (lost_copy_self k))
      · have hfalse : ¬ recordedLost d (s.dest d).identity s k = true := fun h => by
          obtain ⟨j, id, hj, hmem, hid, hdrive⟩ := recordedLost_iff.mp h
          exact hnot j id hj hmem hid hdrive
        rw [hmoved.copy, Clip.afterLoss, if_neg hfalse]
    · rw [hlost.engine, if_pos ((isFor_iff _ d).mpr hfor)]
      rfl
    · rw [hlost.engine, if_neg fun h => ?_]
      obtain ⟨u, i, htask, htarget⟩ := (isFor_iff _ d).mp h
      exact hother u i htask htarget

end Sys2Proof.Machine
end

section
/-! SUPPORT. Bridge requests that end in ERROR or in a timeout (R96, R97, R108, R113, R115). -/

namespace Sys2Proof.Machine

-- One theorem at a time: checking them all at once needs more threads than the sandbox gives.
set_option Elab.async false

open Sys2Proof

section
variable {s : State} {d : Dest} {c n m a b ms : Nat} {again timedOut : Bool} {g : Segment} {x : Slot} {k : Clip} {j : Job}

/-! ### The end of the request (R97) -/

theorem bridgeTimedOut_abandoned {r : BridgeRequest} (hrequest : (s.dest d).request = some r) (habandoned : r.abandoned = true) :
    bridgeTimedOut d s = endAbandonedBridge d s := by
  simp [bridgeTimedOut, hrequest, habandoned]

theorem bridgeTimedOut_write (hrequest : (s.dest d).request = some ⟨.write a b, false, ms, again⟩) :
    bridgeTimedOut d s = writeError d true s := by
  simp [bridgeTimedOut, hrequest]

theorem bridgeTimedOut_flush (hrequest : (s.dest d).request = some ⟨.flush, false, ms, again⟩) :
    bridgeTimedOut d s = flushError d true s := by
  simp [bridgeTimedOut, hrequest]

theorem bridgeTimedOut_read (hrequest : (s.dest d).request = some ⟨.read a b, false, ms, again⟩) :
    bridgeTimedOut d s = readError d true s := by
  simp [bridgeTimedOut, hrequest]

theorem noteError_dest (ask : BridgeAsk) : (noteError d ask timedOut s).dest d = { (s.dest d).markError ask timedOut with request := none } :=
  setDest_dest_self _ _ _

/-- An ERROR on the first attempt: its flags are set, and the request is sent again (R97, R108, R113, R115). -/
theorem resend_noteError (ask : BridgeAsk) : resend d ask (noteError d ask timedOut s) =
    setDest s d { (s.dest d).markError ask timedOut with request := some ⟨ask, false, s.cfg.destTimeoutMs, true⟩ } := by
  rw [resend, bridgeSend, noteError_dest]
  exact setDest_setDest _ _ _ _

/-! ### The first and the second ERROR of each request -/

theorem writeError_first (hop : (s.dest d).op = some (.write n m false)) (hrequest : (s.dest d).request = some ⟨.write a b, false, ms, false⟩) :
    writeError d timedOut s = resend d (.write a b) (noteError d (.write a b) timedOut s) := by
  simp [writeError, hop, hrequest]

theorem writeError_second (hop : (s.dest d).op = some (.write n m false)) (hrequest : (s.dest d).request = some ⟨.write a b, false, ms, true⟩) :
    writeError d timedOut s = failWrite d n (noteError d (.write a b) timedOut s) := by
  simp [writeError, hop, hrequest]

theorem flushError_first {clips : List Nat} (hop : (s.dest d).op = some (.flush clips))
    (hrequest : (s.dest d).request = some ⟨.flush, false, ms, false⟩) :
    flushError d timedOut s = resend d .flush (noteError d .flush timedOut s) := by
  simp [flushError, hop, hrequest]

theorem flushError_second {clips : List Nat} (hop : (s.dest d).op = some (.flush clips))
    (hrequest : (s.dest d).request = some ⟨.flush, false, ms, true⟩) :
    flushError d timedOut s = failPort d .flushFailed (noteError d .flush timedOut s) := by
  simp [flushError, hop, hrequest]

theorem readError_first (hop : (s.dest d).op = some (.segment g)) (hlive : g.cancelled = false)
    (hrequest : (s.dest d).request = some ⟨.read a b, false, ms, false⟩) :
    readError d timedOut s = resend d (.read a b) (noteError d (.read a b) timedOut s) := by
  simp [readError, hop, hrequest, hlive]

theorem readError_second (hop : (s.dest d).op = some (.segment g)) (hrequest : (s.dest d).request = some ⟨.read a b, false, ms, true⟩) :
    readError d timedOut s = endDestSegment d g false (noteError d (.read a b) timedOut s) := by
  simp [readError, hop, hrequest]

/-! ### A WRITE that fails for good (R108) -/

/-- The state after a write of clip `c` has failed for good, before its port fails: its copy, if PENDING, has failed. -/
def writeLost (d : Dest) (c : Nat) (s : State) : State :=
  if copyIs s c d .pending then failCopy c d .failed .writeError s else s

theorem failWrite_eq (hx : s.slot n = some x) :
    ∃ ns, failWrite d n s = tellAll ns (failPort d .writeFailed (writeLost d x.clip s)) := by
  unfold failWrite
  rw [hx]
  exact ⟨_, rfl⟩

theorem writeLost_works (d : Dest) (c : Nat) (s : State) : Works s (writeLost d c s) := by
  unfold writeLost
  split
  · exact (Works.refl s).after_failCopy
  · exact .refl s

theorem writeLost_dest : (writeLost d c s).dest d = s.dest d := by
  unfold writeLost
  split
  · exact failCopy_dest _ _ _ _ _
  · rfl

/-- The clip whose copy on `d` fails if it is PENDING. -/
def Clip.writeLost (d : Dest) (k : Clip) : Clip :=
  if (k.copy d).state = .pending then k.failed d .failed .writeError else k

theorem writeLost_clip (hk : s.clip c = some k) : (writeLost d c s).clip c = some (k.writeLost d) := by
  have hpending : copyIs s c d .pending = decide ((k.copy d).state = .pending) := by simp only [copyIs, hk]
  rw [writeLost, hpending, Clip.writeLost]
  by_cases hstate : (k.copy d).state = .pending
  · rw [decide_eq_true hstate, if_pos rfl, if_pos hstate, failCopy_clip, if_pos rfl, hk]
    rfl
  · rw [decide_eq_false hstate, if_neg hstate]
    exact hk

theorem writeLost_tells (hk : s.clip c = some k) (hpending : (k.copy d).state = .pending) :
    (writeLost d c s).Told (.copyState k.job c (.copy d .failed) .writeError) := by
  have hcopy : copyIs s c d .pending = true := by simp only [copyIs, hk, hpending, decide_true]
  rw [writeLost, if_pos hcopy]
  exact (failCopy_fails c d .writeError s).tells k hk d (List.mem_singleton_self d)

theorem Clip.writeLost_job (d : Dest) (k : Clip) : (k.writeLost d).job = k.job := by
  unfold Clip.writeLost
  split
  · rw [failed_rest]
  · rfl

theorem Clip.writeLost_copy (hpending : (k.copy d).state = .pending) :
    (k.writeLost d).copy d = { k.copy d with state := .failed, cause := .writeError } := by
  rw [Clip.writeLost, if_pos hpending, failed_copy, if_pos rfl]

/-- The loss of its drive does not touch a copy that has failed (R118). -/
theorem afterLoss_copy_of_failed {lost : Option DestIdentity} (hfailed : (k.copy d).state = .failed) :
    (k.afterLoss d lost s).copy d = k.copy d := by
  unfold Clip.afterLoss
  split
  · rw [lost_copy_self, hfailed]
  · rfl

/-- What a WRITE that fails for good leaves: the port FAILED with nothing in flight or queued, and the written clip with its copy failed. -/
structure WriteFailed (d : Dest) (c : Nat) (k : Clip) (s t : State) (k' : Clip) : Prop where
  dest : t.dest d = { ({ s.dest d with op := none } : DestPort).dropWork with state := .failed }
  told : t.Told (.destState d .failed .writeFailed)
  clip : t.clip c = some k'
  copy : (k.copy d).state = .pending → (k'.copy d).state = .failed ∧ (k'.copy d).cause = .writeError ∧
    t.Told (.copyState k.job c (.copy d .failed) .writeError)

theorem failPort_writeLost (hkeyed : s.TablesKeyed) (hk : s.clip c = some k) (hj : s.job k.job = some j) (hopen : j.state ≠ .closing) :
    ∃ k', WriteFailed d c k s (failPort d .writeFailed (writeLost d c s)) k' := by
  have hclip := writeLost_clip (d := d) hk
  have htells := writeLost_tells (d := d) hk
  have hworks := writeLost_works d c s
  have hdest : (writeLost d c s).dest d = s.dest d := writeLost_dest
  unfold failPort
  generalize writeLost d c s = v at *
  have hlost := loseDest_spec (d := d) (st := .failed) (reason := .writeFailed)
    (hworks.after_setDest (d := d) (x := { v.dest d with op := none }) |>.forms.keyed hkeyed)
  obtain ⟨j1, hj1, hkept⟩ := hworks.jobs k.job j hj
  obtain ⟨k', hk'⟩ := hlost.survives c (k.writeLost d) j1 hclip (by rw [Clip.writeLost_job]; exact hj1) (hkept.state ▸ hopen)
  obtain ⟨k1, hk1, hmoved⟩ := hlost.clip c k' hk'
  obtain rfl : k.writeLost d = k1 := Option.some.inj (hclip.symm.trans hk1)
  refine ⟨k', ?_, hlost.tells, hk', fun hpending => ?_⟩
  · rw [hlost.dest, setDest_dest_self, hdest]
  · have hfailed := Clip.writeLost_copy hpending
    have hsame : k'.copy d = { k.copy d with state := .failed, cause := .writeError } := by
      rw [hmoved.copy, afterLoss_copy_of_failed (by rw [hfailed]), hfailed]
    exact ⟨by rw [hsame], by rw [hsame], hlost.told _ (htells hpending)⟩

theorem failWrite_spec (hkeyed : s.TablesKeyed) (hx : s.slot n = some x) (hk : s.clip x.clip = some k) (hj : s.job k.job = some j)
    (hopen : j.state ≠ .closing) : ∃ k', WriteFailed d x.clip k s (failWrite d n s) k' := by
  obtain ⟨k', hfailed⟩ := failPort_writeLost (d := d) hkeyed hk hj hopen
  obtain ⟨ns, heq⟩ := failWrite_eq (d := d) hx
  rw [heq]
  generalize failPort d .writeFailed (writeLost d x.clip s) = t at *
  have hkeeps (w : Notice) (hw : t.Told w) : (tellAll ns t).Told w := tellAll_keeps_told ns t hw
  obtain ⟨_, _, _, _, hframe⟩ := tellAll_frame ns t
  refine ⟨k', ?_, hkeeps _ hfailed.told, ?_, fun hpending => ?_⟩
  · rw [hframe]
    exact hfailed.dest
  · rw [hframe]
    exact hfailed.clip
  · obtain ⟨hstate, hcause, htold⟩ := hfailed.copy hpending
    exact ⟨hstate, hcause, hkeeps _ htold⟩

/-! ### A READ that fails for good (R115) -/

theorem settleTarget_failed {u : Task} (htarget : u.target = .dest d) (sv : SvState) (cause : Cause) :
    settleTarget u .failed sv cause s = failCopy u.clip d .failed cause s := by
  simp [settleTarget, htarget]

theorem endDestSegment_failed {u : Task} {h : Nat} (htask : (s.engine g.engine).task = some (u, h)) (hlive : g.cancelled = false)
    (htarget : u.target = .dest d) : endDestSegment d g false s =
      refresh (closeJobs [h] (settleTarget u .failed .mismatch .readError (freeEngine g.engine (setDest s d { s.dest d with op := none })))) := by
  simp [endDestSegment, segmentFailed, htask, hlive, htarget]

/-- The port of a segment that has failed for good has nothing in flight, and keeps all else. -/
theorem endDestSegment_failed_dest {u : Task} {h : Nat} (htask : (s.engine g.engine).task = some (u, h)) (hlive : g.cancelled = false)
    (htarget : u.target = .dest d) : (endDestSegment d g false s).dest d = { s.dest d with op := none } := by
  rw [endDestSegment_failed htask hlive htarget, settleTarget_failed htarget, refresh_dest]
  generalize hfreed : freeEngine g.engine (setDest s d { s.dest d with op := none }) = v
  obtain ⟨_, _, _, _, _, _, _, _, hsettles⟩ := closeJobs_settles (failCopy u.clip d .failed .readError v) [h]
  rw [hsettles]
  refine (failCopy_dest (s := v) u.clip d .failed .readError d).trans ?_
  rw [← hfreed]
  exact setDest_dest_self _ _ _

/-! ### The end of an abandoned request (R96) -/

theorem endAbandonedBridge_eq {r : BridgeRequest} (hrequest : (s.dest d).request = some r) (habandoned : r.abandoned = true) :
    endAbandonedBridge d s = bridgeKick d (setDest s d { s.dest d with request := none }) := by
  rw [endAbandonedBridge, hrequest, Option.any_some, if_pos habandoned, clearBridge]

theorem bridgeAsk_write (hx : s.slot n = some x) (hk : s.clip x.clip = some k) (stopped : Bool) :
    bridgeAsk s d (.write n m stopped) =
      some (.write (requestRun (k.target d) (x.first + m) (x.count - m)).1 (requestRun (k.target d) (x.first + m) (x.count - m)).2) := by
  simp [bridgeAsk, writeRun, hx, hk]

end

/-- Settles O44, clause by clause: the first attempts by `resend_noteError`, the second by `failWrite_spec`, `flushError_second` and
`settled_compared`, and the abandoned requests by `bridgeKick`'s cases. -/
theorem destinationErrorsResentOnce : Obligations.DestinationErrorsResentOnce := by
  intro d s ms hlow
  have hwrite : exec (.destWriteError d) s = .next (writeError d false s) := by rw [exec, execDestWriteError, awake_of_high hlow]
  have hflush : exec (.destFlushError d) s = .next (flushError d false s) := by rw [exec, execDestFlushError, awake_of_high hlow]
  have hread : exec (.destReadError d) s = .next (readError d false s) := by rw [exec, execDestReadError, awake_of_high hlow]
  have hexpired : exec (.destRequestTimeout d) s = .next (bridgeTimedOut d s) := by rw [exec, execDestRequestTimeout, awake_of_high hlow]
  have hover : exec (.bridgeAbandonedAnswer d) s = .next (endAbandonedBridge d s) := by
    rw [exec, execBridgeAbandonedAnswer, awake_of_high hlow]
  refine ⟨fun n m a b hop hrequest => ?_, fun clips hop hrequest => ?_, fun g a b hop hlive hrequest => ?_, fun clips hop hrequest => ?_,
    fun n m a b x k j hop hrequest hkeyed hx hk hj hopen => ?_,
    fun g a b u h k j hop hlive hrequest htask htarget hk hj howner hopen => ?_, fun r hrequest habandoned => ?_⟩
  · rw [hwrite, hexpired, bridgeTimedOut_write hrequest, writeError_first hop hrequest, writeError_first hop hrequest, resend_noteError,
      resend_noteError]
    simp [DestPort.markError]
  · rw [hflush, hexpired, bridgeTimedOut_flush hrequest, flushError_first hop hrequest, flushError_first hop hrequest, resend_noteError,
      resend_noteError]
    simp [DestPort.markError]
  · rw [hread, hexpired, bridgeTimedOut_read hrequest, readError_first hop hlive hrequest, readError_first hop hlive hrequest,
      resend_noteError, resend_noteError]
    simp [DestPort.markError]
  · rw [hflush, flushError_second hop hrequest, failPort, noteError_dest, noteError, setDest_setDest]
    simp [DestPort.markError]
  · have hnoted := noteError_dest (s := s) (d := d) (timedOut := false) (.write a b)
    have hkeyed' : (noteError d (.write a b) false s).TablesKeyed := ((Works.refl s).after_noteError).forms.keyed hkeyed
    obtain ⟨k', hfailed⟩ := failWrite_spec (d := d) hkeyed' hx hk hj hopen
    refine ⟨_, k', hwrite.trans (congrArg _ (writeError_second hop hrequest)), ?_, ?_, ?_, ?_, ?_, hfailed.told, hfailed.clip, hfailed.copy⟩ <;>
      simp [hfailed.dest, hnoted, DestPort.dropWork, DestPort.markError]
  · have hnoted := noteError_dest (s := s) (d := d) (timedOut := false) (.read a b)
    have hdest := endDestSegment_failed_dest (s := noteError d (.read a b) false s) htask hlive htarget
    have hend := endDestSegment_failed (s := noteError d (.read a b) false s) htask hlive htarget
    have hissued : u.target = .source → j.tasksIssued = true := fun hsource => by simp [htarget] at hsource
    obtain ⟨k', more, hcompared, hcopy, -⟩ :=
      settled_compared (s := setDest (noteError d (.read a b) false s) d { (noteError d (.read a b) false s).dest d with op := none })
        (e := g.engine) hk hj howner.symm hopen hissued .failed .mismatch .readError
    rw [← hend] at hcompared hcopy
    obtain ⟨hself, hothers, htold⟩ := hcopy d htarget
    refine ⟨_, k', hread.trans (congrArg _ (readError_second hop hrequest)), ?_, hcompared.free, hcompared.clip, hself, hothers, howner ▸ htold,
      more, ?_, hcompared.more⟩
    · rw [hdest, hnoted]
      simp [DestPort.markError]
    · exact hcompared.queue.trans (by rw [List.append_nil]; rfl)
  · rw [hover, hexpired, bridgeTimedOut_abandoned hrequest habandoned, endAbandonedBridge_eq hrequest habandoned]
    refine ⟨rfl, fun hstate => ?_, fun hstate hop => ?_, fun n m x k hstate hop hx hk => ?_⟩
    · rw [bridgeKick_identify (by exact hstate), asks_free rfl]
    · rw [bridgeKick_idle]
      · rwa [setDest_dest_self]
      · rwa [setDest_dest_self]
    · rw [bridgeKick_operation (x := { s.dest d with request := none }) hstate hop (bridgeAsk_write hx hk false), asks_free rfl]

end Sys2Proof.Machine
end


section
/-! SUPPORT. A free engine takes a task (R124 to R128): which task, what taking it does to its clip and to the arbiter it asks, and the tests
that follow. -/

namespace Sys2Proof.Machine

-- One theorem at a time: checking them all at once needs more threads than the sandbox gives.
set_option Elab.async false

open Sys2Proof

section
variable {s : State} {e : EngineIx} {u : Task} {h c : Nat} {k : Clip} {j : Job} {d : Dest} {p : Port} {older younger : List Task}

/-! ### The engine and the task (R124, R125) -/

theorem takingEngine_eq_none (hbusy : ∀ e, (s.engine e).task ≠ none) : takingEngine s = none := by
  rw [takingEngine, if_neg (hbusy 0), if_neg (hbusy 1)]

theorem takingEngine_eq_some (hfree : (s.engine e).task = none) (hfirst : e = 1 → (s.engine 0).task ≠ none) : takingEngine s = some e := by
  match e with
  | 0 => exact if_pos hfree
  | 1 => rw [takingEngine, if_neg (hfirst rfl), if_pos hfree]

theorem eligible_dest (hk : s.clip u.clip = some k) (hj : s.job k.job = some j) (hd : u.target = .dest d) :
    eligible s u = true ↔ (s.dest d).state = .online ∧ ∃ id, (s.dest d).identity = some id ∧ j.destId d = some id := by
  simp only [eligible, hk, hj, hd]
  exact usable_iff

theorem eligible_source (hk : s.clip u.clip = some k) (hj : s.job k.job = some j) (hsource : u.target = .source) :
    eligible s u = true ↔ j.binding ≠ none ∧ j.paused = false := by
  simp [eligible, hk, hj, hsource, Option.isSome_iff_ne_none]

/-- Without a free engine, or without an eligible task, nothing is taken. -/
theorem takeNext_idle (hnone : (∀ e, (s.engine e).task ≠ none) ∨ ∀ v ∈ s.verifyQueue, eligible s v = false) : takeNext s = s := by
  rcases hnone with hbusy | hineligible
  · simp only [takeNext, takingEngine_eq_none hbusy]
  · have hfind : s.verifyQueue.find? (eligible s) = none := List.find?_eq_none.mpr fun v hv => by simp [hineligible v hv]
    cases htaking : takingEngine s <;> simp only [takeNext, hfind, htaking]

/-- The task taken is the first eligible one. -/
theorem takeNext_takes (hfree : (s.engine e).task = none) (hfirst : e = 1 → (s.engine 0).task ≠ none)
    (hqueue : s.verifyQueue = older ++ u :: younger) (holder : ∀ v ∈ older, eligible s v = false) (hu : eligible s u = true)
    (hk : s.clip u.clip = some k) : takeNext s = refresh (closeJobs [k.job] (takeTask e u k.job s)) := by
  have hfind : s.verifyQueue.find? (eligible s) = some u :=
    List.find?_eq_some_iff_append.mpr ⟨hu, older, younger, hqueue, fun v hv => by simp [holder v hv]⟩
  simp only [takeNext, takingEngine_eq_some hfree hfirst, hfind, hk]

/-- Taking the first eligible task leaves the others in their order. -/
theorem erase_of_eligible (hqueue : s.verifyQueue = older ++ u :: younger) (holder : ∀ v ∈ older, eligible s v = false)
    (hu : eligible s u = true) : s.verifyQueue.erase u = older ++ younger := by
  have hnew : u ∉ older := fun hmem => nomatch (holder u hmem).symm.trans hu
  rw [hqueue, List.erase_append_right _ hnew, List.erase_cons_head]

/-! ### The target and the first segment (R125 to R128) -/

/-- The clip whose target `v` is being verified (R125). -/
def Clip.started (v : Target) (k : Clip) : Clip :=
  match v with
  | .dest d => k.setCopy d { k.copy d with state := .verifying }
  | .source => { k with sv := .verifying }

theorem startTarget_eq (u : Task) (s : State) : startTarget u s = modClip u.clip (Clip.started u.target) s := by
  unfold startTarget
  split
  next hd =>
    rw [hd]
    rfl
  next hsource =>
    rw [hsource]
    rfl

/-- An engine at the start of a task, its first segment waiting (R125, R126). -/
def Engine.starting (u : Task) (h : Nat) : Engine := ⟨some (u, h), 0, some ⟨1, 0⟩, .waiting⟩

/-- The state in which engine `e` has taken the task and its target is VERIFYING, `clips` being the clip records (R125). -/
def tasked (e : EngineIx) (u : Task) (h : Nat) (clips : Table Clip) (s : State) : State :=
  setEngine { s with verifyQueue := s.verifyQueue.erase u, clips := clips } e (Engine.starting u h)

theorem setEngine_setEngine (s : State) (e : EngineIx) (x y : Engine) : setEngine (setEngine s e x) e y = setEngine s e y := by
  simp [setEngine]

/-- The engine asks for its next segment at the card port bound to the job of its task (R128). -/
theorem askSegment_source {x : Engine} (htask : x.task = some (u, h)) (hsource : u.target = .source) (hp : boundPort s h = some p) :
    askSegment e (setEngine s e x) =
      setReader (setEngine s e { x with seg := .waiting }) p { s.reader p with segWaiting := (s.reader p).segWaiting ++ [e] } := by
  have hport (y : Engine) : boundPort (setEngine s e y) h = some p := hp
  simp only [askSegment, setEngine_engine_self, htask, hsource, setEngine_setEngine, hport, setEngine_reader]

/-- Engine `e` has taken task `u` of job `h`: what `t` is, but for the arbiter that was asked. -/
structure Takes (e : EngineIx) (u : Task) (h : Nat) (k : Clip) (s t : State) : Prop where
  engine : t.engine e = Engine.starting u h
  others : ∀ i, i ≠ e → t.engine i = s.engine i
  queue : t.verifyQueue = s.verifyQueue.erase u
  jobs : t.jobs = s.jobs
  clip : t.clip u.clip = some (k.started u.target)

theorem tasked_takes {clips : Table Clip} (hclips : lookup clips u.clip = some (k.started u.target)) :
    Takes e u h k s (tasked e u h clips s) :=
  ⟨setEngine_engine_self _ _ _, fun _ hi => setEngine_engine_of_ne _ hi _, rfl, rfl, hclips⟩

theorem startTarget_clips (hk : s.clip u.clip = some k) :
    ∃ clips, startTarget u s = { s with clips := clips } ∧ lookup clips u.clip = some (k.started u.target) := by
  obtain ⟨clips, hmod⟩ := modClip_frame s u.clip (Clip.started u.target)
  have hread : (modClip u.clip (Clip.started u.target) s).clip u.clip = some (k.started u.target) := by
    rw [modClip_clip, if_pos rfl, hk, Option.map_some]
  rw [hmod] at hread
  exact ⟨clips, (startTarget_eq u s).trans hmod, hread⟩

/-- A DEST task is taken: its first segment waits at the destination's port (R127). -/
theorem takeTask_dest (hk : s.clip u.clip = some k) (hd : u.target = .dest d) :
    Takes e u h k s (takeTask e u h s) ∧ (takeTask e u h s).dest d = { s.dest d with segWaiting := (s.dest d).segWaiting ++ [e] } ∧
      ∀ i, i ≠ d → (takeTask e u h s).dest i = s.dest i := by
  obtain ⟨clips, hstart, hclips⟩ := startTarget_clips (s := { s with verifyQueue := s.verifyQueue.erase u }) hk
  have htake : takeTask e u h s =
      setDest (tasked e u h clips s) d { s.dest d with segWaiting := (s.dest d).segWaiting ++ [e] } := by
    rw [takeTask, hstart]
    exact askSegment_dest rfl hd
  rw [htake]
  obtain ⟨hengine, hothers, hqueue, hjobs, hclip⟩ := tasked_takes (s := s) (e := e) (h := h) hclips
  exact ⟨⟨hengine, hothers, hqueue, hjobs, hclip⟩, setDest_dest_self _ _ _, fun _ hi => setDest_dest_of_ne _ hi _⟩

/-- A SOURCE task is taken: its first segment waits at the card port bound to its job (R128). -/
theorem takeTask_source (hk : s.clip u.clip = some k) (hsource : u.target = .source) (hp : boundPort s h = some p) :
    Takes e u h k s (takeTask e u h s) ∧ ((takeTask e u h s).reader p).segWaiting = (s.reader p).segWaiting ++ [e] ∧
      (takeTask e u h s).dests = s.dests := by
  obtain ⟨clips, hstart, hclips⟩ := startTarget_clips (s := { s with verifyQueue := s.verifyQueue.erase u }) hk
  have htake : takeTask e u h s =
      setReader (tasked e u h clips s) p { s.reader p with segWaiting := (s.reader p).segWaiting ++ [e] } := by
    rw [takeTask, hstart]
    exact askSegment_source rfl hsource hp
  rw [htake]
  obtain ⟨hengine, hothers, hqueue, hjobs, hclip⟩ := tasked_takes (s := s) (e := e) (h := h) hclips
  exact ⟨⟨hengine, hothers, hqueue, hjobs, hclip⟩, congrArg Reader.segWaiting (setReader_reader_self _ _ _), rfl⟩

/-! ### The tests that follow (R38, R46, R145) -/

/-- A job that an engine works for is not freed (R46). -/
theorem freeJob_of_engine (htask : (s.engine e).task = some (u, h)) : freeJob s h = s := by
  have hmem : s.engine e ∈ s.engines.toList := by simp [State.engine]
  have hbusy : jobBusy s h = true := by
    rw [jobBusy, List.any_eq_true.mpr ⟨s.engine e, hmem, by simp [engineOfJob, htask]⟩, Bool.or_true]
  unfold freeJob
  split
  · simp [hbusy]
  · rfl

/-- The tests of a job that an engine works for, CLOSING or not. -/
theorem closeJobs_judges_working (htask : (s.engine e).task = some (u, h)) (hj : s.job h = some j) (hk : s.clip c = some k) :
    Judges h c j k s (refresh (closeJobs [h] s)) := by
  by_cases hst : j.state = .closing
  · rw [closeJobs_closing hj hst, freeJob_of_engine htask]
    exact ⟨fun _ => refresh_engine _ _, ⟨[], (List.append_nil _).symm, nofun⟩, fun _ => refresh_keeps_told, ⟨k.sv, .inl rfl, hk⟩, fun _ => hk⟩
  · exact closeJobs_judges hj hst hk

/-- The tests leave the destination ports, and the segments that wait at the card ports. -/
theorem closed_arbiters (hs : List Nat) (s : State) : (refresh (closeJobs hs s)).dests = s.dests ∧
    ∀ p, ((refresh (closeJobs hs s)).reader p).segWaiting = (s.reader p).segWaiting := by
  obtain ⟨_, _, _, _, _, _, _, _, hclose⟩ := closeJobs_settles s hs
  refine ⟨by rw [hclose]; rfl, fun p => ?_⟩
  rw [refresh_reader, hclose]
  rfl

end

/-- Settles O48: `takeNext_takes` says which task is taken, `takeTask_dest` and `takeTask_source` what taking it does, and
`closeJobs_judges_working` what the tests leave of it. -/
theorem freeEngineTakesOldestEligibleTask : Obligations.FreeEngineTakesOldestEligibleTask := by
  intro s hlow
  have hexec : exec .engineTakeTask s = .next (takeNext s) := congrArg Host.Outcome.next (awake_of_high hlow takeNext)
  refine ⟨fun hnone => hexec.trans (congrArg _ (takeNext_idle hnone)), fun u k j hk hj => ?_, ?_⟩
  · cases htarget : u.target with
    | dest d => exact eligible_dest hk hj htarget
    | source => exact eligible_source hk hj htarget
  intro e older younger u k j hfree hfirst hqueue holder hu hk hj hissued
  rw [hexec, takeNext_takes hfree hfirst hqueue holder hu hk]
  obtain ⟨hdests, hreaders⟩ := closed_arbiters [k.job] (takeTask e u k.job s)
  have hclosed (htakes : Takes e u k.job k s (takeTask e u k.job s)) :
      Judges k.job u.clip j (k.started u.target) (takeTask e u k.job s) (refresh (closeJobs [k.job] (takeTask e u k.job s))) :=
    closeJobs_judges_working (congrArg Engine.task htakes.engine) ((congrArg (lookup · k.job) htakes.jobs).trans hj) htakes.clip
  cases htarget : u.target with
  | dest d =>
    obtain ⟨htakes, hself, hother⟩ := takeTask_dest (e := e) (h := k.job) hk htarget
    obtain ⟨hengine, ⟨more, hmore, hsources⟩, _, ⟨sv, _, hclip⟩, _⟩ := hclosed htakes
    rw [htarget] at hclip
    refine ⟨_, _, more, rfl, (hengine e).trans htakes.engine, fun i hi => (hengine i).trans (htakes.others i hi), ?_, hsources, hclip,
      fun d' hd' => ?_, nofun⟩
    · rw [hmore, htakes.queue, erase_of_eligible hqueue holder hu]
    · obtain rfl := Target.dest.inj hd'
      exact ⟨setCopy_copy_self _ _ _, fun i hi => setCopy_copy_of_ne _ hi _, (congrArg (·[d.val]) hdests).trans hself,
        fun i hi => (congrArg (·[i.val]) hdests).trans (hother i hi)⟩
  | source =>
    obtain ⟨hbound, _⟩ := (eligible_source hk hj htarget).mp hu
    obtain ⟨p, hp⟩ := Option.ne_none_iff_exists'.mp hbound
    have hport : boundPort s k.job = some p := by rw [boundPort, hj, Option.bind_some, hp]
    obtain ⟨htakes, hwaiting, hkept⟩ := takeTask_source (e := e) hk htarget hport
    obtain ⟨hengine, ⟨more, hmore, hsources⟩, _, _, hclip⟩ := hclosed htakes
    have hclip := hclip (hissued htarget)
    rw [htarget] at hclip
    refine ⟨_, _, more, rfl, (hengine e).trans htakes.engine, fun i hi => (hengine i).trans (htakes.others i hi), ?_, hsources, hclip, nofun,
      fun p' _ hp' => ?_⟩
    · rw [hmore, htakes.queue, erase_of_eligible hqueue holder hu]
    · obtain rfl := Option.some.inj (hp.symm.trans hp')
      exact ⟨rfl, rfl, (hreaders p).trans hwaiting, hdests.trans hkept⟩

end Sys2Proof.Machine
end


section
/-! SUPPORT. CLIP_REVERIFY (R138) and CLIP_RECOPY (R139): the checks of each owner, and what each request makes of the records. -/

namespace Sys2Proof.Machine

-- One theorem at a time: checking them all at once needs more threads than the sandbox gives.
set_option Elab.async false

open Sys2Proof

section
variable {s : State} {f : Frame} {rest : List Frame} {c : Nat} {k : Clip} {j : Job} {d : Dest}

theorem readHandleAndCode_three (b0 b1 sel : Byte) : readHandleAndCode [b0, b1, sel] = some (b0.toNat + 256 * b1.toNat, sel.toNat) := rfl

/-! ### CLIP_REVERIFY (R138) -/

theorem reverifiable_iff (x : Copy) : x.reverifiable = true ↔ x.state = .suspect ∨ (x.state = .mismatch ∧ x.cause ≠ .sourceChanged) := by
  simp [Copy.reverifiable]

/-- CLIP_REVERIFY of a copy: once the copy and its port pass the checks, the drive decides (R138). -/
theorem clipReverify_dest (hclip : s.clip c = some k) (hj : s.job k.job = some j) (hst : j.state ≠ .closing)
    (hd : j.destSet.getLsbD d.val = true) (hcopy : (k.copy d).reverifiable = true) (honline : (s.dest d).state = .online) :
    clipReverify (c, d.val) (s.taken f rest) =
      if (s.dest d).identity ≠ j.destId d then (statusOnly .wrongMedium, s.taken f rest)
      else (statusOnly .ok, reverify c k (.dest d) (s.taken f rest)) := by
  have honline' : ((s.taken f rest).dest d).state = .online := honline
  rw [clipReverify, withClip_live hclip hj]
  simp only [listOf_dest hd, if_neg hst, hcopy, Bool.true_eq_false, if_false, if_neg (not_not.mpr honline')]
  rfl

/-- CLIP_REVERIFY of a source in MISMATCH whose card is bound is taken (R138). -/
theorem clipReverify_source (hclip : s.clip c = some k) (hj : s.job k.job = some j) (hst : j.state ≠ .closing) (hsv : k.sv = .mismatch)
    (hbound : j.binding ≠ none) : clipReverify (c, 4) (s.taken f rest) = (statusOnly .ok, reverify c k .source (s.taken f rest)) := by
  rw [clipReverify, withClip_live hclip hj]
  simp only [listOf_source, if_neg hst, if_neg (not_not.mpr hsv), if_neg hbound]

/-- What CLIP_REVERIFY makes of the records: the clip's target goes back, one task joins the queue's tail, and the job is evaluated. -/
theorem reverify_spec (hj : s.job k.job = some j) (c : Nat) (v : Target) :
    (reverify c k v s).verifyQueue = s.verifyQueue ++ [⟨c, v, false⟩] ∧ (reverify c k v s).clip c = some (k.reverified v) ∧
      (∀ i, i ≠ c → (reverify c k v s).clip i = s.clip i) ∧
      (∃ j', (reverify c k v s).job k.job = some j' ∧ j'.state = j.state) ∧ (reverify c k v s).dests = s.dests ∧
      (reverify c k v s).slots = s.slots := by
  obtain ⟨_, _, _, _, _, _, _, heval, hself, _⟩ :=
    evalJob_spec (s := { setClip s c (k.reverified v) with verifyQueue := s.verifyQueue ++ [⟨c, v, false⟩] }) (h := k.job) hj
  rw [reverify, heval]
  exact ⟨rfl, setClip_clip_self s c _, fun i hi => setClip_clip_of_ne s hi _, ⟨_, hself, rfl⟩, rfl, rfl⟩

/-! ### CLIP_RECOPY (R139) -/

theorem recopyable_iff (x : Copy) : x.recopyable = true ↔ x.state = .mismatch ∨ x.state = .failed ∨ x.state = .suspect := by
  simp [Copy.recopyable, or_assoc]

theorem recopyDest_val (hd : j.destSet.getLsbD d.val = true) : recopyDest j d.val = some d := by
  rw [recopyDest, destOf_val]
  exact if_pos hd

theorem slotOfClip_iff (s : State) (c n : Nat) : slotOfClip s c n = true ↔ ∃ x ∈ s.slot n, x.clip = c := by
  cases hx : s.slot n <;> simp [slotOfClip, hx]

/-- A chunk of the clip waits in the port's write queue. -/
theorem clipAtDest_of_queued (hqueued : ∃ n ∈ (s.dest d).writeQueue, ∃ x ∈ s.slot n, x.clip = c) : clipAtDest s c d = true := by
  obtain ⟨n, hn, hx⟩ := hqueued
  rw [clipAtDest, List.any_eq_true.mpr ⟨n, hn, (slotOfClip_iff s c n).mpr hx⟩, Bool.true_or]

/-- No chunk of the clip waits in the port's write queue, and none is being written. -/
theorem not_clipAtDest (hqueued : ∀ n ∈ (s.dest d).writeQueue, ∀ x ∈ s.slot n, x.clip ≠ c)
    (hwriting : ∀ n m a, (s.dest d).op = some (.write n m a) → ∀ x ∈ s.slot n, x.clip ≠ c) : clipAtDest s c d = false := by
  have hno {n : Nat} (h : ∀ x ∈ s.slot n, x.clip ≠ c) : slotOfClip s c n = false :=
    Bool.eq_false_iff.mpr fun hslot => by
      obtain ⟨x, hx, hc⟩ := (slotOfClip_iff s c n).mp hslot
      exact h x hx hc
  have hqueue : (s.dest d).writeQueue.any (slotOfClip s c) = false := List.any_eq_false.mpr fun n hn => by simp [hno (hqueued n hn)]
  rw [clipAtDest, hqueue, Bool.false_or]
  split
  next n m a hop => exact hno (hwriting n m a hop)
  · rfl

/-- CLIP_RECOPY: once the clip, the copy and the port pass the checks, the drive and the chunks still to be written decide (R139). -/
theorem clipRecopy_eq (hclip : s.clip c = some k) (hj : s.job k.job = some j) (hst : j.state ≠ .closing)
    (hd : j.destSet.getLsbD d.val = true) (hstaged : k.sourceState = .staged) (hcopy : (k.copy d).recopyable = true)
    (hbound : j.binding ≠ none) (honline : (s.dest d).state = .online) :
    clipRecopy (c, d.val) (s.taken f rest) =
      if (s.dest d).identity ≠ j.destId d then (statusOnly .wrongMedium, s.taken f rest)
      else if clipAtDest s c d then (statusOnly .busy, s.taken f rest)
      else (statusOnly .ok, recopy c k j d (s.taken f rest)) := by
  have honline' : ((s.taken f rest).dest d).state = .online := honline
  rw [clipRecopy, withClip_live hclip hj]
  simp only [recopyDest_val hd, if_neg hst, if_neg (not_not.mpr hstaged), hcopy, Bool.true_eq_false, if_false, if_neg hbound,
    if_neg (not_not.mpr honline')]
  rfl

/-- The clip whose copy on `d` is to be written again (R139). -/
def Clip.recopied (k : Clip) (d : Dest) : Clip :=
  { k.setCopy d ⟨.pending, 0, false, .none⟩ with recopySet := dinsert k.recopySet d }

/-- The job to whose recopy list the clip `c` belongs from now on (R139). -/
def Job.recopying (j : Job) (c : Nat) : Job :=
  { j with
    recopy := if c ∈ j.recopy then j.recopy else j.recopy ++ [c]
    state := if j.state = .drained then .reading else j.state }

theorem recopying_state (hst : j.state ≠ .closing) (c : Nat) : (j.recopying c).state = .reading := by
  cases h : j.state with
  | closing => exact absurd h hst
  | reading => simp [Job.recopying, h]
  | drained => simp [Job.recopying, h]

/-- What CLIP_RECOPY makes of the records: the copy is PENDING afresh, the clip is on the recopy list, and the job is evaluated. -/
theorem recopy_spec (c : Nat) (k : Clip) (j : Job) (d : Dest) (s : State) :
    ∃ clear attention, (recopy c k j d s).clip c = some (k.recopied d) ∧
      (recopy c k j d s).job k.job = some { j.recopying c with clearable := clear, attention := attention } ∧
      (∀ i, i ≠ c → (recopy c k j d s).clip i = s.clip i) ∧ (∀ i, i ≠ k.job → (recopy c k j d s).job i = s.job i) ∧
      (recopy c k j d s).slots = s.slots ∧ (recopy c k j d s).dests = s.dests ∧ (recopy c k j d s).verifyQueue = s.verifyQueue := by
  obtain ⟨clear, attention, _, _, _, _, _, heval, hself, hother⟩ :=
    evalJob_spec (setJob_job_self (setClip s c (k.recopied d)) k.job (j.recopying c))
  have hrecopy : recopy c k j d s = refresh (evalJob (setJob (setClip s c (k.recopied d)) k.job (j.recopying c)) k.job) := rfl
  rw [hrecopy, heval]
  exact ⟨clear, attention, setClip_clip_self s c _, hself, fun i hi => setClip_clip_of_ne s hi _,
    fun i hi => (hother i hi).trans (setJob_job_of_ne (setClip s c (k.recopied d)) hi _), rfl, rfl, rfl⟩

end

/-- Settles O33: each owner by its last checks (`clipReverify_dest`, `clipReverify_source`, `clipRecopy_eq`), and what a taken request makes of
the records (`reverify_spec`, `recopy_spec`). -/
theorem reverifyAndRecopy : Obligations.ReverifyAndRecopy := by
  constructor
  · intro s f rest b0 b1 sel c k j ho hk hp hc hclip hj hst
    have hread : readHandleAndCode f.payload = some (c, sel.toNat) := hp ▸ hc ▸ readHandleAndCode_three b0 b1 sel
    have hgo (st : Status) {u : State} (hown : clipReverify (c, sel.toNat) (s.taken f rest) = (statusOnly st, u)) :
        exec .clipReverify s = .next (sendFrame ⟨0x9E, f.tag, [BitVec.ofNat 8 st.code]⟩ u) :=
      congrArg Host.Outcome.next (serve_answer ho hk hread hown)
    refine ⟨fun d hsel hd hcopy honline => ?_, fun hsel hsv hbound => ?_⟩
    · have hown := clipReverify_dest (f := f) (rest := rest) hclip hj hst hd ((reverifiable_iff _).mpr hcopy) honline
      rw [hsel] at hown
      refine ⟨fun hdrive => hgo .wrongMedium (hown.trans (if_pos hdrive)), fun hdrive => ?_⟩
      obtain ⟨hqueue, hself, hother, ⟨j', hj', hstate⟩, hdests, hslots⟩ := reverify_spec (s := s.taken f rest) hj c (.dest d)
      refine ⟨_, hgo .ok (hown.trans (if_neg (not_not.mpr hdrive))), sendFrame_replyOut _ _, ?_⟩
      simp only [sendFrame_verifyQueue, sendFrame_clip, sendFrame_job, sendFrame_dests, sendFrame_slots, hqueue, hself, hj']
      exact ⟨rfl, rfl, hother, fun _ hx => Option.some.inj hx ▸ hstate, hdests, hslots⟩
    · obtain ⟨hqueue, hself, hother, _, hdests, hslots⟩ := reverify_spec (s := s.taken f rest) hj c .source
      refine ⟨_, hgo .ok (hsel ▸ clipReverify_source hclip hj hst hsv hbound), sendFrame_replyOut _ _, ?_⟩
      simp only [sendFrame_verifyQueue, sendFrame_clip, sendFrame_dests, sendFrame_slots, hqueue, hself]
      exact ⟨rfl, rfl, hother, hdests, hslots⟩
  · intro s f rest b0 b1 sel c k j d ho hk hp hc hclip hj hst hsel hd hstaged hcopy hbound honline
    have hread : readHandleAndCode f.payload = some (c, d.val) := hp ▸ hc ▸ hsel ▸ readHandleAndCode_three b0 b1 sel
    have hgo (st : Status) {u : State} (hown : clipRecopy (c, d.val) (s.taken f rest) = (statusOnly st, u)) :
        exec .clipRecopy s = .next (sendFrame ⟨0x9D, f.tag, [BitVec.ofNat 8 st.code]⟩ u) :=
      congrArg Host.Outcome.next (serve_answer ho hk hread hown)
    have hown := clipRecopy_eq (f := f) (rest := rest) hclip hj hst hd hstaged ((recopyable_iff _).mpr hcopy) hbound honline
    refine ⟨fun hdrive => hgo .wrongMedium (hown.trans (if_pos hdrive)), fun hdrive => ?_⟩
    rw [if_neg (not_not.mpr hdrive)] at hown
    refine ⟨fun hqueued => hgo .busy (hown.trans (if_pos (clipAtDest_of_queued hqueued))), fun hqueued hwriting => ?_⟩
    rw [not_clipAtDest hqueued hwriting] at hown
    obtain ⟨clear, attention, hself, hjob, hother, hjobs, hslots, hdests, hqueue⟩ := recopy_spec c k j d (s.taken f rest)
    refine ⟨_, _, hgo .ok hown, sendFrame_replyOut _ _, (sendFrame_clip _ _ _).trans hself, (sendFrame_job _ _ _).trans hjob,
      recopying_state hst c, rfl, rfl, rfl, ?_⟩
    simp only [sendFrame_clip, sendFrame_job, sendFrame_slots, sendFrame_dests, sendFrame_verifyQueue]
    exact ⟨hother, hjobs, hslots, hdests, hqueue⟩

end Sys2Proof.Machine
end

section
/-! SUPPORT. The accounts of the jobs (R142 to R145): what an evaluation reads of a clip, the stages of an event in which some jobs are still
to be evaluated, and the rules of those stages for the changes of the block's records. -/

namespace Sys2Proof.Machine

-- One theorem at a time: checking them all at once needs more threads than the sandbox gives.
set_option Elab.async false

open Sys2Proof

/-! ### What an evaluation reads -/

/-- What R143 and R144 read of a clip. -/
def Clip.account (k : Clip) : SourceState × Vector Copy 4 × SvState := (k.sourceState, k.copies, k.sv)

/-- A job's clearable and attention fields are what its evaluation would make of them, or it is CLOSING (R47, R145). -/
def State.Current (t : State) (j : Job) : Prop :=
  j.state ≠ .closing → j.clearable = clearableMet t j ∧ j.attention = attentionMet t j

/-- A BUILDING clip has no copy and no source verify (R49). -/
def Clip.Unbegun (k : Clip) : Prop := k.sourceState = .building → (∀ d, (k.copy d).state = .none) ∧ k.sv = .off

/-- A destination's awaiting-flush list and flush name committed clips (R110, R111). -/
def DestPort.NamesCommitted (t : State) (x : DestPort) : Prop :=
  (∀ c ∈ x.awaiting, t.IsCommitted c) ∧ ∀ o ∈ x.op, ∀ c ∈ o.covers, t.IsCommitted c

theorem committed_iff {s : State} {c i : Nat} :
    s.Committed c i ↔ ∃ k, s.clip c = some k ∧ k.job = i ∧ k.sourceState ≠ .building := by
  cases hk : s.clip c <;> simp [State.Committed, hk]

theorem isCommitted_iff {s : State} {c : Nat} : s.IsCommitted c ↔ ∃ i, s.Committed c i := by
  cases hk : s.clip c <;> simp [State.IsCommitted, committed_iff, hk]

/-- A committed clip's record. -/
theorem record_of_committed {s : State} {c i : Nat} {k : Clip} (h : s.Committed c i) (hk : s.clip c = some k) :
    k.job = i ∧ k.sourceState ≠ .building := by
  obtain ⟨k', hk', hrecord⟩ := committed_iff.mp h
  obtain rfl := Option.some.inj (hk'.symm.trans hk)
  exact hrecord

theorem account_eq_iff {k k' : Clip} : k'.account = k.account ↔ k'.sourceState = k.sourceState ∧ k'.copies = k.copies ∧ k'.sv = k.sv := by
  simp [Clip.account]

/-- Tests that agree on clips of one account. -/
theorem any_account {p p' : Clip → Bool} {o o' : Option Clip} (hp : ∀ k k' : Clip, k'.account = k.account → p' k' = p k)
    (h : o'.map Clip.account = o.map Clip.account) : o'.any p' = o.any p := by
  cases o <;> cases o' <;> simp at h
  · rfl
  · exact hp _ _ h

theorem needsAttention_account {k k' : Clip} (h : k'.account = k.account) : k'.needsAttention = k.needsAttention := by
  obtain ⟨hsource, hcopies, hsv⟩ := account_eq_iff.mp h
  simp [Clip.needsAttention, hsource, hcopies, hsv]

theorem proven_account {k k' : Clip} {j j' : Job} (hk : j.Kept j') (h : k'.account = k.account) : k'.proven j' = k.proven j := by
  obtain ⟨hsource, hcopies, hsv⟩ := account_eq_iff.mp h
  simp [Clip.proven, Clip.verified, hsource, hcopies, hsv, hk.required, hk.sourceVerify]

/-- The evaluation of a kept job reads the accounts of the clips on its order list, and nothing else. -/
theorem State.Current.congr {t u : State} {j j' : Job} (h : t.Current j) (hk : j.Kept j')
    (hc : ∀ c ∈ j.order, (u.clip c).map Clip.account = (t.clip c).map Clip.account) : u.Current j' := by
  intro hopen
  obtain ⟨hclear, hattention⟩ := h (hk.state ▸ hopen)
  rw [hk.clearable, hk.attention, hclear, hattention, clearableMet, clearableMet, attentionMet, attentionMet, hk.state, hk.order]
  refine ⟨congrArg (decide (j.state = .drained) && ·) ?_, ?_⟩ <;> rw [Bool.eq_iff_iff]
  · simp only [List.all_eq_true]
    exact forall₂_congr fun c hm => by rw [any_account (fun _ _ => proven_account hk) (hc c hm)]
  · simp only [List.any_eq_true]
    exact exists_congr fun c => and_congr_right fun hm => by rw [any_account (fun _ _ => needsAttention_account) (hc c hm)]

/-! ### The stages of an event -/

/-- State `t` is a stage of an event that began in `s`: the clips committed in `s` are so still, what the block's lists, slots, readers,
engines and ports name are committed clips, and the fields of every job are current but for the jobs `due`, which the event is still to
evaluate. -/
structure Stage (due : Nat → Prop) (s t : State) : Prop where
  committed : ∀ c i, s.Committed c i → t.Committed c i
  listed : ∀ i j, t.job i = some j → ∀ c, c ∈ j.order ∨ c ∈ j.recopy → t.Committed c i
  chunks : ∀ p : Port, ∀ c ∈ (t.reader p).chunk, t.Committed c.clip c.job
  slots : ∀ e ∈ t.slots, t.Committed e.2.clip e.2.job
  tasks : ∀ e : EngineIx, ∀ u ∈ (t.engine e).task, t.Committed u.1.clip u.2
  queue : ∀ u ∈ t.verifyQueue, t.IsCommitted u.clip
  dests : ∀ d : Dest, (t.dest d).NamesCommitted t
  unbegun : ∀ e ∈ t.clips, e.2.Unbegun
  current : ∀ i j, t.job i = some j → ¬ due i → t.Current j

/-- The block between two events: no evaluation is due. -/
def State.Balanced (t : State) : Prop := Stage (fun _ => False) t t

section
variable {due due' : Nat → Prop} {s t u : State}

/-- A stage is the beginning of what is left of the event. -/
theorem Stage.here (h : Stage due s t) : Stage due t t := { h with committed := fun _ _ => id }

theorem Stage.balanced (h : Stage (fun _ => False) s t) : t.Balanced := h.here

theorem Stage.trans (h : Stage due s t) (k : Stage due' t u) : Stage due' s u :=
  { k with committed := fun c i hc => k.committed c i (h.committed c i hc) }

/-- The jobs that are due may be narrowed to those whose fields may not be current. -/
theorem Stage.narrow (h : Stage due s t) (hd : ∀ i j, t.job i = some j → due i → ¬ due' i → t.Current j) : Stage due' s t :=
  { h with current := fun i j hj hi => (Classical.em (due i)).elim (fun hdue => hd i j hj hdue hi) (h.current i j hj) }

/-- An event begins. -/
theorem State.Balanced.begin (h : t.Balanced) : Stage due t t := Stage.narrow h fun _ _ _ hf => hf.elim

/-- Every live job is among the live jobs. -/
theorem Stage.all_live (h : Stage due s t) : Stage (· ∈ liveJobs t) s t :=
  h.narrow fun _ _ hj _ hi => absurd (mem_keys_of_lookup hj) hi

theorem Stage.after_if (h : Stage due s t) (k : Stage due s u) {c : Prop} [Decidable c] : Stage due s (if c then t else u) := by
  split
  · exact h
  · exact k

theorem Stage.after_foldl_mem {α : Type} {g : State → α → State} {l : List α} (h : Stage due s t)
    (step : ∀ u, ∀ a ∈ l, Stage due s u → Stage due s (g u a)) : Stage due s (l.foldl g t) := by
  induction l generalizing t with
  | nil => exact h
  | cons a l ih => exact ih (step t a (by simp) h) fun u b hb => step u b (by simp [hb])

theorem Stage.after_foldl {α : Type} {g : State → α → State} (h : Stage due s t) (step : ∀ u a, Stage due s u → Stage due s (g u a))
    (l : List α) : Stage due s (l.foldl g t) :=
  h.after_foldl_mem fun u a _ => step u a

theorem State.Balanced.after_if (h : t.Balanced) (k : u.Balanced) {c : Prop} [Decidable c] : (if c then t else u).Balanced := by
  split
  · exact h
  · exact k

/-! ### Changes of the fields -/

/-- No account reads the line, the card ports, the survey, the free slots, the memory, the monitors and the settings. -/
theorem Stage.after_rest (h : Stage due s t) {resetLow rate : Bool} {rx : Receiver} {inbound : List Frame}
    {dispatch waitingReply sending : Option Frame} {resetPending : Bool} {linkFlags : LinkFlags} {cfg : Settings} {ports : Vector CardPort 8}
    {surveyQueue : List Port} {survey : Option Survey} {known : List (BitVec 64)} {freeSlots : List Nat} {lastGranted : Port}
    {mem : List Host.Cell} {portUse : Vector PortUse 8} {windowPeriod windowStart windowCount : Nat} {monitors : Vector Monitor 4}
    {notices : List Notice} {missed : BitVec 32} {expiryCount now : Nat} {pending : List Instr} :
    Stage due s { t with
      resetLow := resetLow, rate := rate, rx := rx, inbound := inbound, dispatch := dispatch, waitingReply := waitingReply,
      sending := sending, resetPending := resetPending, linkFlags := linkFlags, cfg := cfg, ports := ports, surveyQueue := surveyQueue,
      survey := survey, known := known, freeSlots := freeSlots, lastGranted := lastGranted, mem := mem, portUse := portUse,
      windowPeriod := windowPeriod, windowStart := windowStart, windowCount := windowCount, monitors := monitors, notices := notices,
      missed := missed, expiryCount := expiryCount, now := now, pending := pending } :=
  ⟨h.committed, h.listed, h.chunks, h.slots, h.tasks, h.queue, h.dests, h.unbegun, h.current⟩

theorem Stage.after_readers (h : Stage due s t) {readers : Vector Reader 8}
    (hr : ∀ p : Port, ∀ c ∈ readers[p.val].chunk, t.Committed c.clip c.job) : Stage due s { t with readers := readers } :=
  ⟨h.committed, h.listed, hr, h.slots, h.tasks, h.queue, h.dests, h.unbegun, h.current⟩

theorem Stage.after_slots (h : Stage due s t) {slots : Table Slot} (hs : ∀ e ∈ slots, t.Committed e.2.clip e.2.job) :
    Stage due s { t with slots := slots } :=
  ⟨h.committed, h.listed, h.chunks, hs, h.tasks, h.queue, h.dests, h.unbegun, h.current⟩

theorem Stage.after_engines (h : Stage due s t) {engines : Vector Engine 2}
    (he : ∀ e : EngineIx, ∀ u ∈ engines[e.val].task, t.Committed u.1.clip u.2) : Stage due s { t with engines := engines } :=
  ⟨h.committed, h.listed, h.chunks, h.slots, he, h.queue, h.dests, h.unbegun, h.current⟩

theorem Stage.after_queue (h : Stage due s t) {q : List Task} (hq : ∀ u ∈ q, t.IsCommitted u.clip) :
    Stage due s { t with verifyQueue := q } :=
  ⟨h.committed, h.listed, h.chunks, h.slots, h.tasks, hq, h.dests, h.unbegun, h.current⟩

theorem Stage.after_dests (h : Stage due s t) {dests : Vector DestPort 4} (hd : ∀ d : Dest, dests[d.val].NamesCommitted t) :
    Stage due s { t with dests := dests } :=
  ⟨h.committed, h.listed, h.chunks, h.slots, h.tasks, h.queue, hd, h.unbegun, h.current⟩

theorem Stage.after_jobs (h : Stage due s t) {jobs : Table Job}
    (hl : ∀ i j, lookup jobs i = some j → ∀ c, c ∈ j.order ∨ c ∈ j.recopy → t.Committed c i)
    (hc : ∀ i j, lookup jobs i = some j → ¬ due' i → t.Current j) : Stage due' s { t with jobs := jobs } :=
  ⟨h.committed, hl, h.chunks, h.slots, h.tasks, h.queue, h.dests, h.unbegun, hc⟩

/-- A change of the clip table that keeps what is committed, begins no BUILDING clip, and moves the accounts of due jobs' clips alone. -/
theorem Stage.after_clips (h : Stage due s t) {clips : Table Clip} (hc : ∀ c i, t.Committed c i → { t with clips := clips }.Committed c i)
    (hb : ∀ e ∈ clips, e.2.Unbegun)
    (ha : ∀ c i, t.Committed c i → ¬ due i → (lookup clips c).map Clip.account = (t.clip c).map Clip.account) :
    Stage due s { t with clips := clips } := by
  have his (c : Nat) (hi : t.IsCommitted c) : { t with clips := clips }.IsCommitted c := by
    obtain ⟨i, hi⟩ := isCommitted_iff.mp hi
    exact isCommitted_iff.mpr ⟨i, hc c i hi⟩
  exact ⟨fun c i hi => hc c i (h.committed c i hi), fun i j hj c hm => hc c i (h.listed i j hj c hm), fun p c hm => hc _ _ (h.chunks p c hm),
    fun e he => hc _ _ (h.slots e he), fun e u hu => hc _ _ (h.tasks e u hu), fun u hu => his _ (h.queue u hu),
    fun d => ⟨fun c hm => his c ((h.dests d).1 c hm), fun o ho c hm => his c ((h.dests d).2 o ho c hm)⟩, hb,
    fun i j hj hi => (h.current i j hj hi).congr (.refl j) fun c hm => ha c i (h.listed i j hj c (.inl hm)) hi⟩

/-! ### Readers, slots and engines -/

/-- A reader whose chunk read, if it has one, is of a committed clip. -/
theorem Stage.after_setReader_chunk (h : Stage due s t) {p : Port} {x : Reader} (hx : ∀ c ∈ x.chunk, t.Committed c.clip c.job) :
    Stage due s (setReader t p x) := by
  refine h.after_readers fun q c hc => ?_
  change c ∈ ((setReader t p x).reader q).chunk at hc
  by_cases hq : q = p
  · subst hq
    rw [setReader_reader_self] at hc
    exact hx c hc
  · rw [setReader_reader_of_ne _ hq] at hc
    exact h.chunks q c hc

/-- A reader that keeps its chunk read. -/
theorem Stage.after_setReader (h : Stage due s t) {p : Port} {x : Reader} (hx : x.chunk = (t.reader p).chunk := by rfl) :
    Stage due s (setReader t p x) :=
  h.after_setReader_chunk fun c hc => h.chunks p c (hx ▸ hc)

/-- A reader whose chunk read is over. -/
theorem Stage.after_setReader_none (h : Stage due s t) {p : Port} {x : Reader} (hx : x.chunk = none := by rfl) :
    Stage due s (setReader t p x) :=
  h.after_setReader_chunk fun c hc => by simp [hx] at hc

theorem Stage.after_setSlot (h : Stage due s t) {n : Nat} {x : Slot} (hx : t.Committed x.clip x.job) : Stage due s (setSlot t n x) := by
  refine h.after_slots fun e he => ?_
  rcases mem_store he with rfl | he
  · exact hx
  · exact h.slots e he

theorem Stage.after_modSlot (h : Stage due s t) {n : Nat} {f : Slot → Slot} (hc : ∀ x, (f x).clip = x.clip := by exact fun _ => rfl)
    (hj : ∀ x, (f x).job = x.job := by exact fun _ => rfl) : Stage due s (modSlot n f t) := by
  unfold modSlot
  split
  next x hx => exact h.after_setSlot (hc x ▸ hj x ▸ h.slots (n, x) (mem_of_lookup hx))
  · exact h

theorem Stage.after_freeSlot (h : Stage due s t) {n : Nat} : Stage due s (freeSlot n t) := by
  have hslots : Stage due s { t with slots := erase t.slots n } := h.after_slots fun e he => h.slots e (List.mem_filter.mp he).1
  exact hslots.after_rest

theorem Stage.after_freeIfDone (h : Stage due s t) {n : Nat} : Stage due s (freeIfDone n t) := by
  unfold freeIfDone
  split
  · exact h.after_freeSlot.after_if h
  · exact h

/-- An engine whose task, if it has one, is of a committed clip of the task's job. -/
theorem Stage.after_setEngine_task (h : Stage due s t) {e : EngineIx} {x : Engine} (hx : ∀ u ∈ x.task, t.Committed u.1.clip u.2) :
    Stage due s (setEngine t e x) := by
  refine h.after_engines fun f u hu => ?_
  change u ∈ ((setEngine t e x).engine f).task at hu
  by_cases hf : f = e
  · subst hf
    rw [setEngine_engine_self] at hu
    exact hx u hu
  · rw [setEngine_engine_of_ne _ hf] at hu
    exact h.tasks f u hu

/-- An engine that keeps its task. -/
theorem Stage.after_setEngine (h : Stage due s t) {e : EngineIx} {x : Engine} (hx : x.task = (t.engine e).task := by rfl) :
    Stage due s (setEngine t e x) :=
  h.after_setEngine_task fun u hu => h.tasks e u (hx ▸ hu)

theorem Stage.after_freeEngine (h : Stage due s t) {e : EngineIx} : Stage due s (freeEngine e t) :=
  h.after_setEngine_task fun u hu => by simp [Engine.idle] at hu

/-! ### Destination ports -/

theorem Stage.after_setDest_names (h : Stage due s t) {d : Dest} {x : DestPort} (hx : x.NamesCommitted t) : Stage due s (setDest t d x) := by
  refine h.after_dests fun e => ?_
  change ((setDest t d x).dest e).NamesCommitted t
  by_cases he : e = d
  · subst he
    rwa [setDest_dest_self]
  · rw [setDest_dest_of_ne _ he]
    exact h.dests e

/-- A port that keeps its awaiting-flush list, or part of it, and its operation. -/
theorem Stage.after_setDest (h : Stage due s t) {d : Dest} {x : DestPort} (ha : x.awaiting ⊆ (t.dest d).awaiting := by exact List.Subset.refl _)
    (ho : x.op = (t.dest d).op := by rfl) : Stage due s (setDest t d x) :=
  h.after_setDest_names ⟨fun c hc => (h.dests d).1 c (ha hc), ho ▸ (h.dests d).2⟩

/-- A port that keeps its awaiting-flush list, or part of it, and whose operation is no flush. -/
theorem Stage.after_setDest_op (h : Stage due s t) {d : Dest} {x : DestPort}
    (ha : x.awaiting ⊆ (t.dest d).awaiting := by exact List.Subset.refl _) (ho : ∀ o ∈ x.op, o.covers = [] := by simp [DestOp.covers]) :
    Stage due s (setDest t d x) :=
  h.after_setDest_names ⟨fun c hc => (h.dests d).1 c (ha hc), fun o hm c hc => by simp [ho o hm] at hc⟩

/-! ### Job records -/

/-- A record stored for job `i` makes the job due, or is current. -/
theorem Stage.after_setJob_due (h : Stage due s t) {i : Nat} {j : Job} (hl : ∀ c, c ∈ j.order ∨ c ∈ j.recopy → t.Committed c i)
    (hd : ∀ r, r ≠ i → due r → due' r) (hc : ¬ due' i → t.Current j) : Stage due' s (setJob t i j) := by
  have hread {r : Nat} {x : Job} (hx : lookup (store t.jobs i j) r = some x) : (r = i ∧ x = j) ∨ (r ≠ i ∧ t.job r = some x) := by
    by_cases hr : r = i
    · subst hr
      exact .inl ⟨rfl, (Option.some.inj ((lookup_store_self t.jobs r j).symm.trans hx)).symm⟩
    · exact .inr ⟨hr, (lookup_store_of_ne _ hr _).symm.trans hx⟩
  refine h.after_jobs (fun r x hx => ?_) fun r x hx hr => ?_
  · rcases hread hx with ⟨rfl, rfl⟩ | ⟨_, hx⟩
    · exact hl
    · exact h.listed r x hx
  · rcases hread hx with ⟨rfl, rfl⟩ | ⟨hne, hx⟩
    · exact hc hr
    · exact h.current r x hx fun hdue => hr (hd r hne hdue)

/-- A live job's record that changes in nothing the evaluation reads. -/
theorem Stage.after_setJob (h : Stage due s t) {i : Nat} {j j' : Job} (hj : t.job i = some j) (hk : j.Kept j')
    (hr : j'.recopy ⊆ j.recopy := by exact List.Subset.refl _) : Stage due s (setJob t i j') :=
  h.after_setJob_due (fun c hc => h.listed i j hj c (hc.imp (hk.order ▸ ·) (hr ·))) (fun _ _ => id)
    fun hi => (h.current i j hj hi).congr hk fun _ _ => rfl

theorem Stage.after_modJob (h : Stage due s t) {i : Nat} {f : Job → Job} (hk : ∀ j : Job, j.Kept (f j))
    (hr : ∀ j, (f j).recopy ⊆ j.recopy := by exact fun _ => List.Subset.refl _) : Stage due s (modJob i f t) := by
  unfold modJob
  split
  next j hj => exact h.after_setJob hj (hk j) (hr j)
  · exact h

/-- A change of every job record in place. -/
theorem Stage.after_mapJobs (h : Stage due s t) {f : Nat → Job → Job} (hk : ∀ i (j : Job), j.Kept (f i j))
    (hr : ∀ i j, (f i j).recopy = j.recopy := by exact fun _ _ => rfl) :
    Stage due s { t with jobs := t.jobs.map (fun e => (e.1, f e.1 e.2)) } := by
  have hread {i : Nat} {x : Job} (hx : lookup (t.jobs.map (fun e => (e.1, f e.1 e.2))) i = some x) : ∃ j, t.job i = some j ∧ f i j = x :=
    Option.map_eq_some_iff.mp ((lookup_map f t.jobs i).symm.trans hx)
  refine h.after_jobs (fun i x hx c hc => ?_) fun i x hx hi => ?_
  · obtain ⟨j, hj, rfl⟩ := hread hx
    exact h.listed i j hj c (hc.imp ((hk i j).order ▸ ·) (hr i j ▸ ·))
  · obtain ⟨j, hj, rfl⟩ := hread hx
    exact (h.current i j hj hi).congr (hk i j) fun _ _ => rfl

/-! ### Clip records -/

/-- A record stored under a clip's number: the clip stays its job's, is not BUILDING again, and its account moves only if its job is due or it
was BUILDING. -/
theorem Stage.after_setClip (h : Stage due s t) {c : Nat} {k k' : Clip} (hk : t.clip c = some k) (hj : k'.job = k.job)
    (hs : k.sourceState ≠ .building → k'.sourceState ≠ .building) (hb : k'.Unbegun)
    (ha : ¬ due k.job → k.sourceState ≠ .building → k'.account = k.account) : Stage due s (setClip t c k') := by
  refine h.after_clips (fun n i hn => ?_) (fun e he => ?_) fun n i hn hi => ?_
  · obtain ⟨x, hx, hjob, hsource⟩ := committed_iff.mp hn
    refine committed_iff.mpr ?_
    by_cases hnc : n = c
    · subst hnc
      obtain rfl := Option.some.inj (hk.symm.trans hx)
      exact ⟨k', lookup_store_self _ _ _, hj.trans hjob, hs hsource⟩
    · exact ⟨x, (lookup_store_of_ne _ hnc _).trans hx, hjob, hsource⟩
  · rcases mem_store he with rfl | he
    · exact hb
    · exact h.unbegun e he
  · by_cases hnc : n = c
    · subst hnc
      obtain ⟨hjob, hsource⟩ := record_of_committed hn hk
      rw [lookup_store_self, hk, Option.map_some, Option.map_some, ha (hjob ▸ hi) hsource]
    · rw [lookup_store_of_ne _ hnc]
      rfl

/-- A committed clip of a due job changes; it stays committed and its job's. -/
theorem Stage.after_setClip_due (h : Stage due s t) {c i : Nat} {k k' : Clip} (hc : s.Committed c i) (hi : due i) (hk : t.clip c = some k)
    (hj : k'.job = k.job := by rfl) (hs : k.sourceState ≠ .building → k'.sourceState ≠ .building := by exact id) :
    Stage due s (setClip t c k') := by
  obtain ⟨hjob, hsource⟩ := record_of_committed (h.committed c i hc) hk
  exact h.after_setClip hk hj hs (fun hb => absurd hb (hs hsource)) fun hn => absurd (hjob ▸ hi) hn

theorem Stage.after_modClip (h : Stage due s t) {c i : Nat} {f : Clip → Clip} (hc : s.Committed c i) (hi : due i)
    (hj : ∀ k, (f k).job = k.job := by exact fun _ => rfl)
    (hs : ∀ k, k.sourceState ≠ .building → (f k).sourceState ≠ .building := by exact fun _ => id) : Stage due s (modClip c f t) := by
  unfold modClip
  split
  next k hk => exact h.after_setClip_due hc hi hk (hj k) (hs k)
  · exact h

/-- A new clip is BUILDING (R50). -/
theorem Stage.after_newClip (h : Stage due s t) {c : Nat} {k : Clip} (hfree : t.clip c = none) (hb : k.Unbegun) : Stage due s (setClip t c k) := by
  have hne {n i : Nat} (hn : t.Committed n i) : n ≠ c := by
    rintro rfl
    simp [State.Committed, hfree] at hn
  refine h.after_clips (fun n i hn => ?_) (fun e he => ?_) fun n i hn _ => ?_
  · have hsame : lookup (store t.clips c k) n = t.clip n := lookup_store_of_ne _ (hne hn) _
    rwa [State.Committed, State.clip, hsame]
  · rcases mem_store he with rfl | he
    · exact hb
    · exact h.unbegun e he
  · rw [lookup_store_of_ne _ (hne hn)]
    rfl

end

end Sys2Proof.Machine
end

section
/-! SUPPORT. The stages of an event, continued: the rules of the shared operations, and the tests at an event's end, which evaluate every job
that is due (R38, R46, R145, R156). -/

namespace Sys2Proof.Machine

-- One theorem at a time: checking them all at once needs more threads than the sandbox gives.
set_option Elab.async false

open Sys2Proof

section
variable {due due' : Nat → Prop} {s t u : State}

/-! ### The line, the links and the card ports -/

theorem Stage.after_pump (h : Stage due s t) : Stage due s (pump t) := by
  rw [pump_frame]
  exact h.after_rest

theorem Stage.after_notify (h : Stage due s t) {n : Notice} : Stage due s (notify n t) := by
  rw [notify_frame]
  exact h.after_rest

theorem Stage.after_sendFrame (h : Stage due s t) {r : Frame} : Stage due s (sendFrame r t) := by
  rw [sendFrame_frame]
  have hdispatch : Stage due s { t with dispatch := none } := h.after_rest
  exact hdispatch.after_rest

theorem Stage.after_tellAll (h : Stage due s t) {ns : List Notice} : Stage due s (tellAll ns t) :=
  h.after_foldl (fun _ _ hu => hu.after_notify) ns

theorem Stage.after_setPort (h : Stage due s t) {p : Port} {x : CardPort} : Stage due s (setPort t p x) := h.after_rest

theorem Stage.after_setMonitor (h : Stage due s t) {d : Dest} {x : Monitor} : Stage due s (setMonitor t d x) := h.after_rest

theorem Stage.after_clearCard (h : Stage due s t) {p : Port} : Stage due s (clearCard p t) := h.after_setPort

theorem Stage.after_cardKick (h : Stage due s t) {p : Port} : Stage due s (cardKick p t) := by
  obtain ⟨_, e⟩ := cardKick_frame t p
  rw [e]
  exact h.after_rest

theorem Stage.after_abandonCard (h : Stage due s t) {p : Port} : Stage due s (abandonCard p t) := by
  obtain ⟨_, e⟩ := abandonCard_frame t p
  rw [e]
  exact h.after_rest

theorem Stage.after_clearBridge (h : Stage due s t) {d : Dest} : Stage due s (clearBridge d t) := h.after_setDest

theorem Stage.after_bridgeSend (h : Stage due s t) {d : Dest} {ask : Option BridgeAsk} {again : Bool} :
    Stage due s (bridgeSend d ask again t) := by
  unfold bridgeSend
  split
  · exact h.after_setDest
  · exact h

theorem Stage.after_bridgeKick (h : Stage due s t) {d : Dest} : Stage due s (bridgeKick d t) := by
  unfold bridgeKick
  split
  · exact h
  · split
    · exact h.after_bridgeSend
    · split
      · exact h.after_bridgeSend
      · exact h
    · exact h

/-- What follows the state of the ports keeps every reader's chunk read (R23, R65). -/
theorem Stage.after_refresh (h : Stage due s t) : Stage due s (refresh t) := by
  have hreaders : Stage due s { t with readers := (refresh t).readers } := by
    refine h.after_readers fun p c hc => ?_
    change c ∈ ((refresh t).reader p).chunk at hc
    rw [refresh_reader] at hc
    exact h.chunks p c hc
  exact hreaders.after_rest

/-! ### Holds (R159, R163) -/

theorem withHolds_recopy (j : Job) (soft hard : DestSet) : (j.withHolds soft hard).recopy = j.recopy := by
  unfold Job.withHolds
  extract_lets j'
  split <;> rfl

theorem heldBy_recopy (d : Dest) (hard : Bool) (j : Job) : (j.heldBy d hard).recopy = j.recopy := by
  unfold Job.heldBy
  split
  · split <;> exact withHolds_recopy _ _ _
  · rfl

theorem Stage.after_dropHolds (h : Stage due s t) {d : Dest} {soft hard : Bool} : Stage due s (dropHolds d soft hard t) :=
  h.after_mapJobs (f := fun _ j =>
    j.withHolds (if soft then derase j.softHold d else j.softHold) (if hard then derase j.hardHold d else j.hardHold))
    (fun _ _ => withHolds_kept _ _ _) fun _ _ => withHolds_recopy _ _ _

theorem Stage.after_addHolds (h : Stage due s t) {d : Dest} {hard : Bool} : Stage due s (addHolds d hard t) := by
  rw [addHolds_eq]
  exact h.after_mapJobs (f := fun _ j => j.heldBy d hard) (fun _ j => heldBy_kept d hard j) fun _ j => heldBy_recopy d hard j

theorem Stage.after_seeBacklog (h : Stage due s t) {d : Dest} : Stage due s (seeBacklog t d) := by
  have hholds (m x : Monitor) : Stage due s (crossingHolds d m (setMonitor t d x)) := by
    unfold crossingHolds
    split
    · exact h.after_setMonitor.after_addHolds
    · exact h.after_setMonitor.after_addHolds
    · exact h.after_setMonitor
  unfold seeBacklog
  exact .after_if h (.after_if (.after_if h.after_setMonitor (hholds _ _)) h.after_setMonitor)

/-! ### Copies and recopy sets -/

/-- A cancelled pass leaves every chunk read with its clip (R82). -/
theorem Stage.after_cancelPass (h : Stage due s t) {c : Nat} : Stage due s (cancelPass c t) := by
  refine h.after_readers fun p x hx => ?_
  rw [Vector.getElem_map] at hx
  obtain ⟨y, hy, rfl⟩ := Option.map_eq_some_iff.mp hx
  have howned := h.chunks p y hy
  split <;> exact howned

theorem Stage.after_leaveRecopyList (h : Stage due s t) {c : Nat} : Stage due s (leaveRecopyList c t) := by
  unfold leaveRecopyList
  split
  · exact .after_if (h.after_modJob (fun _ => .of_work) fun _ => List.filter_subset_self _) h
  · exact h

theorem Stage.after_tellCopy (h : Stage due s t) {c : Nat} {news : CopyNews} {cause : Cause} : Stage due s (tellCopy c news cause t) := by
  unfold tellCopy
  split
  · exact h.after_notify
  · exact h

section
variable {c i : Nat}

theorem Stage.after_leaveRecopy (h : Stage due s t) (hc : s.Committed c i) (hi : due i) {d : Dest} : Stage due s (leaveRecopy c d t) := by
  unfold leaveRecopy
  split
  next k hk =>
    exact .after_if (.after_leaveRecopyList (.after_if (h.after_setClip_due hc hi hk).after_cancelPass (h.after_setClip_due hc hi hk))) h
  · exact h

theorem Stage.after_setCopyState (h : Stage due s t) (hc : s.Committed c i) (hi : due i) {d : Dest} {st : CopyState} {cause : Cause} :
    Stage due s (setCopyState c d st cause t) := h.after_modClip hc hi

theorem Stage.after_setSv (h : Stage due s t) (hc : s.Committed c i) (hi : due i) {sv : SvState} : Stage due s (setSv c sv t) :=
  h.after_modClip hc hi

/-- A copy of a due job's clip fails. -/
theorem Stage.after_failCopy (h : Stage due s t) (hc : s.Committed c i) (hi : due i) {d : Dest} {st : CopyState} {cause : Cause} :
    Stage due s (failCopy c d st cause t) :=
  ((h.after_setCopyState hc hi).after_leaveRecopy hc hi).after_tellCopy

end

/-! ### The drained test (R38) -/

/-- The Verify Queue with one more task of a committed clip. -/
theorem Stage.after_enqueueTask (h : Stage due s t) {v : Task} (hv : t.IsCommitted v.clip) :
    Stage due s { t with verifyQueue := t.verifyQueue ++ [v] } := by
  refine h.after_queue fun x hx => ?_
  rcases List.mem_append.mp hx with hx | hx
  · exact h.queue x hx
  · exact List.mem_singleton.mp hx ▸ hv

theorem Stage.after_issueTask (h : Stage due s t) {c i : Nat} (hc : s.Committed c i) (hi : due i) : Stage due s (issueTask t c) := by
  unfold issueTask
  split
  next k hk =>
    refine .after_if ?_ h
    have hset : Stage due s (setClip t c { k with sv := .queued }) := h.after_setClip_due hc hi hk
    exact hset.after_enqueueTask (v := ⟨c, .source, false⟩) (isCommitted_iff.mpr ⟨i, hset.committed c i hc⟩)
  · exact h

theorem Stage.after_drainJob (h : Stage due s t) {i : Nat} (hi : due i) : Stage due s (drainJob t i) := by
  refine h.trans ?_
  have ht : Stage due t t := h.here
  unfold drainJob
  split
  next j hj =>
    refine .after_if ?_ ht
    have hdrained : Stage due t (setJob t i { j with state := .drained, tasksIssued := true }) :=
      ht.after_setJob_due (ht.listed i j hj) (fun _ _ => id) (absurd hi)
    exact .after_if (hdrained.after_notify.after_foldl_mem fun u c hc hu => hu.after_issueTask (ht.listed i j hj c (.inl hc)) hi)
      hdrained.after_notify
  · exact ht

/-! ### The clearable evaluation (R145) -/

/-- An evaluated job is due no longer: a CLOSING job's fields stay (R47), another's become what R143 and R144 say. -/
theorem Stage.after_evalJob (h : Stage due s t) {i : Nat} : Stage (fun r => due r ∧ r ≠ i) s (evalJob t i) := by
  have hother {r : Nat} (hdue : due r) (hr : ¬(due r ∧ r ≠ i)) : r = i := by_contra fun hne => hr ⟨hdue, hne⟩
  unfold evalJob
  split
  next j hj =>
    split
    next hclosing =>
      refine h.narrow fun r x hx hdue hr hopen => ?_
      obtain rfl := hother hdue hr
      obtain rfl := Option.some.inj (hj.symm.trans hx)
      exact absurd hclosing hopen
    · have hset : Stage (fun r => due r ∧ r ≠ i) s
          (setJob t i { j with attention := attentionMet t j, clearable := clearableMet t j }) :=
        h.after_setJob_due (h.listed i j hj) (fun _ hr hdue => ⟨hdue, hr⟩) fun _ _ => ⟨rfl, rfl⟩
      exact .after_if hset (.after_if hset.after_notify hset.after_notify)
  next hnone =>
    refine h.narrow fun r x hx hdue hr => ?_
    obtain rfl := hother hdue hr
    exact nomatch hnone.symm.trans hx

/-- Once every due job has been evaluated, every account is current. -/
theorem Stage.after_evalJobs {l : List Nat} (h : Stage due s t) (hl : ∀ r, due r → r ∈ l) : (l.foldl evalJob t).Balanced := by
  induction l generalizing due t with
  | nil => exact (h.narrow fun i _ _ hi _ => nomatch hl i hi).balanced
  | cons i l ih => exact ih h.after_evalJob fun r hr => (List.mem_cons.mp (hl r hr.1)).resolve_left hr.2

/-! ### The free test (R46) -/

/-- A record that is kept is read from a table with some records left out. -/
theorem lookup_filter_kept {α : Type} {l : Table α} {keep : Nat × α → Bool} {n : Nat} {a : α} (h : lookup l n = some a)
    (hkeep : keep (n, a) = true) : lookup (l.filter keep) n = some a := by
  induction l with
  | nil => exact nomatch h
  | cons e rest ih =>
    obtain ⟨m, b⟩ := e
    by_cases hm : m = n
    · subst hm
      obtain rfl : b = a := by simpa [lookup] using h
      simp [hkeep, lookup]
    · have hrest : lookup rest n = some a := by simpa [lookup, hm] using h
      rw [List.filter_cons]
      split
      · simpa [lookup, hm] using ih hrest
      · exact ih hrest

/-- The clip belongs to the job that committed it. -/
theorem clipOfJob_of_committed {c i : Nat} (h : t.Committed c i) : clipOfJob t i c = true := by
  obtain ⟨k, hk, hjob, _⟩ := committed_iff.mp h
  simp [clipOfJob, hk, hjob]

theorem mem_allPorts (p : Port) : p ∈ allPorts := by
  revert p
  decide

/-- Nothing in the block names a job of which nothing is left in the part (R46). -/
structure State.Forgets (t : State) (i : Nat) : Prop where
  chunks : ∀ p : Port, ∀ c ∈ (t.reader p).chunk, c.job ≠ i
  slots : ∀ e ∈ t.slots, e.2.job ≠ i
  tasks : ∀ e : EngineIx, ∀ u ∈ (t.engine e).task, u.2 ≠ i
  queue : ∀ u ∈ t.verifyQueue, clipOfJob t i u.clip = false
  awaiting : ∀ d : Dest, ∀ c ∈ (t.dest d).awaiting, clipOfJob t i c = false
  covered : ∀ d : Dest, ∀ o ∈ (t.dest d).op, ∀ c ∈ o.covers, clipOfJob t i c = false

theorem forgets_of_not_busy {i : Nat} (h : jobBusy t i = false) : t.Forgets i := by
  simp only [jobBusy, Bool.or_eq_false_iff, List.any_eq_false] at h
  obtain ⟨⟨⟨⟨hslots, hports⟩, hdests⟩, hqueue⟩, hengines⟩ := h
  refine ⟨fun p c hc hjob => ?_, fun e he => by simpa using hslots e he, fun e u hu hjob => ?_, fun u hu => by simpa [taskOfJob] using hqueue u hu,
    fun d c hc => ?_, fun d o ho c hc => ?_⟩
  · refine hports p (mem_allPorts p) ?_
    simp [cardReadOfJob, Option.mem_def.mp hc, hjob]
  · refine hengines (t.engine e) (by simp [State.engine]) ?_
    simp [engineOfJob, Option.mem_def.mp hu, hjob]
  · have hport := hdests (t.dest d) (by simp [State.dest])
    simp only [Bool.or_eq_true, not_or, List.any_eq_true, not_exists, not_and] at hport
    simpa using hport.2 c hc
  · have hport := hdests (t.dest d) (by simp [State.dest])
    simp only [Bool.or_eq_true, not_or, Option.any_eq_true, not_exists, not_and] at hport
    have hop := hport.1 o ho
    cases o with
    | flush clips =>
      simp only [opOfJob, List.any_eq_true, not_exists, not_and] at hop
      simpa using hop c hc
    | write => exact nomatch hc
    | segment => exact nomatch hc

/-- The block without job `i` and its clips. -/
def jobFreed (i : Nat) (t : State) : State :=
  { t with jobs := erase t.jobs i, clips := t.clips.filter (fun e => decide (e.2.job ≠ i)) }

theorem jobFreed_job {i r : Nat} {j : Job} (h : (jobFreed i t).job r = some j) : r ≠ i ∧ t.job r = some j := by
  have hr : r ≠ i := by
    rintro rfl
    exact nomatch (lookup_erase_self t.jobs r).symm.trans h
  exact ⟨hr, (lookup_erase_of_ne t.jobs hr).symm.trans h⟩

/-- The clips of other jobs stay. -/
theorem jobFreed_clip {c i r : Nat} (hc : t.Committed c r) (hr : r ≠ i) : (jobFreed i t).clip c = t.clip c := by
  obtain ⟨k, hk, hjob, _⟩ := committed_iff.mp hc
  rw [hk]
  exact lookup_filter_kept hk (by simpa [hjob] using hr)

theorem jobFreed_committed {c i r : Nat} (hc : t.Committed c r) (hr : r ≠ i) : (jobFreed i t).Committed c r := by
  rwa [State.Committed, jobFreed_clip hc hr]

theorem jobFreed_isCommitted {c i : Nat} (hc : t.IsCommitted c) (hi : clipOfJob t i c = false) : (jobFreed i t).IsCommitted c := by
  obtain ⟨r, hr⟩ := isCommitted_iff.mp hc
  refine isCommitted_iff.mpr ⟨r, jobFreed_committed hr ?_⟩
  rintro rfl
  exact nomatch hi.symm.trans (clipOfJob_of_committed hr)

/-- A job that nothing names leaves the rest of the block as it was (R46). -/
theorem State.Balanced.after_jobFreed (h : t.Balanced) {i : Nat} (hf : t.Forgets i) : (jobFreed i t).Balanced := by
  refine ⟨fun _ _ => id, fun r x hx c hc => ?_, fun p c hc => jobFreed_committed (h.chunks p c hc) (hf.chunks p c hc),
    fun e he => jobFreed_committed (h.slots e he) (hf.slots e he), fun e u hu => jobFreed_committed (h.tasks e u hu) (hf.tasks e u hu),
    fun u hu => jobFreed_isCommitted (h.queue u hu) (hf.queue u hu),
    fun d => ⟨fun c hc => jobFreed_isCommitted ((h.dests d).1 c hc) (hf.awaiting d c hc),
      fun o ho c hc => jobFreed_isCommitted ((h.dests d).2 o ho c hc) (hf.covered d o ho c hc)⟩,
    fun e he => h.unbegun e (List.mem_filter.mp he).1, fun r x hx _ => ?_⟩
  · obtain ⟨hr, hx⟩ := jobFreed_job hx
    exact jobFreed_committed (h.listed r x hx c hc) hr
  · obtain ⟨hr, hx⟩ := jobFreed_job hx
    exact (h.current r x hx not_false).congr (.refl x) fun c hc => congrArg _ (jobFreed_clip (h.listed r x hx c (.inl hc)) hr)

theorem State.Balanced.after_freeJob (h : t.Balanced) {i : Nat} : (freeJob t i).Balanced := by
  unfold freeJob
  split
  · split
    next hfree => exact (Stage.after_notify (h.after_jobFreed (forgets_of_not_busy hfree.2))).balanced
    · exact h
  · exact h

/-! ### The end of an event -/

/-- The tests at an event's end evaluate the jobs that are due (R38, R46, R145). -/
theorem Stage.after_closeJobs {hs : List Nat} (h : Stage (· ∈ hs) s t) : (closeJobs hs t).Balanced := by
  have hdrained : Stage (· ∈ hs) s (hs.foldl drainJob t) := h.after_foldl_mem fun _ _ hi hu => hu.after_drainJob hi
  exact List.foldlRecOn hs freeJob (hdrained.after_evalJobs fun _ => id) fun _ hu _ _ => State.Balanced.after_freeJob hu

theorem State.Balanced.after_refresh (h : t.Balanced) : (refresh t).Balanced := (Stage.after_refresh h).balanced

theorem State.Balanced.after_setDest (h : t.Balanced) {d : Dest} {x : DestPort}
    (ha : x.awaiting ⊆ (t.dest d).awaiting := by exact List.Subset.refl _) (ho : x.op = (t.dest d).op := by rfl) : (setDest t d x).Balanced :=
  (Stage.after_setDest h ha ho).balanced

theorem State.Balanced.after_tellAll (h : t.Balanced) {ns : List Notice} : (tellAll ns t).Balanced := (Stage.after_tellAll h).balanced

theorem State.Balanced.after_sendFrame (h : t.Balanced) {r : Frame} : (sendFrame r t).Balanced := (Stage.after_sendFrame h).balanced

theorem Stage.after_closeSeen {hs : List Nat} (h : Stage (· ∈ hs) s t) : (closeSeen hs t).Balanced :=
  (h.after_foldl (fun _ _ hu => hu.after_seeBacklog) allDests).after_closeJobs.after_tellAll

end

end Sys2Proof.Machine
end

section
/-! SUPPORT. The accounts of the jobs (R142 to R145), block by block: the Verify Engines, the loss procedure, the card ports and the survey, and
the abort of a job. -/

namespace Sys2Proof.Machine

-- One theorem at a time: checking them all at once needs more threads than the sandbox gives.
set_option Elab.async false

open Sys2Proof

section
variable {due : Nat → Prop} {s t : State}

/-! ### The Verify Engines (spec/07) -/

theorem Stage.after_withdraw (h : Stage due s t) {e : EngineIx} : Stage due s (withdraw e t) := by
  have hreaders : Stage due s { t with readers := (withdraw e t).readers } := by
    refine h.after_readers fun p c hc => ?_
    change c ∈ ((withdraw e t).reader p).chunk at hc
    rw [withdraw_reader] at hc
    exact h.chunks p c hc
  refine hreaders.after_dests (dests := (withdraw e t).dests) fun d => ?_
  change ((withdraw e t).dest d).NamesCommitted t
  rw [withdraw_dest]
  exact h.dests d

theorem Stage.after_askSegment (h : Stage due s t) {e : EngineIx} : Stage due s (askSegment e t) := by
  unfold askSegment
  split
  · dsimp only
    split
    · exact h.after_setEngine.after_setDest
    · split
      · exact h.after_setEngine.after_setReader
      · exact h.after_setEngine
  · exact h

theorem Stage.after_foldSegment (h : Stage due s t) {g : Segment} {count : Nat} {data : List Byte} :
    Stage due s (foldSegment g count data t) := by
  unfold foldSegment
  dsimp only
  split
  · exact h.after_setEngine
  · exact h

/-- A task of a due job is given up: its clip is QUEUED again, and the task joins the queue (R134, R135). -/
theorem Stage.after_giveUp (h : Stage due s t) {e : EngineIx} (he : ∀ u ∈ (t.engine e).task, due u.2) : Stage due s (giveUp e t) := by
  refine h.trans ?_
  have ht : Stage due t t := h.here
  unfold giveUp
  split
  next v i htask =>
    have hc : t.Committed v.clip i := ht.tasks e _ htask
    have hfree : Stage due t (setSv v.clip .queued (freeEngine e (withdraw e t))) :=
      ht.after_withdraw.after_freeEngine.after_setSv hc (he _ htask)
    exact hfree.after_queue (List.forall_mem_cons.mpr ⟨isCommitted_iff.mpr ⟨i, hfree.committed _ _ hc⟩, hfree.queue⟩)
  · exact ht

/-- An engine lets go of a due job's task (R136). -/
theorem Stage.after_letGo (h : Stage due s t) {e : EngineIx} (he : ∀ u ∈ (t.engine e).task, due u.2) : Stage due s (letGo e t) := by
  refine h.trans ?_
  have ht : Stage due t t := h.here
  unfold letGo
  split
  next v i htask =>
    have hfree : Stage due t (freeEngine e (withdraw e t)) := ht.after_withdraw.after_freeEngine
    unfold svLetGo
    split
    · exact hfree.after_modClip (ht.tasks e _ htask) (he _ htask) (fun k => by split <;> rfl) fun k hk => by split <;> exact hk
    · exact hfree
  · exact ht

section
variable {v : Task} {i : Nat}

theorem Stage.after_settleTarget (h : Stage due s t) (hc : s.Committed v.clip i) (hi : due i) {copy : CopyState} {sv : SvState} {cause : Cause} :
    Stage due s (settleTarget v copy sv cause t) := by
  unfold settleTarget
  split
  · exact .after_if (h.after_setCopyState hc hi).after_tellCopy (h.after_failCopy hc hi)
  · exact (h.after_setSv hc hi).after_tellCopy

theorem Stage.after_retryTarget (h : Stage due s t) (hc : s.Committed v.clip i) (hi : due i) : Stage due s (retryTarget v t) := by
  unfold retryTarget
  split
  · exact h.after_modClip hc hi
  · exact h.after_setSv hc hi

theorem Stage.after_startTarget (h : Stage due s t) (hc : s.Committed v.clip i) (hi : due i) : Stage due s (startTarget v t) := by
  unfold startTarget
  split
  · exact h.after_modClip hc hi
  · exact h.after_setSv hc hi

/-- Whatever a comparison makes of the task's target, the task's job is evaluated (R129 to R131, R145). -/
theorem State.Balanced.after_compareTask (h : t.Balanced) {e : EngineIx} (hc : t.Committed v.clip i) : (compareTask e v i t).Balanced := by
  have hi : i ∈ [i] := List.mem_singleton_self i
  have hfree : Stage (· ∈ [i]) t (freeEngine e t) := h.begin.after_freeEngine
  have hretry : Stage (· ∈ [i]) t (retryTarget v (freeEngine e t)) := hfree.after_retryTarget hc hi
  exact .after_if (hfree.after_settleTarget hc hi).after_closeJobs
    (.after_if (Stage.after_closeJobs (hretry.after_enqueueTask (v := { v with retry := true })
      (isCommitted_iff.mpr ⟨i, hretry.committed _ _ hc⟩))) (hfree.after_settleTarget hc hi).after_closeJobs)

end

/-- The task that an engine is known to hold is of the one job that is to be evaluated. -/
theorem task_due {e : EngineIx} {v : Task} {i : Nat} (htask : (t.engine e).task = some (v, i)) : ∀ u ∈ (t.engine e).task, u.2 ∈ [i] := by
  simp [htask]

theorem State.Balanced.after_segmentComplete (h : t.Balanced) {g : Segment} : (segmentComplete g t).Balanced := by
  unfold segmentComplete
  split
  next v i htask =>
    refine .after_if (h.begin.after_letGo (task_due htask)).after_closeJobs
      (.after_if (h.begin.after_giveUp (task_due htask)).after_closeJobs ?_)
    extract_lets _ s1
    have hs1 : s1.Balanced := (Stage.after_setEngine h).balanced
    exact .after_if (Stage.after_askSegment hs1).balanced (hs1.after_compareTask (h.tasks _ _ htask))
  · exact h

theorem State.Balanced.after_segmentFailed (h : t.Balanced) {g : Segment} : (segmentFailed g t).Balanced := by
  unfold segmentFailed
  split
  next v i htask =>
    exact .after_if (h.begin.after_letGo (task_due htask)).after_closeJobs (.after_if (h.begin.after_giveUp (task_due htask)).after_closeJobs
      (h.begin.after_freeEngine.after_settleTarget (h.tasks _ _ htask) (List.mem_singleton_self i)).after_closeJobs)
  · exact h

/-- A task in the queue that an engine takes is of a committed clip, whose job is evaluated (R125, R145). -/
theorem State.Balanced.after_takeNext (h : t.Balanced) : (takeNext t).Balanced := by
  unfold takeNext
  split
  next e v _ hfind =>
    split
    next k hk =>
      obtain ⟨i, hc⟩ := isCommitted_iff.mp (h.queue v (List.mem_of_find?_eq_some hfind))
      obtain ⟨hjob, _⟩ := record_of_committed hc hk
      subst hjob
      have hqueue : Stage (· ∈ [k.job]) t { t with verifyQueue := t.verifyQueue.erase v } :=
        h.begin.after_queue fun x hx => h.queue x (List.mem_of_mem_erase hx)
      have hstart := hqueue.after_startTarget hc (List.mem_singleton_self k.job)
      refine (Stage.after_askSegment (hstart.after_setEngine_task fun u hu => ?_)).after_closeJobs.after_refresh
      obtain rfl := Option.some.inj hu
      exact hstart.committed _ _ hc
    · exact h
  · exact h

/-! ### The loss procedure (R117 to R119) -/

/-- A copy that is lost is one of a committed clip: a BUILDING clip has none (R49, R118). -/
theorem Stage.after_loseCopy (h : Stage (fun _ => True) s t) {d : Dest} {lost : Option DestIdentity} {c : Nat} :
    Stage (fun _ => True) s (loseCopy d lost t c) := by
  refine h.trans ?_
  have ht : Stage (fun _ => True) t t := h.here
  unfold loseCopy
  split
  next k hk =>
    have hcommitted {st : CopyState} (hst : lossOf (k.copy d).state = some st) : t.Committed c k.job := by
      refine committed_iff.mpr ⟨k, hk, rfl, fun hb => ?_⟩
      rw [(ht.unbegun (c, k) (mem_of_lookup hk) hb).1 d] at hst
      exact nomatch hst
    split
    · refine .after_if ?_ ht
      split
      next hst => exact ht.after_failCopy (hcommitted hst) trivial
      next hst => exact (ht.after_setCopyState (hcommitted hst) trivial).after_tellCopy
      · exact ht
    · exact ht
  · exact ht

theorem Stage.after_dropFromSlots (h : Stage due s t) {d : Dest} : Stage due s (dropFromSlots d t) := by
  have hslots : Stage due s { t with slots := t.slots.map (fun e => (e.1, e.2.without d)) } := by
    refine h.after_slots fun e he => ?_
    obtain ⟨x, hx, rfl⟩ := List.mem_map.mp he
    have hslot := h.slots x hx
    simp only [Slot.without]
    split <;> exact hslot
  exact hslots.after_foldl (fun _ _ hu => hu.after_freeIfDone) _

theorem Stage.after_dropTasks (h : Stage due s t) {d : Dest} : Stage due s (dropTasks d t) := by
  have hqueue : Stage due s { t with verifyQueue := t.verifyQueue.filter (fun u => decide (u.target ≠ .dest d)) } :=
    h.after_queue fun u hu => h.queue u (List.mem_filter.mp hu).1
  refine hqueue.after_engines (engines := (dropTasks d t).engines) fun e u hu => ?_
  simp only [dropTasks, Vector.getElem_map] at hu
  split at hu
  · exact nomatch hu
  · exact h.tasks e u hu

/-- The loss of a drive ends with the tests of every live job (R117 to R119, R145). -/
theorem Stage.after_loseDest (h : Stage (fun _ => True) s t) {d : Dest} {st : DestState} {reason : DestReason} :
    (loseDest d st reason t).Balanced := by
  have hport : Stage (fun _ => True) s (setDest t d { (t.dest d).dropWork with state := st }) :=
    h.after_setDest_op (by simp [DestPort.dropWork]) (by simp [DestPort.dropWork])
  have hcopies : Stage (fun _ => True) s (copiesLost d st reason t) :=
    hport.after_dropFromSlots.after_notify.after_foldl (fun _ _ hu => hu.after_loseCopy) _
  rw [loseDest_eq]
  exact hcopies.after_dropTasks.after_dropHolds.after_setMonitor.all_live.after_closeJobs.after_refresh

/-! ### Card ports and the survey (spec/02) -/

theorem Stage.after_joinSurvey (h : Stage due s t) {p : Port} : Stage due s (joinSurvey p t) := by
  rw [joinSurvey_eq]
  exact h.after_rest

theorem Stage.after_dropChunk (h : Stage due s t) {p : Port} {c : ChunkRead} : Stage due s (dropChunk p c t) :=
  h.after_setReader_none.after_freeSlot

theorem Stage.after_rollBack (h : Stage (fun _ => True) s t) {p : Port} : Stage (fun _ => True) s (rollBack p t) := by
  refine h.trans ?_
  have ht : Stage (fun _ => True) t t := h.here
  unfold rollBack
  split
  next c hc => exact .after_if (ht.after_dropChunk.after_modClip (ht.chunks p c hc) trivial) ht.after_dropChunk
  · exact ht

theorem Stage.after_removeEngine (h : Stage (fun _ => True) s t) {p : Port} {e : EngineIx} :
    Stage (fun _ => True) s (removeEngine p t e) := by
  have hall : ∀ u ∈ (t.engine e).task, True := fun _ _ => trivial
  exact .after_if (.after_if (h.after_letGo hall) (h.after_giveUp hall)) h

theorem Stage.after_workEnded (h : Stage (fun _ => True) s t) {p : Port} : Stage (fun _ => True) s (workEnded p t) := by
  have hengines : Stage (fun _ => True) s (removeEngines p (rollBack p (abandonCard p t))) :=
    h.after_abandonCard.after_rollBack.after_removeEngine.after_removeEngine
  rcases removeSegments_cases p (rollBack p (abandonCard p t)) with ⟨_, he⟩ | he <;> rw [workEnded, he]
  · exact hengines
  · exact hengines.after_setReader

theorem Stage.after_unbind (h : Stage due s t) {job : Option Nat} : Stage due s (unbind job t) := by
  unfold unbind
  split
  · exact h.after_modJob fun _ => .of_work
  · exact h

theorem Stage.after_leaveSurveyQueue (h : Stage due s t) {p : Port} : Stage due s (leaveSurveyQueue p t) := by
  unfold leaveSurveyQueue
  exact h.after_rest

theorem Stage.after_takeCard (h : Stage due s t) {p : Port} {job : Option Nat} : Stage due s (takeCard p job t) := by
  have hsurvey : Stage due s (endSurvey p t) := by
    unfold endSurvey
    exact h.after_rest
  exact hsurvey.after_leaveSurveyQueue.after_unbind.after_setPort.after_notify

theorem State.Balanced.after_removeCard (h : t.Balanced) {p : Port} : (removeCard p t).Balanced := by
  rw [removeCard_eq]
  exact (Stage.after_workEnded h.begin).after_takeCard.all_live.after_closeJobs.after_refresh

theorem State.Balanced.after_absenceExpired (h : t.Balanced) {p : Port} : (absenceExpired p t).Balanced := by
  unfold absenceExpired
  refine .after_if ?_ h
  split
  · exact h
  · exact (Stage.after_setPort h).after_refresh.balanced
  · exact h.after_removeCard

theorem Stage.after_settled (h : Stage due s t) {p : Port} : Stage due s (settled p t) := by
  unfold settled
  exact .after_if (Stage.after_if h.after_setPort.after_notify.after_joinSurvey h.after_setPort.after_notify).after_refresh h

theorem Stage.after_holdError (h : Stage due s t) {p : Port} : Stage due s (holdError p t) := by
  unfold holdError
  split
  · split
    · exact h
    · exact h.after_setPort
  · exact h

theorem State.Balanced.after_endAbandoned (h : t.Balanced) {p : Port} : (endAbandoned p t).Balanced := by
  unfold endAbandoned
  split
  · split
    · exact h.begin.after_clearCard.after_cardKick.after_closeJobs.after_refresh
    · exact h
  · exact h

theorem State.Balanced.after_cardTimedOut (h : t.Balanced) {p : Port} : (cardTimedOut p t).Balanced := by
  unfold cardTimedOut
  split
  · split
    · exact h.after_endAbandoned
    · exact (Stage.after_holdError h).balanced
  · exact h

theorem Stage.after_startSurvey (h : Stage due s t) : Stage due s (startSurvey t) := by
  unfold startSurvey
  split
  · exact Stage.after_refresh (Stage.after_cardKick (Stage.after_setPort h.after_rest))
  · exact h

theorem Stage.after_failSurvey (h : Stage due s t) {p : Port} {cause : SurveyCause} : Stage due s (failSurvey p cause t) :=
  Stage.after_refresh (Stage.after_notify (Stage.after_setPort h.after_rest))

theorem Stage.after_surveyIdentified (h : Stage due s t) {answer : AdapterIdentity} : Stage due s (surveyIdentified answer t) := by
  unfold surveyIdentified
  split
  · exact .after_if (.after_if h.after_clearCard.after_failSurvey (.after_if h.after_clearCard.after_failSurvey
      (Stage.after_cardKick (Stage.after_rest h.after_clearCard)))) h
  · exact h

theorem Stage.after_bindJob (h : Stage due s t) {i : Nat} {p : Port} : Stage due s (bindJob i p t) :=
  (h.after_modJob fun _ => .of_work).after_setPort.after_setReader

theorem Stage.after_completeSurvey (h : Stage due s t) {p : Port} {card : CardIdentity} : Stage due s (completeSurvey p card t) := by
  have hidentified : Stage due s (notify (.cardIdentified p card)
      (setPort { t with survey := none } p { t.port p with state := .identified, identity := some card })) :=
    Stage.after_notify (Stage.after_setPort h.after_rest)
  refine Stage.after_refresh ?_
  split
  · exact hidentified.after_bindJob.after_notify
  · exact .after_if hidentified.after_notify hidentified

theorem Stage.after_surveyRead (h : Stage due s t) {data : List Byte} : Stage due s (surveyRead data t) := by
  unfold surveyRead
  split
  · split
    · exact .after_if h.after_clearCard.after_completeSurvey h
    · exact h
  · exact h

theorem Stage.after_surveyError (h : Stage due s t) {p : Port} : Stage due s (surveyError p t) := by
  unfold surveyError
  split
  · exact .after_if (Stage.after_cardKick h.after_rest) h.after_failSurvey
  · exact h

/-! ### JOB_ABORT (R44, R45) -/

theorem Stage.after_unbindPort (h : Stage due s t) {binding : Option Port} {st : PortState} : Stage due s (unbindPort binding st t) := by
  obtain ⟨_, e⟩ := unbindPort_frame binding st t
  rw [e]
  exact h.after_rest

theorem Stage.after_pauseEngine (h : Stage due s t) {i : Nat} (hi : due i) {e : EngineIx} : Stage due s (pauseEngine i t e) := by
  unfold pauseEngine
  split
  next v r htask =>
    split
    next hpaused =>
      refine h.after_giveUp fun u hu => ?_
      obtain rfl := Option.some.inj (htask.symm.trans hu)
      exact hpaused.1 ▸ hi
    · exact h
  · exact h

/-- The clips of an aborted job change, and its BUILDING ones are freed; those of other jobs stay (R44). -/
theorem Stage.after_abortClips (h : Stage due s t) {i : Nat} (hi : due i) : Stage due s (abortClips i t) := by
  have hread {c r : Nat} {k : Clip} (hc : t.Committed c r) (hk : t.clip c = some k) :
      (abortClips i t).clip c = some (if k.job = i then k.aborted else k) := by
    obtain ⟨_, hsource⟩ := record_of_committed hc hk
    rw [abortClips_eq]
    refine (lookup_map (fun _ (k : Clip) => if k.job = i then k.aborted else k) _ c).trans ?_
    rw [lookup_filter_kept hk (by simp [hsource]), Option.map_some]
  refine h.after_clips (clips := (abortClips i t).clips) (fun c r hc => ?_) (fun e he => ?_) fun c r hc hr => ?_
  · obtain ⟨k, hk, hjob, hsource⟩ := committed_iff.mp hc
    refine committed_iff.mpr ⟨_, hread hc hk, ?_⟩
    split <;> exact ⟨hjob, hsource⟩
  · rw [abortClips_eq] at he
    obtain ⟨x, hx, rfl⟩ := List.mem_map.mp he
    obtain ⟨hx, hkept⟩ := List.mem_filter.mp hx
    dsimp only
    split
    next hjob =>
      intro hb
      have hsource : x.2.sourceState = .building := hb
      simp [hjob, hsource] at hkept
    · exact h.unbegun x hx
  · obtain ⟨k, hk, hjob, _⟩ := committed_iff.mp hc
    have hother : k.job ≠ i := fun he => hr (hjob ▸ he ▸ hi)
    have hsame := hread hc hk
    rw [if_neg hother, ← hk] at hsame
    exact congrArg (Option.map Clip.account) hsame

/-- An engine that holds a task of job `i`. -/
theorem engineOfJob_due {i : Nat} (hi : due i) {e : EngineIx} (he : engineOfJob i (t.engine e) = true) : ∀ u ∈ (t.engine e).task, due u.2 := by
  intro u hu
  rw [engineOfJob, Option.mem_def.mp hu] at he
  exact of_decide_eq_true he ▸ hi

section
variable {i : Nat}

/-- A destination's lists shed the aborted job's work, and the operation in flight, if it changes, is no flush (R45, R64, R110). -/
theorem Stage.after_abortDest (h : Stage due s t) (hi : due i) {d : Dest} : Stage due s (abortDest i t d) := by
  unfold abortDest
  dsimp only
  split
  · exact .after_if (.after_if (h.after_setDest_op (List.filter_subset_self _))
      (Stage.after_modSlot (h.after_setDest_op (List.filter_subset_self _)))) (h.after_setDest (List.filter_subset_self _))
  · split
    next he =>
      exact .after_if (h.after_setDest_op (List.filter_subset_self _))
        (Stage.after_letGo (h.after_setDest_op (List.filter_subset_self _)) (engineOfJob_due hi he))
    · exact h.after_setDest (List.filter_subset_self _)
  · exact h.after_setDest (List.filter_subset_self _)

theorem Stage.after_abortReader (h : Stage due s t) (hi : due i) {p : Port} : Stage due s (abortReader i t p) := by
  unfold abortReader
  extract_lets _ s1
  have hchunk : Stage due s s1 := by
    unfold s1
    split
    next c hc =>
      refine .after_if (.after_if (h.after_setReader_chunk fun x hx => ?_) h.after_dropChunk) h
      obtain rfl := Option.some.inj hx
      exact h.chunks p c hc
    · exact h
  clear_value s1
  split
  · split
    next he => exact .after_if hchunk.after_setReader (hchunk.after_setReader.after_letGo (engineOfJob_due hi he))
    · exact hchunk
  · exact hchunk

theorem Stage.after_abortEngine (h : Stage due s t) (hi : due i) {e : EngineIx} : Stage due s (abortEngine i t e) := by
  unfold abortEngine
  split
  next he => exact h.after_letGo (engineOfJob_due hi he.1)
  · exact h

theorem Stage.after_abortSlots (h : Stage due s t) : Stage due s (abortSlots i t) := by
  have hslots : Stage due s (unpend i t) := by
    refine h.after_slots fun e he => ?_
    obtain ⟨x, hx, rfl⟩ := List.mem_map.mp he
    have hslot := h.slots x hx
    simp only [Slot.unpended]
    split <;> exact hslot
  rw [abortSlots_eq]
  exact hslots.after_foldl (fun _ _ hu => hu.after_freeIfDone) _

/-- The aborted job is CLOSING and is not evaluated (R47); no clip of another job changes. -/
theorem State.Balanced.after_abortJob (h : t.Balanced) {j : Job} (hj : t.job i = some j) : (abortJob i j t).Balanced := by
  have hi : i ∈ [i] := List.mem_singleton_self i
  have hjob : Stage (· ∈ [i]) t (setJob t i j.aborted) :=
    h.begin.after_setJob_due (fun c hc => h.listed i j hj c (hc.imp_right nofun)) (fun _ _ => id) (absurd hi)
  have hrecords : Stage (· ∈ [i]) t (abortRecords i j t) := hjob.after_unbindPort.after_abortClips hi
  have hports : Stage (· ∈ [i]) t (abortPorts i (abortRecords i j t)) :=
    (hrecords.after_foldl (fun _ _ hu => hu.after_abortDest hi) allDests).after_foldl (fun _ _ hu => hu.after_abortReader hi) allPorts
  have htasks : Stage (· ∈ [i]) t (abortTasks i (abortPorts i (abortRecords i j t))) :=
    hports.after_queue fun u hu => hports.queue u (List.mem_filter.mp hu).1
  rw [abortJob_eq]
  exact (htasks.after_foldl (fun _ _ hu => hu.after_abortEngine hi) [0, 1]).after_abortSlots.after_closeSeen.after_refresh

end

end

end Sys2Proof.Machine
end

section
/-! SUPPORT. The accounts of the jobs (R142 to R145), continued: the destination ports, the line, the monitors and the Pace Timer, and the
readers. -/

namespace Sys2Proof.Machine

-- One theorem at a time: checking them all at once needs more threads than the sandbox gives.
set_option Elab.async false

open Sys2Proof

section
variable {due : Nat → Prop} {s t : State}

/-! ### The destination ports (spec/06) -/

theorem Stage.after_destState (h : Stage due s t) {d : Dest} {st : DestState} {reason : DestReason} : Stage due s (destState d st reason t) :=
  h.after_setDest.after_notify

theorem Stage.after_startIdentify (h : Stage due s t) {d : Dest} {reason : DestReason} : Stage due s (startIdentify d reason t) :=
  h.after_setDest.after_destState.after_bridgeKick

theorem Stage.after_linkComesUp (h : Stage due s t) {d : Dest} : Stage due s (linkComesUp d t) :=
  .after_if h h.after_setDest.after_startIdentify

theorem State.Balanced.after_linkGoesDown (h : t.Balanced) {d : Dest} : (linkGoesDown d t).Balanced := by
  unfold linkGoesDown
  exact .after_if (.after_if h.begin.after_setDest.after_loseDest.after_setDest
    (Stage.after_setDest (Stage.after_setDest h)).after_destState.balanced) h

theorem Stage.after_identifyAnswered (h : Stage due s t) {d : Dest} {answer : Option DestIdentity} :
    Stage due s (identifyAnswered d answer t) := by
  unfold identifyAnswered
  refine .after_if ?_ h
  dsimp only
  split
  · exact h.after_clearBridge.after_setDest.after_destState
  · exact h.after_clearBridge.after_destState

theorem Stage.after_attach (h : Stage due s t) {d : Dest} : Stage due s (attach d t) :=
  Stage.after_refresh (Stage.after_destState (Stage.after_setMonitor (h.after_setDest (List.nil_subset _))))

/-- A flush covers the copies that await it (R111). -/
theorem Stage.after_startFlush (h : Stage due s t) {d : Dest} : Stage due s (startFlush d t) := by
  refine Stage.after_bridgeKick (h.after_setDest_names ⟨fun _ hc => absurd hc List.not_mem_nil, fun o ho c hc => ?_⟩)
  obtain rfl := Option.some.inj ho
  exact (h.dests d).1 c hc

theorem Stage.after_startWrite (h : Stage due s t) {d : Dest} {n : Nat} {rest : List Nat} : Stage due s (startWrite d n rest t) :=
  (Stage.after_modSlot h.after_setDest_op).after_bridgeKick

theorem Stage.after_startDestSegment (h : Stage due s t) {d : Dest} {e : EngineIx} {rest : List EngineIx} :
    Stage due s (startDestSegment d e rest t) :=
  Stage.after_bridgeKick h.after_setEngine.after_setDest_op

theorem Stage.after_decideOp (h : Stage due s t) {d : Dest} : Stage due s (decideOp d t) := by
  have hchoose : Stage due s (chooseOp d t) := by
    unfold chooseOp
    split
    · exact h.after_startWrite
    · exact h.after_startDestSegment
    · exact .after_if h.after_startDestSegment h.after_startWrite
    · exact h
  exact .after_if (.after_if h.after_startFlush hchoose) h

/-- A copy of a due job's clip is counted; a copy that is WRITTEN awaits its flush (R107). -/
theorem Stage.after_countChunk (h : Stage due s t) {c i : Nat} (hc : s.Committed c i) (hi : due i) {d : Dest} :
    Stage due s (countChunk c d t) := by
  unfold countChunk
  split
  next k hk =>
    have hset (x : Copy) : Stage due s (setClip t c (k.setCopy d x)) := h.after_setClip_due hc hi hk
    refine .after_if (.after_if (hset _) (.after_if ((hset _).after_failCopy hc hi) ?_)) h
    refine (hset _).after_setDest_names ⟨fun n hn => ?_, ((hset _).dests d).2⟩
    rcases List.mem_append.mp hn with hn | hn
    · exact ((hset _).dests d).1 n hn
    · obtain rfl := List.mem_singleton.mp hn
      exact isCommitted_iff.mpr ⟨i, (hset _).committed _ i hc⟩
  · exact h

/-- The chunk in a slot is one of a committed clip of the slot's job (R61). -/
theorem Stage.slot_committed (h : Stage due s t) {n c : Nat} (hc : c ∈ ((t.slot n).map Slot.clip).toList) :
    ∃ i ∈ slotJob t n, t.Committed c i := by
  obtain ⟨x, hx, rfl⟩ := Option.map_eq_some_iff.mp (Option.mem_toList.mp hc)
  exact ⟨x.job, by simp [slotJob, hx], h.slots (n, x) (mem_of_lookup hx)⟩

theorem State.Balanced.after_finishWrite (h : t.Balanced) {d : Dest} {n : Nat} : (finishWrite d n t).Balanced := by
  have hidle : Stage (· ∈ slotJob t n) t (setDest t d { t.dest d with op := none }) := h.begin.after_setDest_op
  have hcounted := hidle.after_foldl_mem (g := fun u c => countChunk c d u) (l := ((t.slot n).map Slot.clip).toList) fun u c hc hu => by
    obtain ⟨i, hi, hcommitted⟩ := Stage.slot_committed h hc
    exact hu.after_countChunk hcommitted hi
  exact (Stage.after_freeIfDone (Stage.after_modSlot hcounted)).after_closeSeen.after_refresh

theorem State.Balanced.after_endAbortedWrite (h : t.Balanced) {d : Dest} {n : Nat} : (endAbortedWrite d n t).Balanced := by
  have hidle : Stage (· ∈ slotJob t n) t (setDest t d { t.dest d with op := none }) := h.begin.after_setDest_op
  exact (Stage.after_freeIfDone (Stage.after_modSlot hidle)).after_closeSeen.after_refresh

theorem State.Balanced.after_writeAnswered (h : t.Balanced) {d : Dest} : (writeAnswered d t).Balanced := by
  unfold writeAnswered
  split
  · extract_lets _ s1
    have hs1 : s1.Balanced := (Stage.after_setDest_op h).balanced
    exact .after_if hs1.after_endAbortedWrite (.after_if (Stage.after_bridgeKick hs1).balanced hs1.after_finishWrite)
  · exact h

theorem Stage.after_failPort (h : Stage (fun _ => True) s t) {d : Dest} {reason : DestReason} : (failPort d reason t).Balanced :=
  (Stage.after_setDest_op h).after_loseDest

/-- The copy of the write that fails, and every copy on the drive, is evaluated at the end of the loss (R108, R145). -/
theorem State.Balanced.after_failWrite (h : t.Balanced) {d : Dest} {n : Nat} : (failWrite d n t).Balanced := by
  have hfailed := (h.begin (due := fun _ => True)).after_foldl_mem (l := ((t.slot n).map Slot.clip).toList)
    (g := fun u c => if copyIs u c d .pending then failCopy c d .failed .writeError u else u) fun u c hc hu => by
      obtain ⟨i, _, hcommitted⟩ := Stage.slot_committed h hc
      exact .after_if (hu.after_failCopy hcommitted trivial) hu
  exact hfailed.after_failPort.after_tellAll

theorem Stage.after_noteError (h : Stage due s t) {d : Dest} {ask : BridgeAsk} {timedOut : Bool} :
    Stage due s (noteError d ask timedOut t) := by
  refine h.after_setDest ?_ ?_ <;> cases ask <;> simp [DestPort.markError]

theorem State.Balanced.after_noteError (h : t.Balanced) {d : Dest} {ask : BridgeAsk} {timedOut : Bool} : (noteError d ask timedOut t).Balanced :=
  (Stage.after_noteError h).balanced

theorem State.Balanced.after_resend (h : t.Balanced) {d : Dest} {ask : BridgeAsk} : (resend d ask t).Balanced :=
  (Stage.after_bridgeSend h).balanced

theorem State.Balanced.after_writeError (h : t.Balanced) {d : Dest} {timedOut : Bool} : (writeError d timedOut t).Balanced := by
  unfold writeError
  split
  · exact .after_if h.after_noteError.after_endAbortedWrite (.after_if h.after_noteError.after_failWrite h.after_noteError.after_resend)
  · exact h

/-- A covered copy that is FLUSHED has its verify task (R112). -/
theorem Stage.after_flushCopy (h : Stage due s t) {c i : Nat} (hc : s.Committed c i) (hi : due i) {d : Dest} : Stage due s (flushCopy d t c) := by
  refine .after_if ?_ h
  have hset : Stage due s (modClip c (fun k => k.setCopy d { k.copy d with state := .flushed }) t) := h.after_modClip hc hi
  exact hset.after_enqueueTask (v := ⟨c, .dest d, false⟩) (isCommitted_iff.mpr ⟨i, hset.committed c i hc⟩)

theorem foldl_flushCopy_jobs {d : Dest} (clips : List Nat) (u : State) : (clips.foldl (flushCopy d) u).jobs = u.jobs := by
  induction clips generalizing u with
  | nil => rfl
  | cons c l ih =>
    obtain ⟨_, _, hframe⟩ := flushCopy_frame (s := u) (d := d) c
    rw [List.foldl_cons, ih, hframe]

/-- The jobs of the covered clips are due; those of them that are live are evaluated (R112, R145). -/
theorem State.Balanced.after_flushAnswered (h : t.Balanced) {d : Dest} : (flushAnswered d t).Balanced := by
  unfold flushAnswered
  split
  next _ _ clips _ _ hop _ =>
    extract_lets _ s1
    have hidle : Stage (fun i => clips.any (clipOfJob t i) = true) t (setDest t d { t.dest d with op := none, request := none }) :=
      h.begin.after_setDest_op
    have hflushed : Stage (fun i => clips.any (clipOfJob t i) = true) t s1 := hidle.after_foldl_mem fun u c hc hu => by
      obtain ⟨i, hcommitted⟩ := isCommitted_iff.mp ((h.dests d).2 _ hop c hc)
      exact hu.after_flushCopy hcommitted (List.any_eq_true.mpr ⟨c, hc, clipOfJob_of_committed hcommitted⟩)
    have hjobs : s1.jobs = t.jobs := foldl_flushCopy_jobs clips _
    refine (Stage.narrow hflushed fun i j hj hdue hi => ?_).after_closeJobs.after_refresh
    rw [State.job, hjobs] at hj
    exact absurd (List.mem_filter.mpr ⟨mem_keys_of_lookup hj, hdue⟩) hi
  · exact h

theorem State.Balanced.after_flushError (h : t.Balanced) {d : Dest} {timedOut : Bool} : (flushError d timedOut t).Balanced := by
  unfold flushError
  split
  · exact .after_if (Stage.after_failPort h.after_noteError.begin) h.after_noteError.after_resend
  · exact h

theorem State.Balanced.after_endDestSegment (h : t.Balanced) {d : Dest} {g : Segment} {ok : Bool} : (endDestSegment d g ok t).Balanced := by
  have hidle : (setDest t d { t.dest d with op := none }).Balanced := (Stage.after_setDest_op h).balanced
  exact (State.Balanced.after_if hidle.after_segmentComplete hidle.after_segmentFailed).after_refresh

theorem State.Balanced.after_readAnswered (h : t.Balanced) {d : Dest} {data : List Byte} : (readAnswered d data t).Balanced := by
  have hclear : (clearBridge d t).Balanced := (Stage.after_clearBridge h).balanced
  unfold readAnswered
  split
  next g _ count _ _ _ _ =>
    have hfold : (foldSegment g count data (clearBridge d t)).Balanced := (Stage.after_foldSegment hclear).balanced
    exact .after_if hclear.after_endDestSegment
      (.after_if (Stage.after_bridgeKick (Stage.after_setDest_op hfold)).balanced hfold.after_endDestSegment)
  · exact h

theorem State.Balanced.after_readError (h : t.Balanced) {d : Dest} {timedOut : Bool} : (readError d timedOut t).Balanced := by
  unfold readError
  split
  · exact .after_if h.after_noteError.after_endDestSegment h.after_noteError.after_resend
  · exact h

theorem Stage.after_endAbandonedBridge (h : Stage due s t) {d : Dest} : Stage due s (endAbandonedBridge d t) :=
  .after_if h.after_clearBridge.after_bridgeKick h

theorem State.Balanced.after_bridgeTimedOut (h : t.Balanced) {d : Dest} : (bridgeTimedOut d t).Balanced := by
  have hidentify : (identifyTimedOut d t).Balanced := .after_if (Stage.after_destState h.after_noteError).balanced h
  unfold bridgeTimedOut
  split
  · refine .after_if (Stage.after_endAbandonedBridge h).balanced ?_
    split
    · exact hidentify
    · exact h.after_writeError
    · exact h.after_flushError
    · exact h.after_readError
  · exact h

/-! ### The line, the monitors and the Pace Timer (spec/01, spec/09, spec/10) -/

theorem Stage.after_discardFrame (h : Stage due s t) {flags : LinkFlags} {cause : LinkCause} : Stage due s (discardFrame flags cause t) :=
  Stage.after_notify h.after_rest

theorem Stage.after_takeField (h : Stage due s t) {bytes : List Byte} : Stage due s (takeField bytes t) := by
  have hoffer (f : Frame) : Stage due s (offerFrame f t) := .after_if h.after_rest h.after_discardFrame
  unfold takeField
  exact .after_if h.after_rest (.after_if h.after_discardFrame (.after_if h.after_rest (.after_if (hoffer _) h.after_discardFrame)))

theorem Stage.after_receive (h : Stage due s t) {bits : Byte} {parityBit stopBit : Bool} : Stage due s (receive bits parityBit stopBit t) := by
  unfold receive
  split
  · exact .after_if h.after_rest h
  · exact .after_if h.after_discardFrame (.after_if h.after_discardFrame h.after_takeField)

theorem Stage.after_gapExpired (h : Stage due s t) : Stage due s (gapExpired t) := by
  unfold gapExpired
  split
  · exact h.after_discardFrame
  · exact h

theorem Stage.after_refuseUnknown (h : Stage due s t) : Stage due s (refuseUnknown t) := by
  unfold refuseUnknown
  refine .after_if ?_ h
  split
  · exact .after_if h (Stage.after_sendFrame h.after_rest)
  · exact h

theorem Stage.after_monitorsExpire (h : Stage due s t) {who : DestSet} : Stage due s (monitorsExpire who t) :=
  h.after_mapJobs (f := fun _ j => j.withHolds ((allDests.filter (dmem who)).foldl (softAtExpiry t j) j.softHold) j.hardHold)
    (fun _ _ => withHolds_kept _ _ _) fun _ _ => withHolds_recopy _ _ _

theorem Stage.after_reporterExpires (h : Stage due s t) : Stage due s (reporterExpires t) := by
  have hoffer {u : State} (hu : Stage due s u) : Stage due s (offerReport u) := by
    have hclear : Stage due s { u with jobs := u.jobs.map (fun e => (e.1, { e.2 with holdChanged := false })) } :=
      hu.after_mapJobs (f := fun _ j => { j with holdChanged := false }) fun _ _ => .of_work
    exact .after_if (Stage.after_notify hclear.after_rest) hu.after_notify
  exact .after_if h.after_rest (.after_if (hoffer h.after_rest) h.after_rest)

theorem Stage.after_windowExpires (h : Stage due s t) {before : DestSet} : Stage due s (windowExpires before t) := by
  have hnext : Stage due s (nextWindow t) := h.after_rest
  exact hnext.after_monitorsExpire.after_reporterExpires.after_monitorsExpire.after_refresh

/-! ### The slot allocator, chunk reads and segments (spec/04) -/

/-- What has the account of a clip that is BUILDING without copies is so, too. -/
theorem Clip.Unbegun.congr {k k' : Clip} (h : k.Unbegun) (ha : k'.account = k.account) : k'.Unbegun := by
  obtain ⟨hsource, hcopies, hsv⟩ := account_eq_iff.mp ha
  intro hb
  obtain ⟨hnone, hoff⟩ := h (hsource ▸ hb)
  exact ⟨fun d => by rw [Clip.copy, hcopies]; exact hnone d, hsv.trans hoff⟩

/-- A clip that keeps its account. -/
theorem Stage.after_setClip_account (h : Stage due s t) {c : Nat} {k k' : Clip} (hk : t.clip c = some k) (hj : k'.job = k.job)
    (ha : k'.account = k.account) : Stage due s (setClip t c k') :=
  h.after_setClip hk hj (fun hs => (account_eq_iff.mp ha).1 ▸ hs) (Clip.Unbegun.congr (h.unbegun (c, k) (mem_of_lookup hk)) ha) fun _ _ => ha

theorem granted_account (k : Clip) (again : Bool) : (k.granted again).account = k.account := by
  unfold Clip.granted
  split <;> rfl

/-- A job's next chunk is of a clip on one of its lists (R70). -/
theorem nextChunk_listed {j : Job} {nc : NextChunk} (h : nextChunk t j = some nc) : nc.clip ∈ j.order ∨ nc.clip ∈ j.recopy := by
  unfold nextChunk at h
  split at h
  next hrecopy =>
    obtain rfl := Option.some.inj h
    exact .inr (by simp [hrecopy])
  · split at h
    next hfirst =>
      obtain rfl := Option.some.inj h
      exact .inl (List.mem_of_mem_take (List.mem_of_find?_eq_some hfirst))
    · obtain ⟨c, hc, rfl⟩ := Option.map_eq_some_iff.mp h
      exact .inl (List.mem_of_getElem? hc)

/-- A granted chunk's slot and chunk read are of a clip that the job lists; the grant moves no account (R66, R71). -/
theorem Stage.after_startChunk (h : Stage due s t) {n : Nat} {p : Port} {i : Nat} {j : Job} {nc : NextChunk} {k : Clip}
    (hj : t.job i = some j) (hk : t.clip nc.clip = some k) (hc : t.Committed nc.clip i) : Stage due s (startChunk n p i j nc k t) := by
  have hslot := h.after_setSlot (n := n) (x := ⟨false, i, nc.clip, (k.granted nc.recopy).nextBlock,
    chunkLength (k.granted nc.recopy).blocks (k.granted nc.recopy).nextBlock, 0, nc.recopy, 0⟩) hc
  have hclip := hslot.here.after_setClip_account hk (granted_job k nc.recopy) (granted_account k nc.recopy)
  have hjob := hclip.after_setJob (i := i) (j' := { j with cursor := if nc.starts then j.cursor + 1 else j.cursor }) hj .of_work
  refine hslot.trans (Stage.after_refresh (Stage.after_cardKick (Stage.after_rest (hjob.after_setReader_chunk fun x hx => ?_))))
  obtain rfl := Option.some.inj hx
  exact hjob.committed _ _ hc

theorem Stage.after_grant (h : Stage due s t) : Stage due s (grant t) := by
  unfold grant
  split
  · split
    · split
      next j hj =>
        split
        next nc hnext =>
          split
          next k hk => exact Stage.after_startChunk h.after_rest hj hk (h.listed _ j hj _ (nextChunk_listed hnext))
          · exact h
        · exact h
      · exact h
    · exact h
  · exact h

theorem State.Balanced.after_endCancelled (h : t.Balanced) {p : Port} {c : ChunkRead} : (endCancelled p c t).Balanced :=
  h.begin.after_dropChunk.after_cardKick.after_closeJobs.after_refresh

theorem Stage.after_placeSlot (h : Stage due s t) {n : Nat} {set : DestSet} : Stage due s (placeSlot n set t) :=
  .after_if h.after_freeSlot (h.after_modSlot.after_foldl (fun _ _ hu => hu.after_setDest) _)

section
variable {c : ChunkRead}

/-- The checkpoint of a due job's clip advances; the clip is READING or STAGED, or its pass has ended (R78, R83). -/
theorem Stage.after_advance (h : Stage due s t) (hc : s.Committed c.clip c.job) (hi : due c.job) : Stage due s (advance c t) := by
  unfold advance
  split
  next k hk =>
    refine .after_if (.after_if (h.after_setClip_due hc hi hk).after_leaveRecopyList (h.after_setClip_due hc hi hk)) ?_
    refine h.after_setClip_due hc hi hk (readOn_job _ _ _) fun _ => ?_
    unfold Clip.readOn
    split <;> exact nofun
  · exact h

theorem State.Balanced.after_stage (h : t.Balanced) {p : Port} (hc : t.Committed c.clip c.job) : (stage p c t).Balanced := by
  have hi : c.job ∈ [c.job] := List.mem_singleton_self c.job
  unfold stage
  split
  · extract_lets set _ s1 s2 s3
    have hs1 : Stage (· ∈ [c.job]) t s1 := h.begin.after_setReader_none
    have hs2 : Stage (· ∈ [c.job]) t s2 := hs1.after_foldl (fun _ _ hu => hu.after_failCopy hc hi) _
    have hs3 : Stage (· ∈ [c.job]) t s3 := .after_if hs2.after_freeSlot (hs2.after_placeSlot.after_advance hc hi)
    exact hs3.after_closeSeen.after_refresh
  · exact h

theorem State.Balanced.after_chunkProgress (h : t.Balanced) {p : Port} {count : Nat} {data : List Byte} (hc : t.Committed c.clip c.job) :
    (chunkProgress p c count data t).Balanced := by
  unfold chunkProgress
  extract_lets acc s1 c1
  have hs1 : s1.Balanced := Stage.balanced (Stage.after_rest h)
  have hc1 : s1.Committed c1.clip c1.job := hc
  clear_value s1 c1
  have hread : Stage (fun _ => False) s1 (setReader s1 p { s1.reader p with chunk := some c1 }) :=
    hs1.after_setReader_chunk fun _ hx => Option.some.inj hx ▸ hc1
  exact .after_if hread.after_cardKick.balanced (hs1.after_stage hc1)

theorem State.Balanced.after_chunkAnswered (h : t.Balanced) {p : Port} {data : List Byte} {waitMs : Nat} :
    (chunkAnswered p data waitMs t).Balanced := by
  unfold chunkAnswered
  split
  next c _ hc =>
    extract_lets s1 _ s2
    have hs1 : Stage (fun _ => False) t s1 := Stage.after_clearCard (Stage.after_rest h)
    have hs2 : Stage (fun _ => False) t s2 := hs1.after_setReader
    have hb2 : s2.Balanced := hs2.balanced
    exact .after_if hb2.after_endCancelled (hb2.after_chunkProgress (hs2.committed _ _ (h.chunks p c hc)))
  · exact h

theorem Stage.after_failPending (h : Stage due s t) {n i : Nat} (hc : s.Committed n i) (hi : due i) {set : DestSet} :
    Stage due s (failPending n set t) :=
  h.after_foldl (fun _ _ hu => .after_if (hu.after_failCopy hc hi) hu) _

theorem Stage.after_tellReadError (h : Stage due s t) : Stage due s (tellReadError c t) := by
  unfold tellReadError
  split
  · exact h.after_notify
  · exact h

/-- The clip is a SOURCE_ERROR, or its pass is over; its job is evaluated (R74, R75, R145). -/
theorem State.Balanced.after_failChunk (h : t.Balanced) {p : Port} (hc : t.Committed c.clip c.job) : (failChunk p c t).Balanced := by
  have hi : c.job ∈ [c.job] := List.mem_singleton_self c.job
  have htold : Stage (· ∈ [c.job]) t (tellReadError c (dropChunk p c t)) := h.begin.after_dropChunk.after_tellReadError
  have hfirst := htold.after_modClip (f := fun k => { k with sourceState := .sourceError }) hc hi (fun _ => rfl) fun _ _ => nofun
  exact (Stage.after_if ((htold.after_failPending hc hi).after_modClip hc hi).after_leaveRecopyList
    (hfirst.after_failPending hc hi)).after_cardKick.after_closeJobs.after_refresh

theorem State.Balanced.after_chunkError (h : t.Balanced) {p : Port} (hc : t.Committed c.clip c.job) : (chunkError p c t).Balanced :=
  .after_if h.after_endCancelled (.after_if (Stage.after_cardKick (Stage.after_setReader h)).balanced (h.after_failChunk hc))

end

theorem Stage.after_arbitrate (h : Stage due s t) {p : Port} {first : Bool} : Stage due s (arbitrate p first t) := by
  rcases arbitrate_cases t p first with he | ⟨e, rest, _, _, _, _, he⟩ <;> rw [he]
  · exact h
  · exact h.after_setEngine.after_setReader.after_cardKick.after_refresh

theorem State.Balanced.after_endSegment (h : t.Balanced) {p : Port} {g : Segment} {ok : Bool} : (endSegment p g ok t).Balanced := by
  have hidle : (cardKick p (setReader t p { t.reader p with segment := none, retries := 0 })).Balanced :=
    (Stage.after_cardKick (Stage.after_setReader h)).balanced
  exact (State.Balanced.after_if hidle.after_segmentComplete hidle.after_segmentFailed).after_refresh

theorem State.Balanced.after_segmentAnswered (h : t.Balanced) {p : Port} {data : List Byte} : (segmentAnswered p data t).Balanced := by
  have hclear : (clearCard p t).Balanced := (Stage.after_clearCard h).balanced
  unfold segmentAnswered
  split
  next _ count _ g _ _ =>
    have hfold : (foldSegment g count data (clearCard p t)).Balanced := (Stage.after_foldSegment hclear).balanced
    exact .after_if hclear.after_endSegment
      (.after_if (Stage.after_cardKick (Stage.after_setReader hfold)).balanced hfold.after_endSegment)
  · exact h

theorem State.Balanced.after_deliverError (h : t.Balanced) {p : Port} {owner : CardOwner} : (deliverError p owner t).Balanced := by
  unfold deliverError
  split
  · exact (Stage.after_surveyError h).balanced
  · split
    next c hc => exact h.after_chunkError (h.chunks p c hc)
    · exact h
  · split
    · exact .after_if h.after_endSegment (.after_if (Stage.after_cardKick (Stage.after_setReader h)).balanced h.after_endSegment)
    · exact h
  · exact h

theorem State.Balanced.after_confirmError (h : t.Balanced) {p : Port} : (confirmError p t).Balanced := by
  unfold confirmError
  split
  · exact .after_if (Stage.after_setPort h).balanced.after_deliverError h
  · exact h

end

end Sys2Proof.Machine
end

section
/-! SUPPORT. The accounts of the jobs (R142 to R145), continued: the answers to the host's requests, the resets, command by command, and the
statement. -/

namespace Sys2Proof.Machine

-- One theorem at a time: checking them all at once needs more threads than the sandbox gives.
set_option Elab.async false

open Sys2Proof

section
variable {due : Nat → Prop} {s t : State}

/-! ### The answers to the host's requests -/

/-- The owner's answer to a request leaves no evaluation due. -/
def BalancedOwner {α : Type} (owner : α → State → Reply × State) : Prop := ∀ a s, s.Balanced → (owner a s).2.Balanced

theorem balanced_withJob (h : s.Balanced) {i : Nat} {owner : Job → Reply × State}
    (hown : ∀ j, s.job i = some j → (owner j).2.Balanced) : (withJob i s owner).2.Balanced := by
  unfold withJob
  split
  next j hj => exact hown j hj
  · exact h

theorem balanced_withClip (h : s.Balanced) {c : Nat} {owner : Clip → Job → Reply × State}
    (hown : ∀ k j, s.clip c = some k → s.job k.job = some j → (owner k j).2.Balanced) : (withClip c s owner).2.Balanced := by
  unfold withClip
  split
  next k hk =>
    split
    next j hj => exact hown k j hk hj
    · exact h
  · exact h

/-- One check of a request: refused, the state stays; passed, the check is known to fail. -/
theorem State.Balanced.checked (h : s.Balanced) {c : Prop} [Decidable c] {x : Reply} {y : Reply × State} (k : ¬c → y.2.Balanced) :
    (if c then (x, s) else y).2.Balanced := by
  split
  · exact h
  next hc => exact k hc

/-- The one job that is due is evaluated (R145). -/
theorem Stage.after_evalDue {i : Nat} (h : Stage (· ∈ [i]) s t) : (evalJob t i).Balanced := h.after_evalJobs (l := [i]) fun _ => id

/-- A clip joins a list of its job, and the job is evaluated. -/
theorem Stage.after_listClip {c i : Nat} {j j' : Job} (h : Stage (· ∈ [i]) s t) (hj : t.job i = some j) (hc : t.Committed c i)
    (hl : ∀ n, n ∈ j'.order ∨ n ∈ j'.recopy → (n ∈ j.order ∨ n ∈ j.recopy) ∨ n = c) : (refresh (evalJob (setJob t i j') i)).Balanced := by
  have hlisted : Stage (· ∈ [i]) s (setJob t i j') :=
    h.after_setJob_due (fun n hn => (hl n hn).elim (h.listed i j hj n) (· ▸ hc)) (fun _ _ => id) (absurd (List.mem_singleton_self i))
  exact hlisted.after_evalDue.after_refresh

theorem cardSurvey_balanced : BalancedOwner cardSurvey := by
  intro n s h
  unfold cardSurvey
  split
  · exact h
  · split
    case h_6 | h_7 | h_8 => exact (Stage.after_joinSurvey h).balanced
    all_goals exact h

/-- A new job has no clip: it is not clearable and wants no attention (R41). -/
theorem openedJob_current {p : Port} {a : JobOpenFields} {id : CardIdentity} : t.Current (openedJob s p a id) := by
  simp [State.Current, openedJob, clearableMet, attentionMet]

theorem jobOpen_balanced : BalancedOwner jobOpen := by
  intro a s h
  unfold jobOpen
  split
  · exact h
  next p _ =>
    refine h.checked fun _ => h.checked fun _ => h.checked fun _ => ?_
    split
    · exact h
    next id _ =>
      refine h.checked fun _ => ?_
      split
      · exact h
      next i _ =>
        have hopened : Stage (fun _ => False) s (setJob s i (openedJob s p a id)) :=
          h.after_setJob_due (by simp [openedJob]) (fun _ _ hf => hf) fun _ => openedJob_current
        exact hopened.after_bindJob.after_leaveSurveyQueue.after_refresh.balanced

theorem jobFinal_balanced : BalancedOwner jobFinal := fun i _ h =>
  balanced_withJob h fun _ hj => h.checked fun _ => h.checked fun _ => h.checked fun _ =>
    (Stage.after_closeJobs (hs := [i]) (h.begin.after_setJob hj .of_work)).after_refresh

theorem jobPause_balanced : BalancedOwner jobPause := fun i _ h =>
  balanced_withJob h fun j hj => h.checked fun _ => h.checked fun _ => by
    have hset : Stage (· ∈ [i]) _ (setJob _ i { j with paused := true }) := h.begin.after_setJob hj .of_work
    have hpaused := hset.after_foldl (g := pauseEngine i) (fun _ _ hu => hu.after_pauseEngine (List.mem_singleton_self i)) [1, 0]
    exact hpaused.after_closeJobs.after_refresh

theorem jobResume_balanced : BalancedOwner jobResume := fun _ _ h =>
  balanced_withJob h fun _ hj => h.checked fun _ => (Stage.after_refresh (Stage.after_setJob h hj .of_work)).balanced

theorem jobAbort_balanced : BalancedOwner jobAbort := fun _ _ h => balanced_withJob h fun _ hj => h.checked fun _ => h.after_abortJob hj

/-- The released job is CLOSING, and its fields stay (R47, R146). -/
theorem cardRelease_balanced : BalancedOwner cardRelease := fun i s h =>
  balanced_withJob h fun j hj => h.checked fun _ => h.checked fun _ => by
    have hport : Stage (· ∈ [i]) s (unbindPort j.binding .released { s with known := addKnown s.known j.identity.fingerprint }) :=
      Stage.after_unbindPort h.begin.after_rest
    have hclosing := hport.after_setJob_due (due' := (· ∈ [i])) (i := i) (j := { j with state := .closing, binding := none })
      (fun c hc => hport.committed c i (h.listed i j hj c hc)) (fun _ _ => id) fun _ hopen => absurd rfl hopen
    exact hclosing.after_closeJobs.after_refresh

theorem beginClip_unbegun (a : ClipBeginFields) : (beginClip a).Unbegun := fun _ => ⟨fun d => by simp [beginClip, Clip.copy, Copy.fresh], rfl⟩

theorem clipBegin_balanced : BalancedOwner clipBegin := fun a _ h =>
  balanced_withJob h fun _ _ => h.checked fun _ => h.checked fun _ => by
    split
    · exact h
    next hfirst => exact (Stage.after_newClip h (firstFree_spec _ _ _ _ hfirst).1 (beginClip_unbegun a)).balanced

theorem addExtents_account (k : Clip) (v : Target) (es : List Extent) : (k.addExtents v es).account = k.account := by cases v <;> rfl

theorem extentsAdd_balanced : BalancedOwner extentsAdd := fun _ _ h =>
  balanced_withClip h fun _ _ hk _ => h.checked fun _ => by
    split
    · exact h
    · exact h.checked fun _ => h.checked fun _ => h.checked fun _ => h.checked fun _ =>
        (Stage.after_setClip_account h hk (addExtents_job _ _ _) (addExtents_account _ _ _)).balanced

/-- The committed clip joins its job's order list, and the job is evaluated (R54, R145). -/
theorem clipCommit_balanced : BalancedOwner clipCommit := fun c s h =>
  balanced_withClip h fun k j hk hj => h.checked fun hbuilding => h.checked fun _ => by
    have hclip : Stage (· ∈ [k.job]) s (setClip s c (k.committed j)) :=
      h.begin.after_setClip hk rfl (fun _ => nofun) nofun fun _ hs => absurd hs hbuilding
    refine hclip.after_listClip hj (committed_iff.mpr ⟨k.committed j, setClip_clip_self _ _ _, rfl, nofun⟩) fun n hn => ?_
    rcases hn with hn | hn
    · exact (List.mem_append.mp hn).imp .inl List.mem_singleton.mp
    · exact .inl (.inr hn)

/-- A BUILDING clip is on no list (R55). -/
theorem clipCancel_balanced : BalancedOwner clipCancel := fun c s h =>
  balanced_withClip h fun k _ hk _ => h.checked fun hbuilding => by
    have hkept {n i : Nat} (hn : s.Committed n i) : lookup (erase s.clips c) n = s.clip n :=
      lookup_erase_of_ne _ fun hnc => hbuilding (record_of_committed (hnc ▸ hn) hk).2
    refine (Stage.after_clips h (fun n i hn => ?_) (fun e he => h.unbegun e (List.mem_filter.mp he).1) fun n i hn _ => ?_).balanced
    · obtain ⟨x, hx, hrecord⟩ := committed_iff.mp hn
      exact committed_iff.mpr ⟨x, (hkept hn).trans hx, hrecord⟩
    · exact congrArg (Option.map Clip.account) (hkept hn)

/-- A STAGED clip is committed; its job is evaluated (R139, R145). -/
theorem clipRecopy_balanced : BalancedOwner clipRecopy := fun a s h =>
  balanced_withClip h fun k j hk hj => by
    split
    · exact h
    · refine h.checked fun _ => h.checked fun hstaged => h.checked fun _ => h.checked fun _ => h.checked fun _ => h.checked fun _ =>
        h.checked fun _ => ?_
      unfold recopy
      extract_lets k0 k1 j1
      have hc : s.Committed a.1 k.job := committed_iff.mpr ⟨k, hk, rfl, by simp [not_not.mp hstaged]⟩
      have hclip : Stage (· ∈ [k.job]) s (setClip s a.1 k1) := h.begin.after_setClip_due hc (List.mem_singleton_self _) hk
      refine hclip.after_listClip hj (hclip.committed _ _ hc) fun n hn => ?_
      rcases hn with hn | hn
      · exact .inl (.inl hn)
      · simp only [j1] at hn
        split at hn
        · exact .inl (.inr hn)
        · exact (List.mem_append.mp hn).imp .inr List.mem_singleton.mp

/-- A clip with a target to read back again is committed: a BUILDING one has no copy and no source verify (R49). -/
theorem reverify_balanced (h : s.Balanced) {c : Nat} {k : Clip} {v : Target} (hk : s.clip c = some k) (hs : k.sourceState ≠ .building) :
    (reverify c k v s).Balanced := by
  have hclip : Stage (· ∈ [k.job]) s (setClip s c (k.reverified v)) :=
    h.begin.after_setClip_due (committed_iff.mpr ⟨k, hk, rfl, hs⟩) (List.mem_singleton_self _) hk (reverified_job k v) (by cases v <;> exact id)
  have hqueued := hclip.after_enqueueTask (v := ⟨c, v, false⟩)
    (isCommitted_iff.mpr ⟨k.job, hclip.committed c _ (committed_iff.mpr ⟨k, hk, rfl, hs⟩)⟩)
  exact hqueued.after_evalDue.after_refresh

theorem clipReverify_balanced : BalancedOwner clipReverify := fun a s h =>
  balanced_withClip h fun k _ hk _ => by
    have hbuilding (hb : k.sourceState = .building) : (∀ d, (k.copy d).state = .none) ∧ k.sv = .off := h.unbegun (a.1, k) (mem_of_lookup hk) hb
    split
    · exact h
    · refine h.checked fun _ => ?_
      split
      next d _ =>
        refine h.checked fun hrev => h.checked fun _ => h.checked fun _ => reverify_balanced h hk fun hb => hrev ?_
        simp [Copy.reverifiable, (hbuilding hb).1 d]
      · refine h.checked fun hsv => h.checked fun _ => reverify_balanced h hk fun hb => hsv ?_
        simp [(hbuilding hb).2]

theorem destAttach_balanced : BalancedOwner destAttach := by
  intro n s h
  unfold destAttach
  split
  · exact h
  · split
    · exact (Stage.after_attach h).balanced
    · exact (Stage.after_startIdentify h).balanced
    all_goals exact h

theorem destDetach_balanced : BalancedOwner destDetach := by
  intro a s h
  unfold destDetach
  split
  · exact h
  · refine h.checked fun _ => h.checked fun _ => ?_
    split
    · exact h.begin.after_loseDest
    · exact h.checked fun _ => (Stage.after_destState h).after_refresh.balanced

theorem destQuery_balanced : BalancedOwner destQuery := by
  intro n s h
  unfold destQuery
  split <;> exact h

theorem monitorSet_balanced : BalancedOwner monitorSet := by
  intro a s h
  unfold monitorSet
  split
  · exact h
  · exact h.checked fun _ => (Stage.after_setMonitor h).after_dropHolds.after_refresh.balanced

theorem holdResume_balanced : BalancedOwner holdResume := by
  intro n s h
  unfold holdResume
  split
  · exact h
  · exact (Stage.after_dropHolds h).after_refresh.balanced

theorem configSet_balanced : BalancedOwner configSet := fun _ _ h => h.checked fun _ => (Stage.after_rest h).balanced

theorem flagsClear_balanced : BalancedOwner flagsClear := fun _ s h => by
  have hdests : Stage (fun _ => False) s { s with dests := s.dests.map fun x => { x with writeErr := false, readErr := false, timeout := false } } :=
    Stage.after_dests h fun d => by simpa [DestPort.NamesCommitted, State.dest] using h.dests d
  exact (Stage.after_rest hdests).balanced

/-! ### The resets (R1, R13) -/

/-- With no job, clip, slot and task, and nothing that a port awaits or flushes, no evaluation is due. -/
theorem balanced_of_empty (hjobs : s.jobs = []) (hclips : s.clips = []) (hslots : s.slots = []) (hqueue : s.verifyQueue = [])
    (hreaders : ∀ p, (s.reader p).chunk = none) (hengines : ∀ e, (s.engine e).task = none)
    (hdests : ∀ d, (s.dest d).awaiting = [] ∧ (s.dest d).op = none) : s.Balanced := by
  have hnone {i : Nat} {j : Job} (hj : s.job i = some j) : False := by simp [State.job, hjobs, lookup] at hj
  exact ⟨fun _ _ => id, fun _ _ hj => (hnone hj).elim, by simp [hreaders], by simp [hslots], by simp [hengines], by simp [hqueue],
    fun d => by simp [DestPort.NamesCommitted, hdests d], by simp [hclips], fun _ _ hj => (hnone hj).elim⟩

theorem hardResetState_balanced (rateHigh : Bool) : (hardResetState rateHigh s).Balanced := by
  refine balanced_of_empty rfl rfl rfl rfl (fun p => ?_) (fun e => ?_) fun d => ?_
  · simp [hardResetState, State.reset, State.reader, Reader.reset]
  · simp [hardResetState, State.reset, State.engine, Engine.idle]
  · have hdest : (hardResetState rateHigh s).dest d = hardDest (s.dest d) := by simp [hardResetState, State.dest]
    rw [hdest, hardDest]
    split <;> exact ⟨rfl, rfl⟩

theorem softResetState_balanced : (softResetState s).Balanced := by
  have hbase : (softBase s).Balanced := by
    refine balanced_of_empty rfl rfl rfl rfl (fun p => ?_) (fun e => ?_) fun d => ?_
    · simp [softBase, State.reset, State.reader, Reader.reset]
    · simp [softBase, State.reset, State.engine, Engine.idle]
    · simp [softDest, DestPort.reset]
  rw [softResetState_eq]
  exact (Stage.after_refresh (Stage.after_foldl hbase (g := fun t d => bridgeKick d t) (fun _ _ hu => hu.after_bridgeKick) _)).balanced

theorem State.Balanced.after_frameEnds (h : s.Balanced) : (frameEnds s).Balanced := by
  unfold frameEnds
  split
  · exact .after_if softResetState_balanced (Stage.after_pump (Stage.after_rest h)).balanced
  · exact h

/-! ### Command by command -/

/-- A request's command does what its owner does. -/
theorem State.Balanced.after_serve (h : s.Balanced) {α : Type} {kind : Byte} {fields : List Byte → Option α} {owner : α → State → Reply × State}
    (hown : BalancedOwner owner) : (serve kind fields owner s).Balanced := by
  refine serve_induction h fun f rest r u _ hu => State.Balanced.after_sendFrame ?_
  have htaken : (s.taken f rest).Balanced := (Stage.after_rest h).balanced
  rcases hu with rfl | ⟨a, rfl⟩
  · exact htaken
  · exact hown a _ htaken

theorem State.Balanced.after_awake (h : s.Balanced) {f : State → State} (hf : (f s).Balanced) : (awake f s).Balanced := .after_if h hf

theorem State.Balanced.after_awake_stage (h : s.Balanced) {f : State → State} (hf : Stage (fun _ => False) s (f s)) : (awake f s).Balanced :=
  h.after_awake hf.balanced

theorem exec_balanced (i : Instr) (h : s.Balanced) : Completes (fun _ t => t.Balanced) i s := by
  cases i with
  | hardReset => exact ⟨_, rfl, hardResetState_balanced _⟩
  | softReset => exact ⟨_, rfl, .after_if softResetState_balanced h⟩
  | frameSendEnd => exact ⟨_, rfl, h.after_awake h.after_frameEnds⟩
  | resetHeldLow => exact ⟨_, rfl, (Stage.after_rest h).balanced⟩
  | rxByte => exact ⟨_, rfl, h.after_awake_stage (Stage.after_receive h)⟩
  | interbyteGapTimeout => exact ⟨_, rfl, h.after_awake_stage (Stage.after_gapExpired h)⟩
  | unknownRequest => exact ⟨_, rfl, (Stage.after_refuseUnknown h).balanced⟩
  | identify => exact ⟨_, rfl, h.after_serve fun _ _ hu => hu⟩
  | statusGet => exact ⟨_, rfl, h.after_serve fun _ _ hu => (Stage.after_rest hu).balanced⟩
  | configSet => exact ⟨_, rfl, h.after_serve configSet_balanced⟩
  | flagsClear => exact ⟨_, rfl, h.after_serve flagsClear_balanced⟩
  | deviceReset => exact ⟨_, rfl, h.after_serve fun _ _ hu => (Stage.after_rest hu).balanced⟩
  | cardSurvey => exact ⟨_, rfl, h.after_serve cardSurvey_balanced⟩
  | jobOpen => exact ⟨_, rfl, h.after_serve jobOpen_balanced⟩
  | jobFinal => exact ⟨_, rfl, h.after_serve jobFinal_balanced⟩
  | jobPause => exact ⟨_, rfl, h.after_serve jobPause_balanced⟩
  | jobResume => exact ⟨_, rfl, h.after_serve jobResume_balanced⟩
  | jobAbort => exact ⟨_, rfl, h.after_serve jobAbort_balanced⟩
  | jobQuery => exact ⟨_, rfl, h.after_serve fun _ _ hu => balanced_withJob hu fun _ _ => hu⟩
  | cardRelease => exact ⟨_, rfl, h.after_serve cardRelease_balanced⟩
  | clipBegin => exact ⟨_, rfl, h.after_serve clipBegin_balanced⟩
  | extentsAdd => exact ⟨_, rfl, h.after_serve extentsAdd_balanced⟩
  | clipCommit => exact ⟨_, rfl, h.after_serve clipCommit_balanced⟩
  | clipCancel => exact ⟨_, rfl, h.after_serve clipCancel_balanced⟩
  | clipQuery => exact ⟨_, rfl, h.after_serve fun _ _ hu => balanced_withClip hu fun _ _ _ _ => hu⟩
  | clipRecopy => exact ⟨_, rfl, h.after_serve clipRecopy_balanced⟩
  | clipReverify => exact ⟨_, rfl, h.after_serve clipReverify_balanced⟩
  | destAttach => exact ⟨_, rfl, h.after_serve destAttach_balanced⟩
  | destDetach => exact ⟨_, rfl, h.after_serve destDetach_balanced⟩
  | destQuery => exact ⟨_, rfl, h.after_serve destQuery_balanced⟩
  | monitorSet => exact ⟨_, rfl, h.after_serve monitorSet_balanced⟩
  | holdResume => exact ⟨_, rfl, h.after_serve holdResume_balanced⟩
  | knownListQuery => exact ⟨_, rfl, h.after_serve fun _ _ hu => hu⟩
  | knownListClear => exact ⟨_, rfl, h.after_serve fun _ _ hu => (Stage.after_rest hu).balanced⟩
  | presenceAppear => exact ⟨_, rfl, (Stage.after_if (Stage.after_setPort h) (.after_if h (Stage.after_setPort h))).balanced⟩
  | presenceDrop => exact ⟨_, rfl, (Stage.after_if (Stage.after_setPort h) (.after_if (Stage.after_setPort h) h)).balanced⟩
  | settleTimerExpiry => exact ⟨_, rfl, h.after_awake_stage (Stage.after_settled h)⟩
  | cardRemoval => exact ⟨_, rfl, h.after_awake h.after_absenceExpired⟩
  | adapterErrorAnswer => exact ⟨_, rfl, h.after_awake_stage (Stage.after_holdError h)⟩
  | cardRequestTimeout => exact ⟨_, rfl, h.after_awake h.after_cardTimedOut⟩
  | errorConfirm => exact ⟨_, rfl, h.after_awake h.after_confirmError⟩
  | cardAbandonedAnswer => exact ⟨_, rfl, h.after_awake h.after_endAbandoned⟩
  | lampBlinkToggle => exact ⟨_, rfl, h.after_awake_stage (.after_if (Stage.after_setPort h) h)⟩
  | surveyStart => exact ⟨_, rfl, h.after_awake_stage (Stage.after_startSurvey h)⟩
  | surveyIdentifyAnswer => exact ⟨_, rfl, h.after_awake_stage (Stage.after_surveyIdentified h)⟩
  | surveyReadDone => exact ⟨_, rfl, h.after_awake_stage (Stage.after_surveyRead h)⟩
  | slotGrant => exact ⟨_, rfl, h.after_awake_stage (Stage.after_grant h)⟩
  | chunkRequestDone => exact ⟨_, rfl, h.after_awake h.after_chunkAnswered⟩
  | sourceSegmentStart => exact ⟨_, rfl, h.after_awake_stage (Stage.after_arbitrate h)⟩
  | sourceSegmentRequestDone => exact ⟨_, rfl, h.after_awake h.after_segmentAnswered⟩
  | destLinkUp => exact ⟨_, rfl, (Stage.after_if (Stage.after_setDest h) (Stage.after_linkComesUp h)).balanced⟩
  | destLinkDown => exact ⟨_, rfl, .after_if h.after_setDest h.after_linkGoesDown⟩
  | destIdentifyAnswer => exact ⟨_, rfl, h.after_awake_stage (Stage.after_identifyAnswered h)⟩
  | destRequestTimeout => exact ⟨_, rfl, h.after_awake h.after_bridgeTimedOut⟩
  | bridgeAbandonedAnswer => exact ⟨_, rfl, h.after_awake_stage (Stage.after_endAbandonedBridge h)⟩
  | destArbiterDecide => exact ⟨_, rfl, h.after_awake_stage (Stage.after_decideOp h)⟩
  | destWriteOk => exact ⟨_, rfl, h.after_awake h.after_writeAnswered⟩
  | destWriteError => exact ⟨_, rfl, h.after_awake h.after_writeError⟩
  | destFlushOk => exact ⟨_, rfl, h.after_awake h.after_flushAnswered⟩
  | destFlushError => exact ⟨_, rfl, h.after_awake h.after_flushError⟩
  | destReadOk => exact ⟨_, rfl, h.after_awake h.after_readAnswered⟩
  | destReadError => exact ⟨_, rfl, h.after_awake h.after_readError⟩
  | engineTakeTask => exact ⟨_, rfl, h.after_awake h.after_takeNext⟩
  | paceTimerExpiry => exact ⟨_, rfl, h.after_awake_stage (Stage.after_windowExpires h)⟩

/-! ### The statement's form of the accounts (R142 to R144) -/

/-- The verified count is the number of destinations whose copy is VERIFIED (R142). -/
theorem verified_eq_length (k : Clip) : k.verified = (allDests.filter fun d => decide ((k.copy d).state = .verified)).length := by
  rw [Clip.verified, copies_toList, List.countP_map, List.countP_eq_length_filter]
  rfl

theorem proven_iff {k : Clip} {j : Job} :
    k.proven j = true ↔ k.sourceState ≠ .sourceError ∧
      j.required ≤ (allDests.filter fun d => decide ((k.copy d).state = .verified)).length ∧ (j.sourceVerify = true → k.sv = .matched) := by
  rw [← verified_eq_length]
  cases hsv : j.sourceVerify <;> simp [Clip.proven, hsv, and_assoc]

theorem needsAttention_iff {k : Clip} :
    k.needsAttention = true ↔ k.sourceState = .sourceError ∨ k.sv = .mismatch ∨
      ∃ d : Dest, (k.copy d).state = .mismatch ∨ (k.copy d).state = .failed ∨ (k.copy d).state = .suspect := by
  simp only [Clip.needsAttention, copies_toList, List.any_map, Bool.or_eq_true, decide_eq_true_eq, List.any_eq_true, Function.comp_apply,
    mem_allDests, true_and, or_assoc]

theorem clearableMet_iff {j : Job} :
    clearableMet t j = true ↔ j.state = .drained ∧ ∀ c ∈ j.order, ∃ k ∈ t.clip c, k.sourceState ≠ .sourceError ∧
      j.required ≤ (allDests.filter fun d => decide ((k.copy d).state = .verified)).length ∧ (j.sourceVerify = true → k.sv = .matched) := by
  simp only [clearableMet, Bool.and_eq_true, decide_eq_true_eq, List.all_eq_true, Option.any_eq_true, proven_iff, Option.mem_def]

theorem attentionMet_iff {j : Job} :
    attentionMet t j = true ↔ ∃ c ∈ j.order, ∃ k ∈ t.clip c, k.sourceState = .sourceError ∨ k.sv = .mismatch ∨
      ∃ d : Dest, (k.copy d).state = .mismatch ∨ (k.copy d).state = .failed ∨ (k.copy d).state = .suspect := by
  simp only [attentionMet, List.any_eq_true, Option.any_eq_true, needsAttention_iff, Option.mem_def]

/-- The accounts as the statement says them. -/
theorem accountsCurrent_iff : t.AccountsCurrent ↔ ∀ e ∈ t.jobs, t.Current e.2 := by
  refine forall₂_congr fun e _ => forall_congr' fun _ => ?_
  rw [← clearableMet_iff, ← attentionMet_iff, ← Bool.eq_iff_iff, ← Bool.eq_iff_iff]

theorem balanced_of (howned : t.WorkOwned) (hcurrent : t.AccountsCurrent) : t.Balanced := by
  obtain ⟨hlisted, hchunks, hslots, htasks, hqueue, hdests, hunbegun⟩ := howned
  refine ⟨fun _ _ => id, fun i j hj c hc => ?_, hchunks, hslots, htasks, hqueue, hdests, hunbegun,
    fun i j hj _ => accountsCurrent_iff.mp hcurrent _ (mem_of_lookup hj)⟩
  obtain ⟨horder, hrecopy⟩ := hlisted _ (mem_of_lookup hj)
  exact hc.elim (horder c) (hrecopy c)

/-- In a state whose job table is keyed, each entry is what its number reads. -/
theorem State.Balanced.accounts (h : t.Balanced) (hkeyed : t.TablesKeyed) : t.WorkOwned ∧ t.AccountsCurrent := by
  have hread {e : Nat × Job} (he : e ∈ t.jobs) : t.job e.1 = some e.2 := lookup_of_mem hkeyed.1 he
  exact ⟨⟨fun e he => ⟨fun c hc => h.listed _ _ (hread he) c (.inl hc), fun c hc => h.listed _ _ (hread he) c (.inr hc)⟩,
      h.chunks, h.slots, h.tasks, h.queue, h.dests, h.unbegun⟩,
    accountsCurrent_iff.mpr fun e he => h.current _ _ (hread he) not_false⟩

end

/-- Settles O56: an event makes due the jobs whose inputs it moves, and evaluates every due job before it ends; with what the work lists name,
that is a rule of every shared operation, and so of every command. -/
theorem everyCommandKeepsAccountsCurrent : Obligations.EveryCommandKeepsAccountsCurrent := by
  intro i s t he hkeyed howned hcurrent
  have hbalanced : t.Balanced := (exec_balanced i (balanced_of howned hcurrent)).of_next he
  exact hbalanced.accounts ((everyCommandKeepsForms i s t he).2.1 hkeyed)

end Sys2Proof.Machine
end
